-- ==== Sys2Proof/Word.lean ====
section
/-! DEFINITION. The byte, and the four-fold record of the part's axes, cameras and inputs. -/

namespace Sys2Proof

/-- One byte of the fibre, of a descriptor or of a host buffer (10, opening). -/
abbrev Byte := BitVec 8

/-- Four like things numbered 0 to 3: axes, cameras, drive lines, external trip inputs. -/
structure Quad (α : Type) where
  q0 : α
  q1 : α
  q2 : α
  q3 : α
  deriving DecidableEq, Repr, Inhabited

namespace Quad

variable {α β : Type}

/-- The same value in all four places. -/
def rep (x : α) : Quad α := ⟨x, x, x, x⟩

/-- The value in place `i`. -/
def get (q : Quad α) : Fin 4 → α
  | 0 => q.q0
  | 1 => q.q1
  | 2 => q.q2
  | 3 => q.q3

/-- `q` with place `i` holding `x`. -/
def set (q : Quad α) (i : Fin 4) (x : α) : Quad α :=
  match i with
  | 0 => { q with q0 := x }
  | 1 => { q with q1 := x }
  | 2 => { q with q2 := x }
  | 3 => { q with q3 := x }

/-- `q` with place `i` changed by `f`. -/
def modify (q : Quad α) (i : Fin 4) (f : α → α) : Quad α := q.set i (f (q.get i))

/-- Every place changed by `f`. -/
def map (f : α → β) (q : Quad α) : Quad β := ⟨f q.q0, f q.q1, f q.q2, f q.q3⟩

/-- Whether some place meets `p`. -/
def any (p : α → Bool) (q : Quad α) : Bool := p q.q0 || p q.q1 || p q.q2 || p q.q3

/-- The four values in order. -/
def toList (q : Quad α) : List α := [q.q0, q.q1, q.q2, q.q3]

end Quad

end Sys2Proof
end

