-- ==== Sys2Proof/Syntax.lean ====
section
/-! DEFINITION. The steps of the part: one constructor of Instr for each row of spec/opcode_table.json. -/

namespace Sys2Proof

/-- The two command queues (R188). -/
inductive CmdQueue where
  | urgent
  | normal
  deriving DecidableEq, Repr, Inhabited

/-- The three queues of the target window (R186). -/
inductive QueueId where
  | cmd (q : CmdQueue)
  | event
  deriving DecidableEq, Repr, Inhabited

/-- The guard input and the external trip inputs; `ext n` is external input n + 1 (R136). -/
inductive TripInput where
  | guard
  | ext (n : Fin 4)
  deriving DecidableEq, Repr, Inhabited

/-- What came where the end delimiter of an arriving frame belongs (R6, R15, R16). -/
inductive FrameEnding where
  /-- the end delimiter -/
  | endDelim
  /-- the abort delimiter -/
  | abortDelim
  /-- another control symbol, or no control symbol where one belongs -/
  | broken
  deriving DecidableEq, Repr, Inhabited

/-- How a DMA read came back (R197): with its data, or with an error completion. -/
inductive DmaReply where
  | data (bytes : List Byte)
  | error
  deriving DecidableEq, Repr, Inhabited

/-- One step of the part. An operand `t` is the local time in nanoseconds at which the step happens (log 1);
a step without one happens at the moment already reached. A host command takes its parameters from the
descriptor in flight in its queue (log 42). -/
inductive Instr where
  -- resets and the host link
  | coldReset (t : Nat)
  | warmInput (t : Nat)
  | hostLinkLoss (t : Nat)
  -- inputs of the cabinet
  | eStopAsserted (t : Nat)
  | eStopReleased (t : Nat)
  | tripInputChange (t : Nat) (input : TripInput) (asserted : Bool)
  | panelStopKey (t : Nat) (held : Bool)
  | touch (t : Nat) (press : Bool) (x y : Nat)
  -- the ring
  /-- `midHeader`: a frame's start delimiter had arrived and its header had not; `arrived`: the bytes that had arrived after
  the header of the frame in reception. -/
  | lightLost (t : Nat) (midHeader : Bool) (arrived : List Byte)
  | symbolLockLost (t : Nat) (midHeader : Bool) (arrived : List Byte)
  | symbolLockGained (t : Nat)
  /-- `arrival`: the time the start delimiter arrived; the header is complete 168 ns later (R13). -/
  | frameHeaderArrival (arrival : Nat) (header : List Byte)
  /-- `body`: the bytes between the header and the ending: payload and check bytes. -/
  | frameEndArrival (t : Nat) (body : List Byte) (ending : FrameEnding)
  /-- `arriving`: the bytes of the frame in reception that have arrived by `t` (log 19). -/
  | transmitBoundary (t : Nat) (arriving : Nat)
  | bulkWaitAdmit
  | returnWatchExpiry (t : Nat)
  -- membership
  /-- `framed`: opened by a start delimiter and closed by an end delimiter directly after byte 64. -/
  | testBlockReturn (t : Nat) (bytes : List Byte) (framed : Bool)
  | lightCheckLockTimeout (t : Nat)
  | lightCheckAttemptEnd (t : Nat)
  | insertionTimeout (t : Nat)
  | leaveTimeout (t : Nat)
  | drainComplete (t : Nat)
  | helloCopy
  | shaftCopy
  | speedCopy
  | tripCopy
  | correctionCopy
  -- screens, from the ring
  | tileInvalidate
  | tileDataFragment
  | tileRequestCopy
  | touchCopy
  | viewRequest
  | viewStop
  | viewRefusal
  | viewLine
  -- ticks, cameras and strips
  | tickStart
  | triggerDue (cam : Fin 4)
  | cameraLine (t : Nat) (cam : Fin 4) (number : Nat) (pixels : List Byte)
  | triggerTimeout (t : Nat) (cam : Fin 4)
  | mapEntryReadComplete (t : Nat) (cam : Fin 4) (reply : DmaReply)
  | stripWriteComplete (t : Nat) (cam : Fin 4) (ok : Bool)
  -- beats and roster beats
  | beatStart
  | enterInStep
  | shaftLostStep
  | enterAlone
  | latenessClear
  | rosterBeatStart
  | enterMember
  | foundHistory
  | silenceRemoval (station : Nat)
  | tripLapse (origin cause detail : Nat)
  | duplicateQuiet
  -- drive lines
  | driveAnswer (t : Nat) (axis : Fin 4) (sequence : Nat) (ready torqueOn fault : Bool) (actual : Nat)
  | answerWindowClose (axis : Fin 4)
  -- screens, by time
  | groupDeadline (t : Nat) (publisher group : Nat)
  | tileProgressTimeout (t : Nat) (publisher page index : Nat)
  | displayFrameStart (t : Nat)
  -- the target window and the queues
  | queueBaseWrite (t : Nat) (q : QueueId) (value : Nat)
  | queueSizeWrite (t : Nat) (q : QueueId) (word : Nat)
  | queueRunSet (t : Nat) (q : QueueId)
  | queueRunClear (t : Nat) (q : QueueId)
  | commandTailWrite (t : Nat) (q : CmdQueue) (value : Nat)
  | eventHeadWrite (t : Nat) (value : Nat)
  | windowWriteIgnored (t : Nat) (offset value : Nat)
  | descriptorFetch (t : Nat) (q : CmdQueue)
  | descriptorReadComplete (t : Nat) (q : CmdQueue) (reply : DmaReply)
  | writebackComplete (t : Nat) (q : CmdQueue) (ok : Bool)
  -- the commands of the urgent queue
  | setSpeed
  | releaseStop
  | raiseHostTrip
  | clearHostTrip
  | acknowledgeTrips
  | enableAxis
  | disableAxis
  | coupleAxis
  | decoupleAxis
  | jogAxis
  | trimAxis
  -- the commands of the normal queue, with the completions of their transfers
  | configure
  | configReadComplete (t : Nat) (reply : DmaReply)
  | join
  | leave
  | warmReset
  | readRoster
  | readTripTable
  | readLineState
  | readCounters
  | imageWriteComplete (t : Nat) (ok : Bool)
  | giveStripBuffer
  | invalidateMapCache
  | loadMarkTable
  | markTableReadComplete (t : Nat) (reply : DmaReply)
  | startRegister
  | stopRegister
  | rearmRegister
  | setPageMap
  | pageMapReadComplete (t : Nat) (reply : DmaReply)
  | publishTiles
  | publishListReadComplete (t : Nat) (reply : DmaReply)
  | tileReadComplete (t : Nat) (reply : DmaReply)
  | openView
  | closeView
  | eventWriteComplete (t : Nat) (ok : Bool)
  | dmaTimeout (t : Nat)
  deriving DecidableEq, Repr

end Sys2Proof
end

