-- ==== Sys2Proof/Decode.lean ====
section
/-! DEFINITION. The step a word spells by the bits of spec/opcode_table.json: the table gives no row any bits, so no word
spells a step (log 5). -/

namespace Sys2Proof

/-- The step whose bits are `w`: none, since no row of the table has bits. -/
def decodeTableWord (_nbits _w : Nat) : Option Instr := none

end Sys2Proof
end

