-- ==== Sys2Proof/Config.lean ====
section
/-! DEFINITION. The configuration block as the part holds it (10, section 10.6), and the values the data book leaves to
the part. -/

namespace Sys2Proof

/-- The category of a trip cause, lowest first (R135). -/
inductive Category where
  | masked
  | warn
  | normalStop
  | fastStop
  | torqueOff
  deriving DecidableEq, Repr, Inhabited

/-- The reach of a trip: the own station, or every station (R135). -/
inductive Scope where
  | here
  | ring
  deriving DecidableEq, Repr, Inhabited

/-- The configured fields of a present axis (R72). -/
structure AxisCfg where
  n : Nat
  d : Nat
  m : Nat
  catchUp : Nat
  window : Nat
  jogAccel : Nat
  jogDecel : Nat
  fastDecel : Nat
  maxSpeed : Nat
  trimStep : Nat
  followLimit : Nat
  silentLimit : Nat
  deriving DecidableEq, Repr, Inhabited

/-- The configured fields of a present camera, those of the Camera Unit (R97) and of the Mark Unit (R117). -/
structure CamCfg where
  width : Nat
  pitch : Nat
  phase : Nat
  x0 : Nat
  x1 : Nat
  decimation : Nat
  height : Nat
  w0 : Nat
  w1 : Nat
  webThreshold : Nat
  breakLength : Nat
  mapBase : Nat
  m0 : Nat
  m1 : Nat
  markThreshold : Nat
  minWeight : Nat
  missingLimit : Nat
  toleranceCount : Nat
  minSpeed : Nat
  deriving DecidableEq, Repr, Inhabited

/-- A configuration in force (R190, R191); a zero that selects a default is already replaced by it. -/
structure Cfg where
  /-- station number, 1 to 31 (R27) -/
  station : Nat
  shaftMember : Bool
  speedAuthority : Bool
  /-- light-check repeat count B (R27, R29) -/
  repeats : Nat
  /-- required-station set: bit n for station n (R27) -/
  required : BitVec 32
  /-- upstream hop delay, ns (R13) -/
  hopDelay : Nat
  /-- class-to-lane map: bit c set puts class c in the urgent lane (R7) -/
  laneMap : BitVec 8
  /-- exclusion limit, ns (R70) -/
  exclusion : Nat
  lead : Nat
  maxSpeed : Nat
  normalRate : Nat
  fastRate : Nat
  /-- category and scope of causes 0 to 21 (R135) -/
  causeMap : List (Category × Scope)
  axes : Quad (Option AxisCfg)
  cams : Quad (Option CamCfg)
  screen : Bool
  deriving DecidableEq, Repr, Inhabited

/-- The revision number in the lower half of the identity word, which R186 does not give (log 36). -/
opaque Config.revision : Nat

/-- Where the contents of the status summary lie in its word: R186 gives the contents and no bit places (log 36).
The list holds, in the order of R186: link state, step state, adopted flag, notice outstanding, configuration present,
the run states of the urgent, normal and event queue, and the warm-reset count. -/
opaque Config.statusLayout : List Nat → Nat

end Sys2Proof
end

