-- ==== Sys2Proof/Machine/Types.lean ====
section
/-! DEFINITION. The names and records of the data book: states, frames, entries, events and transfers. -/

namespace Sys2Proof.Machine

/-- Link states (R26). -/
inductive LinkState where
  | dark
  | lightCheck
  | inserting
  | listen
  | member
  | leaving
  | bypassed
  deriving DecidableEq, Repr, Inhabited

/-- Reason of BYPASSED (R26). -/
inductive BypassReason where
  | none
  | linkFault
  | noUpstreamLight
  | duplicateNumber
  | left
  deriving DecidableEq, Repr, Inhabited

/-- Step states (R62). -/
inductive StepState where
  | shaftIdle
  | adopting
  | following
  | inStep
  | alone
  deriving DecidableEq, Repr, Inhabited

/-- Stop modes, and levels of a local stop (R47, R88). -/
inductive StopMode where
  | none
  | normal
  | fast
  deriving DecidableEq, Repr, Inhabited

/-- States of a trip entry (R138). -/
inductive TripState where
  | active
  | cleared
  | orphaned
  deriving DecidableEq, Repr, Inhabited

/-- Axis states (R73). -/
inductive AxisState where
  | disabled
  | torqueOff
  | decoupled
  | coupling
  | coupled
  | stopping
  deriving DecidableEq, Repr, Inhabited

/-- Reasons of an Axis state changed event, in the order of R95. -/
inductive AxisReason where
  | command
  | revolutionBoundary
  | couplingComplete
  | lineStop
  | localStop
  | stopComplete
  | historyReplaced
  | torqueOff
  | eStop
  | driveFault
  | followingError
  | driveLineSilent
  | configuration
  deriving DecidableEq, Repr, Inhabited

/-- States of a register loop (R128). -/
inductive LoopState where
  | off
  | seeking
  | active
  | paused
  | hold
  deriving DecidableEq, Repr, Inhabited

/-- Reasons of a Register loop changed event, in the order of R132. -/
inductive LoopReason where
  | start
  | stop
  | seekComplete
  | speed
  | referenceMissing
  | entryHeld
  | rearm
  | configuration
  deriving DecidableEq, Repr, Inhabited

/-- The Shaft Unit's view of a peer (R39). -/
inductive ShaftView where
  | unknown
  | valid
  | excluded
  | outOfStep
  | foreign
  deriving DecidableEq, Repr, Inhabited

/-- Classes of a shaft report (R59). -/
inductive ReportClass where
  | valid
  | excluded
  | foreignHigh
  | foreignLow
  deriving DecidableEq, Repr, Inhabited

/-- Reasons of a Roster changed event (10, section 10.4). -/
inductive RosterReason where
  | added
  | changed
  | replaced
  | silent
  | left
  | emptied
  deriving DecidableEq, Repr, Inhabited

/-- Frame kinds (R5). -/
inductive Kind where
  | trip
  | shaft
  | speed
  | hello
  | correction
  | tileControl
  | tileData
  | viewLine
  deriving DecidableEq, Repr, Inhabited

/-- States of a tile store entry (R164). -/
inductive TileState where
  | wanted
  | valid
  | stale
  | failed
  deriving DecidableEq, Repr, Inhabited

/-- States of a view slot (R178). -/
inductive ViewState where
  | closed
  | requested
  | opened
  | refused
  deriving DecidableEq, Repr, Inhabited

/-- The two strip buffers of a camera (R108). -/
inductive Half where
  | even
  | odd
  deriving DecidableEq, Repr, Inhabited

/-- Results of a command (R189). -/
inductive Result where
  | done
  | clamped
  | refusedState
  | refusedValue
  | refusedTrip
  | refusedQueue
  | unknown
  | failed
  deriving DecidableEq, Repr, Inhabited

/-- Purposes of a DMA transfer, in the order of R197. -/
inductive Purpose where
  | descriptorRead
  | resultWriteback
  | configRead
  | markTableRead
  | pageMapRead
  | tileRead
  | imageWrite
  | mapEntryRead
  | stripWrite
  | eventWrite
  | publishListRead
  deriving DecidableEq, Repr, Inhabited

/-- A transfer of the purpose is a write (R197). -/
def Purpose.isWrite : Purpose → Bool
  | .resultWriteback | .imageWrite | .stripWrite | .eventWrite => true
  | .descriptorRead | .configRead | .markTableRead | .pageMapRead | .tileRead | .mapEntryRead | .publishListRead => false

/-- Kinds of a DMA failure (R198). -/
inductive DmaKind where
  | timeout
  | errorCompletion
  | invalidMapEntry
  deriving DecidableEq, Repr, Inhabited

/-- The queue or camera a transfer served (R198). -/
inductive DmaUnit where
  | urgent
  | normal
  | event
  | camera (n : Fin 4)
  deriving DecidableEq, Repr, Inhabited

/-! ## Frames -/

/-- The header fields of a frame as they stand in its 20 bytes (R4, 10.1). -/
structure Header where
  kindCode : Nat
  cls : Nat
  origin : Nat
  dest : Nat
  sequence : Nat
  hop : Nat
  check : Nat
  transit : Nat
  launchDelay : Nat
  fragIndex : Nat
  fragCount : Nat
  length : Nat
  deriving DecidableEq, Repr, Inhabited

/-- A frame as its producing block gives it to the Ring Port (R4). For a Shaft frame `beatStart` is the local start of the
beat whose number it carries (R19). -/
structure LaneFrame where
  kind : Kind
  dest : Nat
  fragIndex : Nat
  fragCount : Nat
  payload : List Byte
  beatStart : Int
  deriving DecidableEq, Repr, Inhabited

/-- How a forwarded frame is closed (R14, R15). -/
inductive Closing where
  | endDelim
  | abortDelim
  deriving DecidableEq, Repr, Inhabited

/-- A frame in the pass buffer, or being forwarded: its header, the bytes after the header, the arrival time of its start
delimiter, whether its header failed (R12), and how it is closed once its end has arrived. -/
structure PassFrame where
  header : List Byte
  body : List Byte
  arrival : Nat
  headerFailed : Bool
  closing : Option Closing
  deriving DecidableEq, Repr, Inhabited

/-- What receive handling decided for the frame in reception (R11 to R13). -/
inductive RxFate where
  | ownOrigin
  | orphan
  | forwarded
  deriving DecidableEq, Repr, Inhabited

/-- The frame in reception, its header having arrived. -/
structure Reception where
  header : List Byte
  arrival : Nat
  fate : RxFate
  deriving DecidableEq, Repr, Inhabited

/-- Lanes (R7). -/
inductive Lane where
  | urgent
  | bulk
  deriving DecidableEq, Repr, Inhabited

/-- What the transmitter is sending (R2, R17): idle fill, a frame of a lane, a frame forwarded, the abort delimiter in place
of the rest of a frame cut off, or test block `block` of a light-check attempt (R29). -/
inductive Tx where
  | idle
  | abortDelim
  | test (attempt block : Nat)
  | own (lane : Lane) (kind : Kind) (header payload check : List Byte)
  | forward (f : PassFrame)
  deriving DecidableEq, Repr, Inhabited

/-- An entry of the return watch (R20). -/
structure WatchEntry where
  sequence : Nat
  launched : Nat
  deriving DecidableEq, Repr, Inhabited

/-- A frame copy as handed to an owning block, with hop count and transit as received (R14). -/
structure Copy where
  header : List Byte
  payload : List Byte
  arrival : Nat
  deriving DecidableEq, Repr, Inhabited

/-- What the Ring Port answers to an offered frame (R8 to R10). -/
inductive Offer where
  | accepted
  | dropped
  | waiting
  | refused
  deriving DecidableEq, Repr, Inhabited

/-! ## Line shaft -/

/-- The line state of R45 but its beat number and founder, which stand beside it. -/
structure Line where
  angle : Nat
  rev : Nat
  speed : Nat
  target : Nat
  accel : Nat
  decel : Nat
  stop : StopMode
  last : Option (Nat × Nat)
  deriving DecidableEq, Repr, Inhabited

/-- An entry of the pending change list (R48). -/
inductive Entry where
  | set (origin num target accel decel beat : Nat)
  | release (origin num beat : Nat)
  | stop (origin cause detail : Nat) (fast : Bool) (beat : Nat)
  deriving DecidableEq, Repr, Inhabited

/-- A report of the peer report set (R59). -/
structure Report where
  peer : Nat
  cls : ReportClass
  offset : Int
  deriving DecidableEq, Repr, Inhabited

/-- What the tick in progress gives at its end (R46). -/
structure TickResult where
  speed : Nat
  angle : Nat
  rev : Nat
  revStep : Bool
  deriving DecidableEq, Repr, Inhabited

/-- The contents of a Shaft frame's payload (R56). -/
structure ShaftMsg where
  beat : Nat
  line : Line
  step : StepState
  founder : Nat
  entries : List Entry
  deriving DecidableEq, Repr, Inhabited

/-- The contents of a Hello frame's payload (R34). -/
structure HelloMsg where
  link : LinkState
  shaftMember : Bool
  speedAuthority : Bool
  step : StepState
  founder : Nat
  stamp : Nat
  deriving DecidableEq, Repr, Inhabited

/-! ## Axes -/

/-- A drive's answer as the record keeps it (R91). -/
structure Answer where
  ready : Bool
  torqueOn : Bool
  fault : Bool
  actual : Nat
  deriving DecidableEq, Repr, Inhabited

/-- An open answer window: the setpoint its message carried and the time it closes (R91). -/
structure Window where
  setpoint : Nat
  closes : Nat
  deriving DecidableEq, Repr, Inhabited

/-! ## Cameras -/

/-- The tag of a camera line (R105); `index` is the full line index. -/
structure LineTag where
  rev : Nat
  index : Nat
  angle : Nat
  skippedBefore : Bool
  isPartial : Bool
  deriving DecidableEq, Repr, Inhabited

/-- An entry of a trigger list (R101). -/
structure Trigger where
  number : Nat
  tag : LineTag
  sent : Nat
  deriving DecidableEq, Repr, Inhabited

/-- The angles and times of the tick in progress, as trigger placement uses them (R100). -/
structure Sweep where
  start : Int
  length : Nat
  angle : Nat
  speed : Nat
  rev : Nat
  deriving DecidableEq, Repr, Inhabited

/-- A strip buffer (R108). `begun`: a strip has started in it; `complete`: its strip has strip-height lines accepted;
`aborted`: its strip met a delivery error (R114). -/
structure StripBuf where
  partOwned : Bool
  addr : Nat
  size : Nat
  begun : Bool
  lines : Nat
  written : Nat
  firstTag : Option LineTag
  gap : Option Nat
  overrun : Bool
  complete : Bool
  aborted : Bool
  mapErr : Bool
  dmaErr : Bool
  deriving DecidableEq, Repr, Inhabited

/-- One part of a line record that lies in one page: page, offset in it, bytes (R112). -/
structure Piece where
  page : Nat
  offset : Nat
  bytes : List Byte
  deriving DecidableEq, Repr, Inhabited

/-- A line record of a write queue: its buffer, its strip address, the parts not yet issued, and whether the map entry of
the first of them is being read (R110, R112). -/
structure StripRec where
  half : Half
  addr : Nat
  todo : List Piece
  reading : Bool
  deriving DecidableEq, Repr, Inhabited

/-- A translation of the map cache (R113). -/
structure Translation where
  cam : Fin 4
  page : Nat
  host : Nat
  deriving DecidableEq, Repr, Inhabited

/-! ## Register marks -/

/-- An open accumulator (R119). -/
structure Acc where
  rev : Nat
  weight : Nat
  sum : Nat
  deriving DecidableEq, Repr, Inhabited

/-- The result of a closed window: its revolution, and the position of the mark when found (R121). -/
structure WinResult where
  rev : Nat
  pos : Option Nat
  deriving DecidableEq, Repr, Inhabited

/-- The angles a tick covered, with the revolution of its start (R100, R119). -/
structure Cov where
  angle : Nat
  speed : Nat
  rev : Nat
  deriving DecidableEq, Repr, Inhabited

/-- An entry of a mark table with its running state (R118). -/
structure MarkEntry where
  enabled : Bool
  station : Nat
  axis : Nat
  gain : Nat
  start : Nat
  length : Nat
  nominal : Int
  deadband : Nat
  maxStep : Nat
  tolerance : Nat
  missing : Nat
  hold : Bool
  tolCount : Nat
  acc : Option Acc
  results : List WinResult
  deriving DecidableEq, Repr, Inhabited

/-! ## Trips -/

/-- The key of a trip (R138). -/
structure TripKey where
  origin : Nat
  cause : Nat
  detail : Nat
  deriving DecidableEq, Repr, Inhabited

/-- An entry of the trip table (R138). -/
structure TripEntry where
  key : TripKey
  category : Category
  scope : Scope
  state : TripState
  firstSeen : Nat
  refresh : Nat
  quiet : Nat
  deriving DecidableEq, Repr, Inhabited

/-- A true cause of the own station (R134) with the apply beat and founder of its last composed RAISE (R149, R150). -/
structure OwnCause where
  cause : Nat
  detail : Nat
  beat : Nat
  founder : Nat
  deriving DecidableEq, Repr, Inhabited

/-- The first-trip record (R153). -/
structure FirstTrip where
  key : TripKey
  category : Category
  scope : Scope
  beat : Nat
  angle : Nat
  rev : Nat
  header : List Byte
  payload : List Byte
  deriving DecidableEq, Repr, Inhabited

/-- Actions of a Trip frame (R139). -/
inductive TripAction where
  | raise
  | refresh
  | clear
  deriving DecidableEq, Repr, Inhabited

/-- A raise as the Trip Unit takes it, with the copy of its frame for the first-trip record (R139, R140, R153). -/
structure Raise where
  key : TripKey
  category : Category
  scope : Scope
  beat : Nat
  founder : Nat
  header : List Byte
  payload : List Byte
  deriving DecidableEq, Repr, Inhabited

/-! ## Screens -/

/-- A tile id (chapter 8, opening). -/
structure TileId where
  publisher : Nat
  page : Nat
  index : Nat
  deriving DecidableEq, Repr, Inhabited

/-- The content of a page-map position (R162). -/
inductive Content where
  | blank
  | tile (id : TileId)
  | inset (slot : Fin 2)
  deriving DecidableEq, Repr, Inhabited

/-- A group mark: group number and deadline (R164). -/
structure GroupMark where
  group : Nat
  deadline : Nat
  deriving DecidableEq, Repr, Inhabited

/-- An entry of the tile store (R164). -/
structure Tile where
  id : TileId
  state : TileState
  held : Option Nat
  awaited : Option Nat
  pixels : Option (List Byte)
  refs : Nat
  requests : Nat
  progress : Nat
  mark : Option GroupMark
  deriving DecidableEq, Repr, Inhabited

/-- A fill slot: 16 parts, each present or not (R169). -/
structure FillSlot where
  id : TileId
  version : Nat
  group : Nat
  parts : List (Option (List Byte))
  deriving DecidableEq, Repr, Inhabited

/-- A view slot (R178). `image` holds the rows of the inset image; `row` the current row with the tag written there. -/
structure ViewSlot where
  state : ViewState
  station : Nat
  cam : Nat
  k : Nat
  position : Nat
  w : Nat
  h : Nat
  image : List (List Nat)
  row : Option (Nat × LineTag)
  deriving DecidableEq, Repr, Inhabited

/-- An entry of a viewer set (R178). -/
structure Viewer where
  station : Nat
  slot : Nat
  decimation : Nat
  width : Nat
  last : Option Nat
  deriving DecidableEq, Repr, Inhabited

/-- A tile of a PUBLISH TILES list (R166). -/
structure PubTile where
  page : Nat
  index : Nat
  version : Nat
  addr : Nat
  deriving DecidableEq, Repr, Inhabited

/-- The publication in progress: its group, its tiles not yet finished, and whether the pixels of the first are being
read (R167). -/
structure Publication where
  group : Nat
  count : Nat
  tiles : List PubTile
  reading : Bool
  deriving DecidableEq, Repr, Inhabited

/-- The picture of a display frame (R161): the page map, tile store and view slots as they stood at its start. -/
structure Picture where
  pageMap : List Content
  tiles : List Tile
  view0 : ViewSlot
  view1 : ViewSlot
  deriving DecidableEq, Repr, Inhabited

/-- The contents of a Tile control payload (10.1). -/
inductive TileCtl where
  | invalidate (group count : Nat) (tiles : List (Nat × Nat × Nat))
  | request (held : Option Nat) (page index : Nat)
  | touch (press : Bool) (page x index y : Nat)
  | viewRequest (slot cam k width : Nat)
  | viewStop (slot cam : Nat)
  | viewRefusal (slot cam reason : Nat)
  deriving DecidableEq, Repr, Inhabited

/-- The contents of a Tile data payload, with its fragment index (R168). -/
structure TileFrag where
  id : TileId
  version : Nat
  group : Nat
  count : Nat
  index : Nat
  pixels : List Byte
  deriving DecidableEq, Repr, Inhabited

/-- A view line or fragment of one as a view slot takes it (R182). -/
structure ViewLineMsg where
  station : Nat
  slot : Nat
  cam : Nat
  tag : LineTag
  column : Nat
  pixels : List Byte
  deriving DecidableEq, Repr, Inhabited

/-! ## Events (R195, 10.4) -/

/-- An event a block posts. -/
inductive Event where
  | stripDone (cam : Fin 4) (half : Half) (lines : Nat) (overrun mapErr dmaErr : Bool) (first : Option LineTag)
      (gap : Option Nat)
  | stripDropped (cam : Fin 4) (tag : LineTag)
  | tripNotice (entries active : Nat) (gateOpen lost more : Bool)
  | linkChanged (new prev : LinkState) (reason : BypassReason) (attempt errors : Nat)
  | duplicateSeen (link : LinkState) (hop stamp : Nat)
  | rosterChanged (station : Nat) (reason : RosterReason)
  | stepChanged (new prev : StepState) (founder : Nat) (adopted : Bool)
  | axisChanged (axis : Fin 4) (new prev : AxisState) (reason : AxisReason) (setpoint actual : Nat)
  | loopChanged (cam : Fin 4) (new prev : LoopState) (reason : LoopReason) (entry : Option Nat) (holds : List Bool)
  | tileWanted (station page index : Nat) (held : Option Nat)
  | touch (source : Nat) (press notDelivered inset : Bool) (pageOrSlot x y indexOrPosition : Nat)
  | viewRefused (slot station cam reason : Nat)
  | dmaError (purpose : Purpose) (kind : DmaKind) (unit : DmaUnit) (addr beat : Nat)
  deriving DecidableEq, Repr, Inhabited

/-! ## Command Port -/

/-- The commands of the catalogue with their parameters (R189, 10.3), and a code outside it. -/
inductive HostCmd where
  | setSpeed (target accel decel : Nat)
  | releaseStop
  | raiseHostTrip (code : Nat)
  | clearHostTrip (code : Nat)
  | acknowledgeTrips
  | enableAxis (axis : Nat)
  | disableAxis (axis : Nat)
  | coupleAxis (axis phase : Nat)
  | decoupleAxis (axis mode : Nat)
  | jogAxis (axis target : Nat)
  | trimAxis (axis : Nat) (amount : Int)
  | configure (addr len : Nat)
  | join
  | leave
  | warmReset
  | readRoster (addr len : Nat)
  | readTripTable (addr len : Nat)
  | readLineState (addr len : Nat)
  | readCounters (addr len : Nat)
  | giveStripBuffer (cam buffer addr size : Nat)
  | invalidateMapCache
  | loadMarkTable (cam addr len : Nat)
  | startRegister (cam : Nat)
  | stopRegister (cam : Nat)
  | rearmRegister (cam : Nat)
  | setPageMap (addr len : Nat)
  | publishTiles (addr len : Nat)
  | openView (slot station cam k position w h : Nat)
  | closeView (slot : Nat)
  | unlisted (code : Nat)
  deriving DecidableEq, Repr, Inhabited

/-- How far the command in flight has come (R189): taken and not yet executed, waiting for DMA or the Ring Port, or its
write-back issued. -/
inductive Phase where
  | taken
  | working
  | writing
  deriving DecidableEq, Repr, Inhabited

/-- The command in flight in a command queue: its descriptor's index, its parameters, and how far it has come. -/
structure InFlight where
  index : Nat
  cmd : HostCmd
  phase : Phase
  deriving DecidableEq, Repr, Inhabited

/-- What a strip write or map entry read is for: a strip buffer of its camera, the strip address of its record, and whether
it still serves the strip in that buffer: one whose strip was aborted or let go of does not (R114, R115). -/
structure StripUse where
  half : Half
  addr : Nat
  serves : Bool
  deriving DecidableEq, Repr, Inhabited

/-- A DMA transfer in flight (R197): a read of `len` bytes at `addr`, or a write of the segments of `segs`, each an address
with its bytes. `strip` is there for the strip writes and map entry reads of the Camera Unit (R110, R112). -/
structure Transfer where
  purpose : Purpose
  unit : DmaUnit
  addr : Nat
  len : Nat
  segs : List (Nat × List Byte)
  issued : Nat
  strip : Option StripUse
  deriving DecidableEq, Repr, Inhabited

/-- The DMA error record when filled (R198); `strip` is the strip address R114 asks for beside the host address. -/
structure DmaError where
  purpose : Purpose
  kind : DmaKind
  addr : Nat
  unit : DmaUnit
  beat : Nat
  strip : Option Nat
  deriving DecidableEq, Repr, Inhabited

end Sys2Proof.Machine
end

