-- ==== Sys2Proof/Machine/State.lean ====
section
/-! DEFINITION. The state of the part, block by block, and the state after reset. -/

namespace Sys2Proof.Machine

/-- A reason the block stops: it has none. What goes wrong in this part is a cause, a counter, a result or an event
(chapters 1 to 9), so no step of the model faults. -/
inductive Fault
  deriving DecidableEq, Repr

/-- A reason a step has no meaning in the model. -/
inductive Refusal where
  /-- Raised by exec for a row of the table that has no meaning yet; safe. No arm raises it. -/
  | notModelled (mnemonic : String)
  deriving DecidableEq, Repr

/-- The levels of the inputs (R136, R161), with light and symbol lock of the receiver (R1). -/
structure Pins where
  eStop : Bool
  guard : Bool
  ext : Quad Bool
  stopKey : Bool
  light : Bool
  lock : Bool
  deriving DecidableEq, Repr, Inhabited

/-- Ring Port (chapter 1). -/
structure Rp where
  seq : Nat
  urgent : List LaneFrame
  bulk : List LaneFrame
  /-- classes of the waiting offers, in the order in which they began to wait (R9) -/
  waitList : List Nat
  /-- frames the waiting blocks keep, each class's waiting frame first (R9); class 4 waits in the Mark Unit's send list -/
  held : List LaneFrame
  pass : List PassFrame
  rx : Option Reception
  tx : Tx
  watch : List WatchEntry
  consecMissing : Nat
  errWindow : Nat
  receiverErrors : Nat
  aborted : Nat
  orphans : Nat
  unmatched : Nat
  unwatched : Nat
  returnMissing : Nat
  urgentOverflow : Nat
  deriving DecidableEq, Repr, Inhabited

/-- The attempt of a light check (R29). -/
structure LightCheck where
  start : Nat
  lockAt : Option Nat
  returned : Nat
  errors : Nat
  deriving DecidableEq, Repr, Inhabited

/-- A roster slot (R39); the slot's index in the table gives its station number. -/
structure RosterSlot where
  present : Bool
  link : LinkState
  shaftMember : Bool
  speedAuthority : Bool
  stamp : Nat
  step : StepState
  founder : Nat
  distance : Nat
  silence : Nat
  required : Bool
  view : ShaftView
  exclusions : Nat
  deriving DecidableEq, Repr, Inhabited

/-- Membership Controller (chapter 2). -/
structure Mc where
  link : LinkState
  reason : BypassReason
  joinStamp : Nat
  attempt : Nat
  check : LightCheck
  listen : Nat
  /-- the time the insertion timer runs out, or stopped (R31) -/
  insTimer : Option Nat
  /-- the time the leave timer runs out, or stopped (R37) -/
  leaveTimer : Option Nat
  dupQuiet : Nat
  /-- a foreign Hello with the own number came in this roster beat (R36) -/
  dupHeard : Bool
  /-- 31 slots, station 1 first -/
  roster : List RosterSlot
  /-- the local tick counter (R28) -/
  ticks : Nat
  deriving DecidableEq, Repr, Inhabited

/-- Shaft Unit (chapter 3). -/
structure Su where
  beat : Nat
  line : Line
  founder : Nat
  /-- what the tick in progress gives at its end (R46) -/
  next : TickResult
  inTick : Bool
  tickStart : Int
  tickEnd : Int
  /-- ticks of the beat in progress that have started -/
  tickIdx : Nat
  /-- lengths of the eight ticks of the beat in progress (R44) -/
  tickLens : List Nat
  beatPrev : Int
  beatCur : Int
  beatNext : Int
  /-- beat 0 starts at the end of the tick in progress (R71) -/
  beatZeroDue : Bool
  /-- the beat start just taken is a roster-beat start not yet taken (R44) -/
  rosterDue : Bool
  /-- the snapshots of the current and the previous beat, with the founder of each (R45) -/
  snapCur : Line
  snapCurFounder : Nat
  snapPrev : Line
  snapPrevFounder : Nat
  list : List Entry
  reports : List Report
  step : StepState
  adopted : Bool
  heldHistory : Bool
  heardQualifying : Bool
  rosterSinceMember : Nat
  cmdNo : Nat
  settled : Nat
  minority : Nat
  alone : Nat
  /-- the entry into ALONE that the last beat start called for is still to be taken (R68; log 73) -/
  aloneDue : Bool
  /-- beats without lateness (R51) -/
  calm : Nat
  lateThisBeat : Bool
  beatUnmatched : Nat
  transitSaturated : Nat
  offsetBeyond : Nat
  snapshotMismatch : Nat
  ignoredSpeed : Nat
  lateChanges : Nat
  droppedEntries : Nat
  deriving DecidableEq, Repr, Inhabited

/-- The fields of an axis record that change (R72); the configured ones stand in the configuration. -/
structure Axis where
  state : AxisState
  g : Nat
  rmd : Nat
  phase : Nat
  p : Nat
  v : Nat
  jogTarget : Nat
  stopFast : Bool
  trimPending : Int
  trimApplied : Int
  decouplePending : Bool
  /-- the boundary decouple takes effect at the end of the tick in progress (R83) -/
  decoupleAtEnd : Bool
  setpoint : Nat
  driveSeq : Nat
  /-- a Setpoint message has been sent since the reset or configuration (R91) -/
  sentAny : Bool
  last : Option Answer
  answered : Bool
  missed : Nat
  following : Nat
  window : Option Window
  deriving DecidableEq, Repr, Inhabited

/-- Axis Unit (chapter 4). -/
structure Au where
  axes : Quad Axis
  localStop : StopMode
  missedAnswers : Nat
  discardedCorrections : Nat
  deriving DecidableEq, Repr, Inhabited

/-- A camera record's state (chapter 5). -/
structure Cam where
  trigNo : Nat
  lastSent : Option Nat
  owed : Bool
  trigs : List Trigger
  missing : Nat
  webCount : Nat
  /-- angle, without wrap, from which the next trigger of the tick in progress is placed (R100) -/
  cursor : Nat
  /-- the same for the tick before -/
  lastCursor : Nat
  even : StripBuf
  odd : StripBuf
  selector : Half
  /-- a strip is in progress in the selector's buffer (R109) -/
  inProgress : Bool
  /-- the open gap's count of dropped lines (R111) -/
  gap : Option Nat
  queue : List StripRec
  deriving DecidableEq, Repr, Inhabited

/-- Camera Unit (chapter 5). -/
structure Cu where
  cams : Quad Cam
  sweep : Option Sweep
  /-- the sweep of the tick before, whose last triggers may still be due at its end (R100; log 65) -/
  lastSweep : Option Sweep
  /-- the eight places of the map cache (R113) -/
  cache : List (Option Translation)
  pointer : Nat
  invalidate : Bool
  /-- the configuration that has passed its checks and waits for strip writes already issued (R115; log 25) -/
  draining : Option Cfg
  skippedLines : Nat
  missingLines : Nat
  droppedLines : Nat
  mapErrors : Nat
  deriving DecidableEq, Repr, Inhabited

/-- A register loop with its mark table (chapter 6). -/
structure Loop where
  state : LoopState
  missing : Nat
  seek : Nat
  entries : List MarkEntry
  deriving DecidableEq, Repr, Inhabited

/-- Mark Unit (chapter 6). -/
structure Mu where
  loops : Quad Loop
  /-- the angles of the last tick and of the one before it (R119) -/
  cov1 : Option Cov
  cov2 : Option Cov
  sendList : List LaneFrame
  deriving DecidableEq, Repr, Inhabited

/-- Trip Unit (chapter 7). -/
structure Tu where
  /-- the local cause state, in cause order and then detail order (R134) -/
  causes : List OwnCause
  table : List TripEntry
  first : Option FirstTrip
  more : Bool
  firstTorqueOff : Option Nat
  firstStop : Option Nat
  firstWarn : Option Nat
  multiTorqueOff : Bool
  lost : Bool
  noticeOut : Bool
  changesPending : Bool
  /-- the queues are not set up again after a loss of the host link (R159) -/
  noticeHeld : Bool
  deriving DecidableEq, Repr, Inhabited

/-- Screen Unit (chapter 8). -/
structure Scu where
  pageMap : List Content
  /-- the tile store in store order, least recently referenced first (R164) -/
  tiles : List Tile
  fills : List FillSlot
  view0 : ViewSlot
  view1 : ViewSlot
  viewers : Quad (List Viewer)
  group : Nat
  pub : Option Publication
  picture : Option Picture
  touchInCourse : Bool
  storeFull : Nat
  fillIgnored : Nat
  fillFailures : Nat
  deriving DecidableEq, Repr, Inhabited

/-- A command queue (R186, R188). -/
structure CmdQ where
  base : Nat
  size : Nat
  run : Bool
  head : Nat
  tail : Nat
  /-- the descriptor read of the head has been issued -/
  fetching : Bool
  /-- the descriptor at the head was found with owner host (R188) -/
  waitTail : Bool
  inFlight : Option InFlight
  deriving DecidableEq, Repr, Inhabited

/-- The event queue (R195). -/
structure EvQ where
  base : Nat
  size : Nat
  run : Bool
  head : Nat
  tail : Nat
  /-- events awaiting their write, in the order posted -/
  awaiting : List Event
  /-- the write of the first of them has been issued -/
  writing : Bool
  deriving DecidableEq, Repr, Inhabited

/-- Command Port (chapter 9). -/
structure Cmp where
  urgent : CmdQ
  normal : CmdQ
  event : EvQ
  lostPending : Nat
  /-- transfers in flight, in the order issued -/
  dma : List Transfer
  dmaErr : Option DmaError
  dmaMore : Bool
  eventsLost : Nat
  warmCount : Nat
  /-- message-signalled interrupts sent (R196) -/
  interrupts : Nat
  deriving DecidableEq, Repr, Inhabited

/-- The state of the part. Its first fields are the model's own: the queue of steps waiting (log 2), the local time in
nanoseconds (log 1), and the frame copies waiting for their block (log 21). -/
structure State where
  pending : List Instr
  now : Nat
  inMc : List Copy
  inSu : List Copy
  inTu : List Copy
  inAu : List Copy
  inScu : List Copy
  pins : Pins
  cfg : Option Cfg
  rp : Rp
  mc : Mc
  su : Su
  au : Au
  cu : Cu
  mu : Mu
  tu : Tu
  scu : Scu
  cmp : Cmp
  deriving DecidableEq, Repr, Inhabited

/-! ## Named updates: one per block -/

def State.onPins (f : Pins → Pins) (s : State) : State := { s with pins := f s.pins }
def State.onRp (f : Rp → Rp) (s : State) : State := { s with rp := f s.rp }
def State.onMc (f : Mc → Mc) (s : State) : State := { s with mc := f s.mc }
def State.onSu (f : Su → Su) (s : State) : State := { s with su := f s.su }
def State.onAu (f : Au → Au) (s : State) : State := { s with au := f s.au }
def State.onCu (f : Cu → Cu) (s : State) : State := { s with cu := f s.cu }
def State.onMu (f : Mu → Mu) (s : State) : State := { s with mu := f s.mu }
def State.onTu (f : Tu → Tu) (s : State) : State := { s with tu := f s.tu }
def State.onScu (f : Scu → Scu) (s : State) : State := { s with scu := f s.scu }
def State.onCmp (f : Cmp → Cmp) (s : State) : State := { s with cmp := f s.cmp }

/-! ## Reset values, block by block -/

/-- All inputs released, no light, no lock: DESIGN CHOICE (log 6); R25 gives no symbol lock. -/
def Pins.released : Pins :=
  { eStop := false, guard := false, ext := Quad.rep false, stopKey := false, light := false, lock := false }

/-- The Ring Port after either reset (R25). -/
def Rp.reset : Rp :=
  { seq := 0, urgent := [], bulk := [], waitList := [], held := [], pass := [], rx := none, tx := .idle, watch := []
    consecMissing := 0, errWindow := 0, receiverErrors := 0, aborted := 0, orphans := 0, unmatched := 0
    unwatched := 0, returnMissing := 0, urgentOverflow := 0 }

/-- An absent roster slot with its required flag (R43). -/
def RosterSlot.absent (required : Bool) : RosterSlot :=
  { present := false, link := .dark, shaftMember := false, speedAuthority := false, stamp := 0, step := .shaftIdle
    founder := 0, distance := 0, silence := 0, required := required, view := .unknown, exclusions := 0 }

/-- The roster with every slot absent and the required flags of a required set (R27, R43). -/
def emptyRoster (required : BitVec 32) : List RosterSlot :=
  (List.range 31).map fun i => RosterSlot.absent (required.getLsbD (i + 1))

/-- The Membership Controller after a reset, with the tick counter and required set it leaves (R43). -/
def Mc.reset (ticks : Nat) (required : BitVec 32) : Mc :=
  { link := .dark, reason := .none, joinStamp := 0, attempt := 0
    check := { start := 0, lockAt := none, returned := 0, errors := 0 }
    listen := 0, insTimer := none, leaveTimer := none, dupQuiet := 0, dupHeard := false
    roster := emptyRoster required, ticks := ticks }

/-- The initial line state (R45). -/
def Line.initial : Line :=
  { angle := 0, rev := 0, speed := 0, target := 0, accel := 1, decel := 1, stop := .none, last := none }

/-- Eight ticks of nominal length (R44). -/
def nominalTicks : List Nat := List.replicate 8 125000

/-- The Shaft Unit with beat 0 starting at local time `start` (R71). The start of the beat before it, which the data book
does not give, is one nominal beat earlier: DESIGN CHOICE (log 26). -/
def Su.reset (start : Int) : Su :=
  { beat := 0, line := .initial, founder := 0
    next := { speed := 0, angle := 0, rev := 0, revStep := false }
    inTick := false, tickStart := start, tickEnd := start, tickIdx := 0, tickLens := nominalTicks
    beatPrev := start - 1000000, beatCur := start, beatNext := start + 1000000, beatZeroDue := false, rosterDue := false
    snapCur := .initial, snapCurFounder := 0, snapPrev := .initial, snapPrevFounder := 0
    list := [], reports := [], step := .shaftIdle, adopted := false
    heldHistory := false, heardQualifying := false, rosterSinceMember := 0, cmdNo := 0, settled := 0, minority := 0
    alone := 0, aloneDue := false, calm := 0, lateThisBeat := false, beatUnmatched := 0, transitSaturated := 0, offsetBeyond := 0
    snapshotMismatch := 0, ignoredSpeed := 0, lateChanges := 0, droppedEntries := 0 }

/-- An axis record after a reset, in the state the configuration gives it (R96). -/
def Axis.reset (state : AxisState) : Axis :=
  { state := state, g := 0, rmd := 0, phase := 0, p := 0, v := 0, jogTarget := 0, stopFast := false, trimPending := 0
    trimApplied := 0, decouplePending := false, decoupleAtEnd := false, setpoint := 0, driveSeq := 0, sentAny := false
    last := none, answered := false, missed := 0, following := 0, window := none }

/-- The state an axis takes from its configured fields: TORQUE_OFF when present, DISABLED when absent (R73, R96). -/
def axisResetState (c : Option AxisCfg) : AxisState := if c.isSome then .torqueOff else .disabled

/-- The Axis Unit after a reset, under the axes of a configuration (R96). -/
def Au.reset (axes : Quad (Option AxisCfg)) : Au :=
  { axes := axes.map fun c => Axis.reset (axisResetState c), localStop := .none, missedAnswers := 0
    discardedCorrections := 0 }

/-- A host-owned strip buffer (R116). -/
def StripBuf.hostOwned : StripBuf :=
  { partOwned := false, addr := 0, size := 0, begun := false, lines := 0, written := 0, firstTag := none, gap := none
    overrun := false, complete := false, aborted := false, mapErr := false, dmaErr := false }

/-- A camera after a reset or a configuration (R115, R116). -/
def Cam.reset : Cam :=
  { trigNo := 0, lastSent := none, owed := false, trigs := [], missing := 0, webCount := 0, cursor := 0, lastCursor := 0
    even := .hostOwned, odd := .hostOwned, selector := .even, inProgress := false, gap := none, queue := [] }

/-- The empty map cache (R113). -/
def emptyCache : List (Option Translation) := List.replicate 8 none

/-- The Camera Unit after a reset (R116). -/
def Cu.reset : Cu :=
  { cams := Quad.rep .reset, sweep := none, lastSweep := none, cache := emptyCache, pointer := 0, invalidate := false
    draining := none, skippedLines := 0, missingLines := 0, droppedLines := 0, mapErrors := 0 }

/-- A disabled mark entry with all fields 0 (R133). -/
def MarkEntry.empty : MarkEntry :=
  { enabled := false, station := 0, axis := 0, gain := 0, start := 0, length := 0, nominal := 0, deadband := 0
    maxStep := 0, tolerance := 0, missing := 0, hold := false, tolCount := 0, acc := none, results := [] }

/-- A loop in OFF with an empty table (R133). -/
def Loop.reset : Loop :=
  { state := .off, missing := 0, seek := 0, entries := List.replicate 8 .empty }

/-- The Mark Unit after a reset (R133). -/
def Mu.reset : Mu := { loops := Quad.rep .reset, cov1 := none, cov2 := none, sendList := [] }

/-- The Trip Unit after a cold reset (R160). -/
def Tu.reset : Tu :=
  { causes := [], table := [], first := none, more := false, firstTorqueOff := none, firstStop := none
    firstWarn := none, multiTorqueOff := false, lost := false, noticeOut := false, changesPending := false
    noticeHeld := false }

/-- A CLOSED view slot with a background image (R185). -/
def ViewSlot.reset : ViewSlot :=
  { state := .closed, station := 0, cam := 0, k := 0, position := 0, w := 0, h := 0, image := [], row := none }

/-- The Screen Unit after a reset (R185). -/
def Scu.reset : Scu :=
  { pageMap := List.replicate 768 .blank, tiles := [], fills := [], view0 := .reset, view1 := .reset
    viewers := Quad.rep [], group := 0, pub := none, picture := none, touchInCourse := false, storeFull := 0
    fillIgnored := 0, fillFailures := 0 }

/-- A command queue that is not set up (R201). -/
def CmdQ.reset : CmdQ :=
  { base := 0, size := 0, run := false, head := 0, tail := 0, fetching := false, waitTail := false, inFlight := none }

/-- An event queue that is not set up (R201). -/
def EvQ.reset : EvQ :=
  { base := 0, size := 0, run := false, head := 0, tail := 0, awaiting := [], writing := false }

/-- The Command Port after a cold reset (R201). -/
def Cmp.reset : Cmp :=
  { urgent := .reset, normal := .reset, event := .reset, lostPending := 0, dma := [], dmaErr := none, dmaMore := false
    eventsLost := 0, warmCount := 0, interrupts := 0 }

/-- The part after a cold reset at local time `now` with its inputs at `pins`, no trip input yet reported
(R25, R43, R71, R96, R116, R133, R160, R185, R201). -/
def State.cold (now : Nat) (pins : Pins) (pending : List Instr) : State :=
  { pending := pending, now := now, inMc := [], inSu := [], inTu := [], inAu := [], inScu := [], pins := pins
    cfg := none, rp := .reset, mc := .reset 0 0, su := .reset now, au := .reset (Quad.rep none), cu := .reset
    mu := .reset, tu := .reset, scu := .reset, cmp := .reset }

/-- The part right after power-on: the cold reset values, at local time 0, with every input released (log 6). -/
def State.reset : State := State.cold 0 .released []

end Sys2Proof.Machine
end

