-- ==== Sys2Proof/Machine/Bytes.lean ====
section
/-! DEFINITION. Byte order, signed and wrapping numbers, rounding, and the two checks of a frame. -/

namespace Sys2Proof.Machine

/-- 2^32, the range of beat numbers, line angles and counters. -/
abbrev two32 : Nat := 4294967296

/-- The low byte of a number. -/
def byte (n : Nat) : Byte := BitVec.ofNat 8 n

/-- `k` bytes of a number, least significant first (10, opening). -/
def le (k n : Nat) : List Byte := (List.range k).map fun i => byte (n / 256 ^ i)

/-- The number in the `k` bytes at `off`, least significant first; bytes past the end read 0. -/
def rd (bs : List Byte) (off k : Nat) : Nat :=
  (List.range k).foldr (fun i acc => (bs.getD (off + i) 0).toNat + 256 * acc) 0

/-- `n` fill bytes (R202). -/
def fill (n : Nat) : List Byte := List.replicate n 0

/-- The bytes with fill up to `n`. -/
def padTo (n : Nat) (bs : List Byte) : List Byte := bs.take n ++ fill (n - bs.length)

/-- A flag as bit `i` of a number. -/
def flagBit (i : Nat) (b : Bool) : Nat := if b then 2 ^ i else 0

/-- `x` read as a signed number of `w` bits (Conventions). -/
def signed (w : Nat) (x : Int) : Int :=
  let r := x % (2 ^ w : Nat)
  if r < (2 ^ (w - 1) : Nat) then r else r - (2 ^ w : Nat)

/-- A signed number as `w` bits, two's complement. -/
def unsigned (w : Nat) (x : Int) : Nat := (x % (2 ^ w : Nat)).toNat

/-- `a` is newer than `b` in a range of `w` bits (Conventions). -/
def newer (w a b : Nat) : Bool :=
  let d := (a + (2 ^ w - b % 2 ^ w)) % 2 ^ w
  d != 0 && decide (d < 2 ^ (w - 1))

/-- Beat `a` is later than beat `b`: their difference modulo 2^32, read as signed, is above 0 (Conventions). -/
def beatLater (a b : Nat) : Bool := decide (0 < signed 32 ((a : Int) - b))

/-- A count that holds at 2^32 − 1 (R24). -/
def bump (n : Nat) : Nat := min (n + 1) (two32 - 1)

/-- The least integer not below `a / b`. -/
def ceilDiv (a b : Nat) : Nat := (a + b - 1) / b

/-- `x` limited to −`l` to `l`. -/
def clampTo (l x : Int) : Int := max (-l) (min l x)

/-- `a / b` to the nearest integer, halves away from zero (R85). -/
def roundHalfAway (a : Int) (b : Nat) : Int :=
  let q : Int := ((2 * a.natAbs + b) / (2 * b) : Nat)
  if a < 0 then -q else q

/-- `a / b` to the nearest integer, halves down (R121). -/
def roundHalfDown (a b : Nat) : Nat := (2 * a + b - 1) / (2 * b)

/-- `a` modulo `m`, a difference taken round (0 for a modulus of 0). -/
def subMod (a b m : Nat) : Nat := (a + (m - b % m)) % m

/-! ## The checks of a frame (R202) -/

/-- One bit of the CRC-8 with polynomial x^8 + x^2 + x + 1, most significant bit first. -/
def crc8Bit (c : Nat) : Nat := if 128 ≤ c then (c * 2 % 256) ^^^ 7 else c * 2

/-- The CRC-8 after one more byte. -/
def crc8Byte (c : Nat) (b : Byte) : Nat := (List.range 8).foldl (fun x _ => crc8Bit x) (c ^^^ b.toNat)

/-- The header check's CRC-8: initial value 0, no final inversion. -/
def crc8 (bs : List Byte) : Nat := bs.foldl crc8Byte 0

/-- One bit of the CRC-32 with polynomial 04C11DB7h, least significant bit first (EDB88320h is that polynomial with its
bits in the other order). -/
def crc32Bit (c : Nat) : Nat := if c % 2 = 1 then (c / 2) ^^^ 0xEDB88320 else c / 2

/-- The CRC-32 after one more byte. -/
def crc32Byte (c : Nat) (b : Byte) : Nat := (List.range 8).foldl (fun x _ => crc32Bit x) (c ^^^ b.toNat)

/-- The CRC-32: initial value FFFFFFFFh, result inverted. -/
def crc32 (bs : List Byte) : Nat := (bs.foldl crc32Byte 0xFFFFFFFF) ^^^ 0xFFFFFFFF

end Sys2Proof.Machine
end

