-- ==== Sys2Proof/Machine/Flags.lean ====
section
/-! DEFINITION. What is computed from the state rather than held in it: the configuration in force with its defaults, the
outputs, the derived conditions, the status summary and the words of the target window. -/

namespace Sys2Proof.Machine

/-! ## The configuration in force -/

/-- The own station number; 0 while no configuration is loaded (R138, R160). -/
def State.ownStation (s : State) : Nat := (s.cfg.map (·.station)).getD 0

/-- The shaft member flag (R27, R43). -/
def State.shaftMember (s : State) : Bool := (s.cfg.map (·.shaftMember)).getD false

/-- The speed authority flag (R27, R43). -/
def State.speedAuthority (s : State) : Bool := (s.cfg.map (·.speedAuthority)).getD false

/-- The number of blocks B of a light-check attempt (R29). -/
def State.repeats (s : State) : Nat := (s.cfg.map (·.repeats)).getD 32

/-- The upstream hop delay; 0 until a configuration is loaded (R13). -/
def State.hopDelay (s : State) : Nat := (s.cfg.map (·.hopDelay)).getD 0

/-- The exclusion limit (R70). -/
def State.exclusion (s : State) : Nat := (s.cfg.map (·.exclusion)).getD 50000

/-- The lead (R70). -/
def State.lead (s : State) : Nat := (s.cfg.map (·.lead)).getD 4

/-- The maximum line speed (R70). -/
def State.maxSpeed (s : State) : Nat := (s.cfg.map (·.maxSpeed)).getD 0

/-- The normal stop rate (R70). -/
def State.normalRate (s : State) : Nat := (s.cfg.map (·.normalRate)).getD 1

/-- The fast stop rate (R70). -/
def State.fastRate (s : State) : Nat := (s.cfg.map (·.fastRate)).getD 1

/-- A screen is present (R161, R184). -/
def State.screen (s : State) : Bool := (s.cfg.map (·.screen)).getD false

/-- The configured fields of an axis that is present (R72). -/
def State.axisCfg (s : State) (i : Fin 4) : Option AxisCfg := s.cfg.bind fun c => c.axes.get i

/-- The configured fields of a camera that is present (R97). -/
def State.camCfg (s : State) (i : Fin 4) : Option CamCfg := s.cfg.bind fun c => c.cams.get i

/-- The default cause map (R134). -/
def defaultCauseMap : List (Category × Scope) :=
  [(.torqueOff, .ring), (.fastStop, .ring), (.masked, .here), (.masked, .here), (.masked, .here), (.masked, .here),
   (.fastStop, .ring), (.warn, .here), (.fastStop, .ring), (.fastStop, .ring), (.fastStop, .ring), (.warn, .here),
   (.warn, .here), (.fastStop, .ring), (.fastStop, .ring), (.fastStop, .ring), (.fastStop, .ring), (.warn, .here),
   (.warn, .here), (.warn, .ring), (.normalStop, .ring), (.warn, .here)]

/-- The category and scope of a cause; cause 0 is TorqueOff with Ring scope in every configuration (R135). -/
def State.causeEntry (s : State) (cause : Nat) : Category × Scope :=
  if cause = 0 then (.torqueOff, .ring)
  else ((s.cfg.map (·.causeMap)).getD defaultCauseMap).getD cause (.masked, .here)

/-- The lane of a class: class 0 is always urgent; without a configuration classes 0 to 4 are urgent (R7). -/
def State.laneOf (s : State) (cls : Nat) : Lane :=
  if cls = 0 then .urgent
  else match s.cfg with
    | some c => if c.laneMap.getLsbD cls then .urgent else .bulk
    | none => if cls ≤ 4 then .urgent else .bulk

/-! ## Codes (10.1) -/

def LinkState.code : LinkState → Nat
  | .dark => 0
  | .lightCheck => 1
  | .inserting => 2
  | .listen => 3
  | .member => 4
  | .leaving => 5
  | .bypassed => 6

def StepState.code : StepState → Nat
  | .shaftIdle => 0
  | .adopting => 1
  | .following => 2
  | .inStep => 3
  | .alone => 4

def StopMode.code : StopMode → Nat
  | .none => 0
  | .normal => 1
  | .fast => 2

def AxisState.code : AxisState → Nat
  | .disabled => 0
  | .torqueOff => 1
  | .decoupled => 2
  | .coupling => 3
  | .coupled => 4
  | .stopping => 5

def LoopState.code : LoopState → Nat
  | .off => 0
  | .seeking => 1
  | .active => 2
  | .paused => 3
  | .hold => 4

end Sys2Proof.Machine

namespace Sys2Proof

/-- The code of a category (10.1). -/
def Category.code : Category → Nat
  | .masked => 0
  | .warn => 1
  | .normalStop => 2
  | .fastStop => 3
  | .torqueOff => 4

/-- The code of a scope (10.1). -/
def Scope.code : Scope → Nat
  | .here => 0
  | .ring => 1

end Sys2Proof

namespace Sys2Proof.Machine

/-! ## Stop modes -/

/-- The higher of two stop modes: FAST above NORMAL above NONE (R47, R75). -/
def StopMode.higher (a b : StopMode) : StopMode := if a.code < b.code then b else a

/-! ## Link state -/

/-- LISTEN, MEMBER or LEAVING: the lanes take frames and the arbiter launches (R10, R17). -/
def LinkState.inRing : LinkState → Bool
  | .listen | .member | .leaving => true
  | .dark | .lightCheck | .inserting | .bypassed => false

/-- MEMBER or LEAVING (R54, R148). -/
def LinkState.isMember : LinkState → Bool
  | .member | .leaving => true
  | .dark | .lightCheck | .inserting | .listen | .bypassed => false

/-- Receive handling runs (R11). -/
def LinkState.receives : LinkState → Bool
  | .inserting | .listen | .member | .leaving => true
  | .dark | .lightCheck | .bypassed => false

/-- DARK or BYPASSED. -/
def LinkState.isOut : LinkState → Bool
  | .dark | .bypassed => true
  | .lightCheck | .inserting | .listen | .member | .leaving => false

/-- The bypass output is asserted (R26). -/
def LinkState.bypass : LinkState → Bool
  | .dark | .lightCheck | .bypassed => true
  | .inserting | .listen | .member | .leaving => false

/-- The bypass output (R26). -/
def State.bypassOut (s : State) : Bool := s.mc.link.bypass

/-! ## Line shaft -/

/-- FOLLOWING, IN_STEP or ALONE: the station sends Shaft frames (R62). -/
def StepState.sends : StepState → Bool
  | .following | .inStep | .alone => true
  | .shaftIdle | .adopting => false

/-- The station runs timing agreement (R61, R69). -/
def State.agreeing (s : State) : Bool := s.su.step.sends || (!s.shaftMember && s.su.adopted)

/-- The station holds an adopted line history (R52). -/
def State.holdsHistory (s : State) : Bool := s.agreeing

/-! ## Axes -/

/-- An axis in DECOUPLED, COUPLING, COUPLED or STOPPING (R73). -/
def AxisState.energised : AxisState → Bool
  | .decoupled | .coupling | .coupled | .stopping => true
  | .disabled | .torqueOff => false

/-- The torque-off output of an axis is asserted: its state calls for it, or the e-stop input is asserted
(R73, R90). -/
def State.torqueOffOut (s : State) (i : Fin 4) : Bool := s.pins.eStop || !(s.au.axes.get i).state.energised

/-- The effective stop of the axes (R75). -/
def State.effectiveStop (s : State) : StopMode := s.su.line.stop.higher s.au.localStop

/-! ## Trips -/

/-- The entry of a TorqueOff trip applies to the station (R89, R147). -/
def TripEntry.torqueApplies (own : Nat) (e : TripEntry) : Bool :=
  e.state == .active && e.category == .torqueOff && (e.scope == .ring || e.key.origin == own)

/-- Some TorqueOff entry applies (R77, R89). -/
def State.torqueOffHeld (s : State) : Bool := s.tu.table.any (TripEntry.torqueApplies s.ownStation)

/-- An ACTIVE entry of Ring scope with a category of NormalStop or above (R156). -/
def TripEntry.closesGate (e : TripEntry) : Bool :=
  e.state == .active && e.scope == .ring && decide (2 ≤ e.category.code)

/-- The release gate is open (R156). -/
def State.gateOpen (s : State) : Bool := !s.tu.lost && !s.tu.table.any TripEntry.closesGate

/-- An ACTIVE entry of the own origin with Local scope and the given category. -/
def TripEntry.localStops (own : Nat) (c : Category) (e : TripEntry) : Bool :=
  e.state == .active && e.scope == .here && e.key.origin == own && e.category == c

/-- The local stop level the trip table calls for (R88, R147). -/
def State.localStopLevel (s : State) : StopMode :=
  if s.tu.table.any (TripEntry.localStops s.ownStation .fastStop) then .fast
  else if s.tu.table.any (TripEntry.localStops s.ownStation .normalStop) then .normal
  else .none

/-- Cause and detail are in the local cause state (R134). -/
def State.causeTrue (s : State) (cause detail : Nat) : Bool :=
  s.tu.causes.any fun c => c.cause == cause && c.detail == detail

/-! ## Command Port -/

def Cmp.q (c : Cmp) : CmdQueue → CmdQ
  | .urgent => c.urgent
  | .normal => c.normal

def Cmp.setQ (c : Cmp) (q : CmdQueue) (x : CmdQ) : Cmp :=
  match q with
  | .urgent => { c with urgent := x }
  | .normal => { c with normal := x }

/-- The run flag of a queue (R186). -/
def State.running (s : State) : QueueId → Bool
  | .cmd q => (s.cmp.q q).run
  | .event => s.cmp.event.run

/-- The port is ready: all three run flags are set (R187). -/
def State.portReady (s : State) : Bool := s.cmp.urgent.run && s.cmp.normal.run && s.cmp.event.run

/-- The unread records of the event queue (09, section 9.7). -/
def EvQ.unread (q : EvQ) : Nat := subMod q.tail q.head q.size

/-- A command queue is stopped (09, section 9.2). -/
def CmdQ.stopped (q : CmdQ) : Bool := !q.run && q.inFlight.isNone

/-- A command queue is empty (09, section 9.2). -/
def CmdQ.empty (q : CmdQ) : Bool := q.head == q.tail && q.inFlight.isNone

/-- The size word of a queue: number of entries and run flag (R186). -/
def sizeWord (size : Nat) (run : Bool) : Nat := size + flagBit 31 run

/-- The contents of the status summary, in the order of R186. -/
def State.statusSummary (s : State) : List Nat :=
  [s.mc.link.code, s.su.step.code, s.su.adopted.toNat, s.tu.noticeOut.toNat, s.cfg.isSome.toNat,
   s.cmp.urgent.run.toNat, s.cmp.normal.run.toNat, s.cmp.event.run.toNat, s.cmp.warmCount]

/-- A host read of the target window: the value held at the moment of the read; 0 at an offset not in the table
(R186). -/
def State.windowRead (s : State) (offset : Nat) : Nat :=
  if offset = 0x00 then 0x0460 * 65536 + Config.revision % 65536
  else if offset = 0x08 then s.cmp.urgent.base
  else if offset = 0x10 then sizeWord s.cmp.urgent.size s.cmp.urgent.run
  else if offset = 0x18 then s.cmp.normal.base
  else if offset = 0x20 then sizeWord s.cmp.normal.size s.cmp.normal.run
  else if offset = 0x28 then s.cmp.event.base
  else if offset = 0x30 then sizeWord s.cmp.event.size s.cmp.event.run
  else if offset = 0x38 then s.cmp.urgent.tail
  else if offset = 0x3C then s.cmp.normal.tail
  else if offset = 0x40 then s.cmp.event.head
  else if offset = 0x44 then s.cmp.event.tail
  else if offset = 0x48 then Config.statusLayout s.statusSummary
  else 0

/-! ## Display -/

/-- The view slot of a number. -/
def Scu.view (c : Scu) : Fin 2 → ViewSlot
  | 0 => c.view0
  | 1 => c.view1

def Scu.setView (c : Scu) (i : Fin 2) (v : ViewSlot) : Scu :=
  match i with
  | 0 => { c with view0 := v }
  | 1 => { c with view1 := v }

/-- A position lies in a view slot's rectangle (R179). -/
def ViewSlot.covers (v : ViewSlot) (pos : Nat) : Bool :=
  decide (v.position / 32 ≤ pos / 32) && decide (pos / 32 < v.position / 32 + v.h) &&
    decide (v.position % 32 ≤ pos % 32) && decide (pos % 32 < v.position % 32 + v.w)

/-- A view slot shows its image at a position: it is not CLOSED and the position lies in its rectangle (R162). -/
def ViewSlot.shows (v : ViewSlot) (pos : Nat) : Bool := v.state != .closed && v.covers pos

/-- The pixel of a picture at display column `x` and line `y`: that of the position's content, or background
(R161, R162). -/
def Picture.pixel (p : Picture) (x y : Nat) : Nat :=
  let pos := y / 32 * 32 + x / 32
  match p.pageMap.getD pos .blank with
  | .blank => 0
  | .tile id =>
    match p.tiles.find? fun t => t.id == id with
    | some t =>
      if t.state == .valid || t.state == .stale then rd (t.pixels.getD []) (2 * (y % 32 * 32 + x % 32)) 2 else 0
    | none => 0
  | .inset i =>
    let v := if i = 0 then p.view0 else p.view1
    if v.shows pos then
      (v.image.getD (y - v.position / 32 * 32) []).getD (x - v.position % 32 * 32) 0
    else 0

/-- The pixel the panel display output sends: background while no screen is configured (R161). -/
def State.displayPixel (s : State) (x y : Nat) : Nat :=
  if s.screen then ((s.scu.picture.map fun p => p.pixel x y).getD 0) else 0

end Sys2Proof.Machine
end

