-- ==== Sys2Proof/Machine/Frames.lean ====
section
/-! DEFINITION. Frames: kinds and classes, the header, the two checks, and the payloads (chapter 1; 10, section 10.1). -/

namespace Sys2Proof.Machine

/-- The kind code (10.1). -/
def Kind.code : Kind → Nat
  | .trip => 1
  | .shaft => 2
  | .speed => 3
  | .hello => 4
  | .correction => 5
  | .tileControl => 6
  | .tileData => 7
  | .viewLine => 8

/-- The class of a kind (R5). -/
def Kind.cls : Kind → Nat
  | .trip => 0
  | .shaft => 1
  | .speed => 2
  | .hello => 3
  | .correction => 4
  | .tileControl => 5
  | .tileData => 6
  | .viewLine => 7

/-- The kind of a code; any other code is no kind (R6). -/
def kindOfCode : Nat → Option Kind
  | 1 => some .trip
  | 2 => some .shaft
  | 3 => some .speed
  | 4 => some .hello
  | 5 => some .correction
  | 6 => some .tileControl
  | 7 => some .tileData
  | 8 => some .viewLine
  | _ => none

def linkOfCode : Nat → Option LinkState
  | 0 => some .dark
  | 1 => some .lightCheck
  | 2 => some .inserting
  | 3 => some .listen
  | 4 => some .member
  | 5 => some .leaving
  | 6 => some .bypassed
  | _ => none

def stepOfCode : Nat → Option StepState
  | 0 => some .shaftIdle
  | 1 => some .adopting
  | 2 => some .following
  | 3 => some .inStep
  | 4 => some .alone
  | _ => none

def stopOfCode : Nat → Option StopMode
  | 0 => some .none
  | 1 => some .normal
  | 2 => some .fast
  | _ => none

def categoryOfCode : Nat → Option Category
  | 0 => some .masked
  | 1 => some .warn
  | 2 => some .normalStop
  | 3 => some .fastStop
  | 4 => some .torqueOff
  | _ => none

/-! ## Header (10.1) -/

/-- The fields of 20 header bytes. -/
def parseHeader (bs : List Byte) : Header :=
  { kindCode := rd bs 0 1 % 16, cls := rd bs 0 1 / 16 % 8, origin := rd bs 1 1, dest := rd bs 2 1
    sequence := rd bs 3 1, hop := rd bs 4 1, check := rd bs 5 1, transit := rd bs 6 2, launchDelay := rd bs 8 2
    fragIndex := rd bs 10 1, fragCount := rd bs 11 1, length := rd bs 12 2 }

/-- The 20 bytes of header fields; fill bytes are 0. -/
def headerBytes (h : Header) : List Byte :=
  [byte (h.kindCode % 16 + h.cls % 8 * 16), byte h.origin, byte h.dest, byte h.sequence, byte h.hop, byte h.check] ++
    le 2 h.transit ++ le 2 h.launchDelay ++ [byte h.fragIndex, byte h.fragCount] ++ le 2 h.length ++ fill 6

/-- The header check of header bytes: CRC-8 over bytes 4, 6 and 7 (R202). -/
def headerCheckOf (bs : List Byte) : Nat := crc8 [bs.getD 4 0, bs.getD 6 0, bs.getD 7 0]

/-- The header check matched (R6). -/
def headerCheckOk (bs : List Byte) : Bool := headerCheckOf bs == rd bs 5 1

/-- A header failure: the header check does not match, or the length field exceeds 256 (R6). -/
def headerFailure (bs : List Byte) : Bool := !headerCheckOk bs || decide (256 < rd bs 12 2)

/-- The frame is malformed (R6). -/
def malformed (h : Header) : Bool :=
  match kindOfCode h.kindCode with
  | none => true
  | some k => h.cls != k.cls || h.fragCount == 0 || decide (h.fragCount ≤ h.fragIndex)

/-- The CRC of a frame: header bytes 0–3 and 8–19, then the payload (R202). -/
def frameCrc (header payload : List Byte) : Nat := crc32 (header.take 4 ++ header.drop 8 ++ payload)

/-- The tail check of a frame is good (R6): header check, CRC, form, and the end delimiter directly after the last check
byte. -/
def tailGood (header body : List Byte) (ending : FrameEnding) : Bool :=
  let h := parseHeader header
  !headerFailure header && !malformed h && ending == .endDelim && body.length == h.length + 4 &&
    frameCrc header (body.take h.length) == rd body h.length 4

/-- The header bytes with hop count and transit rewritten and the header check computed anew (R13). -/
def rewriteHeader (bs : List Byte) (hop transit : Nat) : List Byte :=
  let new := bs.take 4 ++ [byte hop, 0] ++ le 2 transit ++ bs.drop 8
  new.set 5 (byte (headerCheckOf new))

/-- The header of a frame at launch (R4, R19), the header check computed over the values written. -/
def launchHeader (f : LaneFrame) (origin sequence transit launchDelay : Nat) : List Byte :=
  let bs := headerBytes
    { kindCode := f.kind.code, cls := f.kind.cls, origin := origin, dest := f.dest, sequence := sequence, hop := 0
      check := 0, transit := transit, launchDelay := launchDelay, fragIndex := f.fragIndex, fragCount := f.fragCount
      length := f.payload.length }
  bs.set 5 (byte (headerCheckOf bs))

/-- A frame that is a whole message (R4). -/
def wholeFrame (kind : Kind) (dest : Nat) (payload : List Byte) : LaneFrame :=
  { kind := kind, dest := dest, fragIndex := 0, fragCount := 1, payload := payload, beatStart := 0 }

/-! ## Pending entries (10.1) -/

def Entry.beat : Entry → Nat
  | .set _ _ _ _ _ beat => beat
  | .release _ _ beat => beat
  | .stop _ _ _ _ beat => beat

/-- The 16 bytes of a pending entry. -/
def entryBytes : Entry → List Byte
  | .set origin num target accel decel beat =>
      [1, byte origin] ++ le 2 num ++ le 4 beat ++ le 4 target ++ le 2 accel ++ le 2 decel
  | .release origin num beat => [2, byte origin] ++ le 2 num ++ le 4 beat ++ fill 8
  | .stop origin cause detail fast beat =>
      [3, byte origin, byte cause, byte detail] ++ le 4 beat ++ [if fast then 2 else 1] ++ fill 7

/-- The pending entry in 16 bytes; none when a code is outside its table (R203). -/
def parseEntry (bs : List Byte) : Option Entry :=
  match rd bs 0 1 with
  | 1 => some (.set (rd bs 1 1) (rd bs 2 2) (rd bs 8 4) (rd bs 12 2) (rd bs 14 2) (rd bs 4 4))
  | 2 => some (.release (rd bs 1 1) (rd bs 2 2) (rd bs 4 4))
  | 3 =>
      if 21 < rd bs 2 1 then none
      else match rd bs 8 1 with
        | 1 => some (.stop (rd bs 1 1) (rd bs 2 1) (rd bs 3 1) false (rd bs 4 4))
        | 2 => some (.stop (rd bs 1 1) (rd bs 2 1) (rd bs 3 1) true (rd bs 4 4))
        | _ => none
  | _ => none

/-! ## Payloads (10.1) -/

def TripAction.code : TripAction → Nat
  | .raise => 1
  | .refresh => 2
  | .clear => 3

def tripPayload (action : TripAction) (key : TripKey) (category : Category) (scope : Scope) (beat founder : Nat) :
    List Byte :=
  [byte action.code, byte key.cause, byte key.detail, byte category.code, byte scope.code, byte founder] ++ fill 2 ++
    le 4 beat

/-- The action, cause, detail, category, apply beat and founder of a Trip payload; none where R139 or R203 discards the
copy: another length, or an action, cause, category or scope not in R139's table. -/
def parseTrip (p : List Byte) : Option (TripAction × Nat × Nat × Category × Nat × Nat) :=
  if p.length ≠ 12 ∨ 21 < rd p 1 1 ∨ rd p 4 1 ≠ 1 then none
  else do
    let action ← match rd p 0 1 with
      | 1 => some TripAction.raise
      | 2 => some .refresh
      | 3 => some .clear
      | _ => none
    let category ← categoryOfCode (rd p 3 1)
    if category = .masked then none
    else some (action, rd p 1 1, rd p 2 1, category, rd p 8 4, rd p 5 1)

/-- Bytes 0–31 of a Shaft payload, the form the line state image uses too (10.1, 10.5). -/
def lineBytes (beat : Nat) (l : Line) (step : StepState) (founder entries : Nat) : List Byte :=
  le 4 beat ++ le 4 l.angle ++ le 2 l.rev ++ [byte l.stop.code, byte step.code] ++ le 4 l.speed ++ le 4 l.target ++
    le 2 l.accel ++ le 2 l.decel ++ [byte founder, byte ((l.last.map (·.1)).getD 0)] ++
    le 2 ((l.last.map (·.2)).getD 0) ++ [byte entries] ++ fill 3

def shaftPayload (m : ShaftMsg) : List Byte :=
  lineBytes m.beat m.line m.step m.founder m.entries.length ++ m.entries.flatMap entryBytes

/-- The message of a Shaft payload; none where R203 discards the copy. -/
def parseShaft (p : List Byte) : Option ShaftMsg :=
  let count := rd p 28 1
  if 2 < count ∨ p.length ≠ 32 + 16 * count then none
  else do
    let stop ← stopOfCode (rd p 10 1)
    let step ← stepOfCode (rd p 11 1)
    let entries ← (List.range count).mapM fun i => parseEntry ((p.drop (32 + 16 * i)).take 16)
    let last := if rd p 25 1 = 0 then none else some (rd p 25 1, rd p 26 2)
    some
      { beat := rd p 0 4
        line :=
          { angle := rd p 4 4, rev := rd p 8 2, speed := rd p 12 4, target := rd p 16 4, accel := rd p 20 2
            decel := rd p 22 2, stop := stop, last := last }
        step := step, founder := rd p 24 1, entries := entries }

def speedPayload (founder : Nat) (e : Entry) : List Byte := byte founder :: fill 3 ++ entryBytes e

/-- The founder and the entry of a Speed payload; none where R203 discards the copy. A STOP entry is of the codes of the
Pending entry table, so a copy that carries one is no exception (R54, 10.1). -/
def parseSpeed (p : List Byte) : Option (Nat × Entry) :=
  if p.length ≠ 20 then none
  else (parseEntry (p.drop 4)).map fun e => (rd p 0 1, e)

def helloPayload (m : HelloMsg) : List Byte :=
  [byte m.link.code, byte (flagBit 0 m.shaftMember + flagBit 1 m.speedAuthority), byte m.step.code, byte m.founder] ++
    le 4 m.stamp

/-- The message of a Hello payload; none where R203 discards the copy. -/
def parseHello (p : List Byte) : Option HelloMsg :=
  if p.length ≠ 8 then none
  else do
    let link ← linkOfCode (rd p 0 1)
    let step ← stepOfCode (rd p 2 1)
    some
      { link := link, shaftMember := rd p 1 1 % 2 == 1, speedAuthority := rd p 1 1 / 2 % 2 == 1, step := step
        founder := rd p 3 1, stamp := rd p 4 4 }

def correctionPayload (axis : Nat) (e : Int) : List Byte := byte axis :: fill 3 ++ le 4 (unsigned 32 e)

/-- The target axis and correction of a Correction payload; none where R203 discards the copy. -/
def parseCorrection (p : List Byte) : Option (Nat × Int) :=
  if p.length ≠ 8 then none else some (rd p 0 1, signed 32 (rd p 4 4))

/-- A Tile control payload. -/
def tileCtlPayload : TileCtl → List Byte
  | .invalidate group count tiles =>
      [1, byte group, byte count, 0] ++
        tiles.flatMap fun t => [byte t.1, 0] ++ le 2 t.2.1 ++ le 2 t.2.2 ++ fill 2
  | .request held page index =>
      [2, if held.isSome then 1 else 0, byte page, 0] ++ le 2 index ++ le 2 (held.getD 0)
  | .touch press page x index y => [3, if press then 1 else 0, byte page, byte x] ++ le 2 index ++ [byte y, 0]
  | .viewRequest slot cam k width => [4, byte slot, byte cam, byte k] ++ le 2 width ++ fill 2
  | .viewStop slot cam => [5, byte slot, byte cam, 0]
  | .viewRefusal slot cam reason => [6, byte slot, byte cam, byte reason]

/-- The contents of a Tile control payload; none where R203 discards the copy. -/
def parseTileCtl (p : List Byte) : Option TileCtl :=
  match rd p 0 1 with
  | 1 =>
      let n := rd p 2 1
      if p.length ≠ 4 + 8 * n then none
      else some (.invalidate (rd p 1 1) n
        ((List.range n).map fun i => (rd p (4 + 8 * i) 1, rd p (6 + 8 * i) 2, rd p (8 + 8 * i) 2)))
  | 2 =>
      if p.length ≠ 8 then none
      else some (.request (if rd p 1 1 % 2 = 1 then some (rd p 6 2) else none) (rd p 2 1) (rd p 4 2))
  | 3 => if p.length ≠ 8 then none else some (.touch (rd p 1 1 % 2 == 1) (rd p 2 1) (rd p 3 1) (rd p 4 2) (rd p 6 1))
  | 4 => if p.length ≠ 8 then none else some (.viewRequest (rd p 1 1) (rd p 2 1) (rd p 3 1) (rd p 4 2))
  | 5 => if p.length ≠ 4 then none else some (.viewStop (rd p 1 1) (rd p 2 1))
  | 6 =>
      if p.length ≠ 4 ∨ rd p 3 1 = 0 ∨ 2 < rd p 3 1 then none
      else some (.viewRefusal (rd p 1 1) (rd p 2 1) (rd p 3 1))
  | _ => none

/-- The payload of one Tile data fragment (R168). -/
def tileDataPayload (page group index version count : Nat) (pixels : List Byte) : List Byte :=
  [byte page, byte group] ++ le 2 index ++ le 2 version ++ [byte count, 0] ++ padTo 128 pixels

/-- The fragment of a Tile data payload; none where R203 discards the copy. A fragment index of 16 or above, outside the
range of R168, is discarded without a count too: DESIGN CHOICE (log 81). -/
def parseTileData (publisher fragIndex : Nat) (p : List Byte) : Option TileFrag :=
  if p.length ≠ 136 ∨ 16 ≤ fragIndex then none
  else some
    { id := { publisher := publisher, page := rd p 0 1, index := rd p 2 2 }, version := rd p 4 2, group := rd p 1 1
      count := rd p 6 1, index := fragIndex, pixels := p.drop 8 }

/-- The payload of one View line fragment (10.1). -/
def viewLinePayload (slot cam : Nat) (tag : LineTag) (pixels : List Byte) : List Byte :=
  [byte slot, byte cam, byte pixels.length, byte (flagBit 0 tag.skippedBefore + flagBit 1 tag.isPartial)] ++
    le 2 tag.rev ++ fill 2 ++ le 4 tag.angle ++ pixels

/-- The tag a view line carries: revolution, trigger angle and the two flags (R181); it has no line index. -/
def LineTag.forView (t : LineTag) : LineTag := { t with index := 0 }

/-- The view line fragment of a View line payload; none where R203 discards the copy. -/
def parseViewLine (station fragIndex : Nat) (p : List Byte) : Option ViewLineMsg :=
  let n := rd p 2 1
  if n = 0 ∨ 128 < n ∨ p.length ≠ 12 + n then none
  else some
    { station := station, slot := rd p 0 1, cam := rd p 1 1
      tag :=
        { rev := rd p 4 2, index := 0, angle := rd p 8 4, skippedBefore := rd p 3 1 % 2 == 1
          isPartial := rd p 3 1 / 2 % 2 == 1 }
      column := 128 * fragIndex, pixels := p.drop 12 }

end Sys2Proof.Machine
end

