-- ==== Sys2Proof/Machine/Events.lean ====
section
/-! DEFINITION. Event records, descriptors' results and the codes they use (10, sections 10.2 to 10.4). -/

namespace Sys2Proof.Machine

/-- The stored form of a line tag, 8 bytes (10.2). -/
def LineTag.stored (t : LineTag) : List Byte :=
  le 4 t.angle ++ le 2 t.rev ++ [byte (flagBit 0 t.skippedBefore + flagBit 1 t.isPartial), byte t.index]

def Half.code : Half → Nat
  | .even => 0
  | .odd => 1

def BypassReason.code : BypassReason → Nat
  | .none => 0
  | .linkFault => 1
  | .noUpstreamLight => 2
  | .duplicateNumber => 3
  | .left => 4

def RosterReason.code : RosterReason → Nat
  | .added => 1
  | .changed => 2
  | .replaced => 3
  | .silent => 4
  | .left => 5
  | .emptied => 6

/-- Numbered 1–13 in the order of the table of R95 (10.4): the three causes of its eleventh row count as one row each. -/
def AxisReason.code : AxisReason → Nat
  | .command => 1
  | .revolutionBoundary => 2
  | .couplingComplete => 3
  | .lineStop => 4
  | .localStop => 5
  | .stopComplete => 6
  | .historyReplaced => 7
  | .torqueOff => 8
  | .eStop => 9
  | .driveFault => 10
  | .followingError => 11
  | .driveLineSilent => 12
  | .configuration => 13

def LoopReason.code : LoopReason → Nat
  | .start => 1
  | .stop => 2
  | .seekComplete => 3
  | .speed => 4
  | .referenceMissing => 5
  | .entryHeld => 6
  | .rearm => 7
  | .configuration => 8

def Purpose.code : Purpose → Nat
  | .descriptorRead => 1
  | .resultWriteback => 2
  | .configRead => 3
  | .markTableRead => 4
  | .pageMapRead => 5
  | .tileRead => 6
  | .imageWrite => 7
  | .mapEntryRead => 8
  | .stripWrite => 9
  | .eventWrite => 10
  | .publishListRead => 11

def DmaKind.code : DmaKind → Nat
  | .timeout => 1
  | .errorCompletion => 2
  | .invalidMapEntry => 3

def DmaUnit.code : DmaUnit → Nat
  | .urgent => 0
  | .normal => 1
  | .event => 2
  | .camera n => 16 + n.val

def Result.code : Result → Nat
  | .done => 1
  | .clamped => 2
  | .refusedState => 3
  | .refusedValue => 4
  | .refusedTrip => 5
  | .refusedQueue => 6
  | .unknown => 7
  | .failed => 8

/-- The event kind (10.4). -/
def Event.code : Event → Nat
  | .stripDone .. => 1
  | .stripDropped .. => 2
  | .tripNotice .. => 3
  | .linkChanged .. => 4
  | .duplicateSeen .. => 5
  | .rosterChanged .. => 6
  | .stepChanged .. => 7
  | .axisChanged .. => 8
  | .loopChanged .. => 9
  | .tileWanted .. => 10
  | .touch .. => 11
  | .viewRefused .. => 12
  | .dmaError .. => 13

/-- The HOLD flags of entries 1–7 in bits 1–7 (10.4). -/
def holdBits (holds : List Bool) : Nat :=
  (List.range 8).foldl (fun n i => n + flagBit i (0 < i && holds.getD i false)) 0

/-- Bytes 12–31 of an event record (10.4). -/
def Event.fields : Event → List Byte
  | .stripDone cam half lines overrun mapErr dmaErr first gap =>
      padTo 8 ([byte cam.val, byte half.code] ++ le 2 lines ++
        [byte (flagBit 0 overrun + flagBit 1 gap.isSome + flagBit 2 mapErr + flagBit 3 dmaErr)]) ++
        ((first.map LineTag.stored).getD (fill 8)) ++ le 4 (gap.getD 0)
  | .stripDropped cam tag => padTo 8 [byte cam.val] ++ tag.stored ++ fill 4
  | .tripNotice entries active gateOpen lost more =>
      padTo 20 (le 2 entries ++ le 2 active ++ [byte (flagBit 0 gateOpen + flagBit 1 lost + flagBit 2 more)])
  | .linkChanged new prev reason attempt errors =>
      padTo 20 [byte new.code, byte prev.code, byte reason.code, byte attempt, byte errors]
  | .duplicateSeen link hop stamp => padTo 20 (padTo 4 [byte link.code, byte hop] ++ le 4 stamp)
  | .rosterChanged station reason => padTo 20 [byte station, byte reason.code]
  | .stepChanged new prev founder adopted =>
      padTo 20 [byte new.code, byte prev.code, byte founder, byte (flagBit 0 adopted)]
  | .axisChanged axis new prev reason setpoint actual =>
      padTo 20 ([byte axis.val, byte new.code, byte prev.code, byte reason.code] ++ le 4 setpoint ++ le 4 actual)
  | .loopChanged cam new prev reason entry holds =>
      padTo 20 [byte cam.val, byte new.code, byte prev.code, byte reason.code, byte (entry.getD 255),
        byte (holdBits holds)]
  | .tileWanted station page index held =>
      padTo 20 ([byte station, byte page] ++ le 2 index ++ [if held.isSome then 1 else 0, 0] ++ le 2 (held.getD 0))
  | .touch source press notDelivered inset pageOrSlot x y indexOrPosition =>
      padTo 20 ([byte source, byte (flagBit 0 press + flagBit 1 notDelivered + flagBit 2 inset), byte pageOrSlot,
        byte x, byte y, 0] ++ le 2 indexOrPosition)
  | .viewRefused slot station cam reason => padTo 20 [byte slot, byte station, byte cam, byte reason]
  | .dmaError purpose kind unit addr beat =>
      padTo 20 (padTo 4 [byte purpose.code, byte kind.code, byte unit.code] ++ le 8 addr ++ le 4 beat)

/-- The 32 bytes of an event record, with the lost count, beat number and line angle current when it is written
(R195, 10.4). -/
def eventRecord (e : Event) (lost beat angle : Nat) : List Byte :=
  [byte e.code, 0] ++ le 2 lost ++ le 4 beat ++ le 4 angle ++ e.fields

end Sys2Proof.Machine
end

