-- ==== Sys2Proof/Machine/Operands.lean ====
section
/-! DEFINITION. What the part reads from host memory: descriptors, the configuration block, mark tables, page-map lists,
publish lists and map entries (10, sections 10.2, 10.3 and 10.6). -/

namespace Sys2Proof.Machine

/-! ## Descriptors (10.3) -/

/-- The owner field of a descriptor reads part. -/
def ownerPart (d : List Byte) : Bool := rd d 0 1 % 2 == 1

/-- The command of a descriptor with its parameters. -/
def decodeCommand (d : List Byte) : HostCmd :=
  let p (off k : Nat) : Nat := rd d (32 + off) k
  let addr := rd d 16 8
  let len := rd d 24 4
  match rd d 2 2 with
  | 0x01 => .setSpeed (p 0 4) (p 4 2) (p 6 2)
  | 0x02 => .releaseStop
  | 0x03 => .raiseHostTrip (p 0 2)
  | 0x04 => .clearHostTrip (p 0 2)
  | 0x05 => .acknowledgeTrips
  | 0x06 => .enableAxis (p 0 1)
  | 0x07 => .disableAxis (p 0 1)
  | 0x08 => .coupleAxis (p 0 1) (p 4 4)
  | 0x09 => .decoupleAxis (p 0 1) (p 1 1)
  | 0x0A => .jogAxis (p 0 1) (p 4 4)
  | 0x0B => .trimAxis (p 0 1) (signed 32 (p 4 4))
  | 0x20 => .configure addr len
  | 0x21 => .join
  | 0x22 => .leave
  | 0x23 => .warmReset
  | 0x24 => .readRoster addr len
  | 0x25 => .readTripTable addr len
  | 0x26 => .readLineState addr len
  | 0x27 => .readCounters addr len
  | 0x28 => .giveStripBuffer (p 0 1) (p 1 1) (p 4 4) (p 8 4)
  | 0x29 => .invalidateMapCache
  | 0x2A => .loadMarkTable (p 0 1) addr len
  | 0x2B => .startRegister (p 0 1)
  | 0x2C => .stopRegister (p 0 1)
  | 0x2D => .rearmRegister (p 0 1)
  | 0x2E => .setPageMap addr len
  | 0x2F => .publishTiles addr len
  | 0x30 => .openView (p 0 1) (p 1 1) (p 2 1) (p 3 1) (p 4 2) (p 6 1) (p 7 1)
  | 0x31 => .closeView (p 0 1)
  | code => .unlisted code

/-- The queue a command is listed for (R189); none for a code outside the catalogue. -/
def HostCmd.queue : HostCmd → Option CmdQueue
  | .setSpeed .. | .releaseStop | .raiseHostTrip _ | .clearHostTrip _ | .acknowledgeTrips | .enableAxis _
  | .disableAxis _ | .coupleAxis .. | .decoupleAxis .. | .jogAxis .. | .trimAxis .. => some .urgent
  | .configure .. | .join | .leave | .warmReset | .readRoster .. | .readTripTable .. | .readLineState ..
  | .readCounters .. | .giveStripBuffer .. | .invalidateMapCache | .loadMarkTable .. | .startRegister _
  | .stopRegister _ | .rearmRegister _ | .setPageMap .. | .publishTiles .. | .openView .. | .closeView _ =>
      some .normal
  | .unlisted _ => none

/-- An axis or camera number below 4 (R73, R108). -/
def fin4? (n : Nat) : Option (Fin 4) := if h : n < 4 then some ⟨n, h⟩ else none

/-- A view slot number below 2 (R178). -/
def fin2? (n : Nat) : Option (Fin 2) := if h : n < 2 then some ⟨n, h⟩ else none

/-- The strip buffer of a code (10.3). -/
def halfOfCode : Nat → Option Half
  | 0 => some .even
  | 1 => some .odd
  | _ => none

/-! ## The configuration block (10.6) -/

/-- One check of the block: whether it passes, the offset of its field, and its axis or camera (FFh for none). -/
structure FieldCheck where
  ok : Bool
  offset : Nat
  unit : Nat
  deriving DecidableEq, Repr

/-- The Membership Controller's checks (R27). -/
def stationChecks (b : List Byte) : List FieldCheck :=
  let reps := rd b 2 1
  [⟨1 ≤ rd b 0 1 && rd b 0 1 ≤ 31, 0, 255⟩, ⟨reps == 0 || 12 ≤ reps, 2, 255⟩]

/-- The Shaft Unit's checks (R70). -/
def shaftChecks (b : List Byte) : List FieldCheck :=
  let excl := rd b 12 4
  let lead := rd b 16 1
  [⟨excl == 0 || (5000 ≤ excl && excl ≤ 100000), 12, 255⟩, ⟨lead == 0 || (2 ≤ lead && lead ≤ 16), 16, 255⟩,
   ⟨rd b 20 4 ≤ 16777215, 20, 255⟩, ⟨1 ≤ rd b 24 2, 24, 255⟩, ⟨1 ≤ rd b 26 2, 26, 255⟩]

/-- The Trip Unit's checks, causes 1 to 21: bits 7–4 are 0 and the category code is at most 4 (R135, 10.6). -/
def causeChecks (b : List Byte) : List FieldCheck :=
  (List.range 21).map fun i =>
    let x := rd b (29 + i) 1
    ⟨x < 16 && x % 8 ≤ 4, 29 + i, 255⟩

/-- The Axis Unit's checks of one axis, with the revolution check on D and M (R74). -/
def axisChecks (b : List Byte) (a : Nat) : List FieldCheck :=
  let o := 64 + 32 * a
  let chk (ok : Bool) (off : Nat) : FieldCheck := ⟨ok, o + off, a⟩
  let n := rd b (o + 2) 2
  let d := rd b (o + 4) 2
  let m := rd b (o + 8) 4
  if rd b o 1 = 0 then []
  else
    [chk (rd b o 1 ≤ 1) 0, chk (1 ≤ n) 2, chk (1 ≤ d && 16777216 * n % d == 0) 4,
     chk (2 ≤ m && m ≤ 16777216 && 16777216 * n / d % m == 0) 8, chk (1 ≤ rd b (o + 6) 2) 6,
     chk (1 ≤ rd b (o + 22) 2) 22, chk (1 ≤ rd b (o + 24) 2) 24, chk (1 ≤ rd b (o + 26) 2) 26,
     chk (1 ≤ rd b (o + 28) 4 && rd b (o + 28) 4 ≤ 16777215) 28,
     chk (1 ≤ rd b (o + 14) 2 && rd b (o + 14) 2 ≤ 4095) 14,
     chk (1 ≤ rd b (o + 16) 4 && rd b (o + 16) 4 ≤ 8388608) 16, chk (rd b (o + 20) 1 ≤ 15) 20]

/-- The Camera Unit's checks of one camera (R97). Of the strip window and of the web lane, the first end is named when it
exceeds the second, and the second when it is not below the width: DESIGN CHOICE (log 69). -/
def camChecks (b : List Byte) (c : Nat) : List FieldCheck :=
  let o := 192 + 64 * c
  let chk (ok : Bool) (off : Nat) : FieldCheck := ⟨ok, o + off, c⟩
  let width := rd b (o + 2) 2
  if rd b o 1 = 0 then []
  else
    [chk (rd b o 1 ≤ 1) 0, chk (64 ≤ width && width ≤ 4096) 2, chk (1 ≤ rd b (o + 4) 2) 4,
     chk (rd b (o + 12) 2 ≤ rd b (o + 14) 2) 12, chk (rd b (o + 14) 2 < width) 14,
     chk (1 ≤ rd b (o + 1) 1 && rd b (o + 1) 1 ≤ 64) 1, chk (16 ≤ rd b (o + 6) 2 && rd b (o + 6) 2 ≤ 1024) 6,
     chk (rd b (o + 16) 2 ≤ rd b (o + 18) 2) 16, chk (rd b (o + 18) 2 < width) 18,
     chk (rd b (o + 24) 8 % 8 == 0) 24]

/-- The Mark Unit's checks of one camera (R117). Of the mark lane, m0 is named when it exceeds m1, and m1 when it is not below
the width: DESIGN CHOICE (log 69). -/
def markChecks (b : List Byte) (c : Nat) : List FieldCheck :=
  let o := 192 + 64 * c
  let chk (ok : Bool) (off : Nat) : FieldCheck := ⟨ok, o + off, c⟩
  if rd b o 1 = 0 then []
  else
    [chk (rd b (o + 32) 2 ≤ rd b (o + 34) 2) 32, chk (rd b (o + 34) 2 < rd b (o + 2) 2) 34,
     chk (1 ≤ rd b (o + 36) 2) 36, chk (1 ≤ rd b (o + 38) 1 && rd b (o + 38) 1 ≤ 15) 38,
     chk (1 ≤ rd b (o + 39) 1 && rd b (o + 39) 1 ≤ 15) 39, chk (rd b (o + 40) 4 ≤ 16777215) 40]

/-- Every check of the block in the order of R190: the Ring Port's fields take every value. -/
def configChecks (b : List Byte) : List FieldCheck :=
  stationChecks b ++ shaftChecks b ++ causeChecks b ++ (List.range 4).flatMap (axisChecks b) ++
    (List.range 4).flatMap (camChecks b) ++ (List.range 4).flatMap (markChecks b) ++ [⟨rd b 448 1 ≤ 1, 448, 255⟩]

/-- `n`, or `d` where `n` is 0 and selects a default. -/
def orDefault (n d : Nat) : Nat := if n = 0 then d else n

/-- The configured fields of axis `a`, when it is present. -/
def axisFields (b : List Byte) (a : Fin 4) : Option AxisCfg :=
  let o := 64 + 32 * a.val
  if rd b o 1 = 0 then none
  else some
    { n := rd b (o + 2) 2, d := rd b (o + 4) 2, m := rd b (o + 8) 4, catchUp := rd b (o + 6) 2
      window := rd b (o + 12) 2, jogAccel := rd b (o + 22) 2, jogDecel := rd b (o + 24) 2
      fastDecel := rd b (o + 26) 2, maxSpeed := rd b (o + 28) 4, trimStep := rd b (o + 14) 2
      followLimit := rd b (o + 16) 4, silentLimit := orDefault (rd b (o + 20) 1) 3 }

/-- The configured fields of camera `c`, when it is present. -/
def camFields (b : List Byte) (c : Fin 4) : Option CamCfg :=
  let o := 192 + 64 * c.val
  if rd b o 1 = 0 then none
  else some
    { width := rd b (o + 2) 2, pitch := rd b (o + 4) 2, phase := rd b (o + 8) 4, x0 := rd b (o + 12) 2
      x1 := rd b (o + 14) 2, decimation := rd b (o + 1) 1, height := rd b (o + 6) 2, w0 := rd b (o + 16) 2
      w1 := rd b (o + 18) 2, webThreshold := rd b (o + 20) 1, breakLength := rd b (o + 22) 2
      mapBase := rd b (o + 24) 8, m0 := rd b (o + 32) 2, m1 := rd b (o + 34) 2, markThreshold := rd b (o + 21) 1
      minWeight := rd b (o + 36) 2, missingLimit := rd b (o + 38) 1, toleranceCount := rd b (o + 39) 1
      minSpeed := rd b (o + 40) 4 }

/-- Category and scope of a cause map byte (10.6). -/
def causeByte (x : Nat) : Category × Scope :=
  ((categoryOfCode (x % 8)).getD .masked, if x / 8 % 2 = 1 then .ring else .here)

/-- The configuration a block that passes gives. -/
def configFields (b : List Byte) : Cfg :=
  { station := rd b 0 1, shaftMember := rd b 1 1 % 2 == 1, speedAuthority := rd b 1 1 / 2 % 2 == 1
    repeats := orDefault (rd b 2 1) 32, required := BitVec.ofNat 32 (rd b 4 4), hopDelay := rd b 8 2
    laneMap := BitVec.ofNat 8 (rd b 10 1), exclusion := orDefault (rd b 12 4) 50000, lead := orDefault (rd b 16 1) 4
    maxSpeed := rd b 20 4, normalRate := rd b 24 2, fastRate := rd b 26 2
    causeMap := (List.range 22).map fun i => causeByte (rd b (28 + i) 1)
    axes := ⟨axisFields b 0, axisFields b 1, axisFields b 2, axisFields b 3⟩
    cams := ⟨camFields b 0, camFields b 1, camFields b 2, camFields b 3⟩
    screen := rd b 448 1 == 1 }

/-- The configuration of a block, or the result detail naming the first field failing (R190, 10.3). -/
def checkConfig (b : List Byte) : Cfg ⊕ Nat :=
  match (configChecks b).find? fun c => !c.ok with
  | some c => .inr (c.offset + 65536 * c.unit)
  | none => .inl (configFields b)

/-! ## Mark tables (10.3) -/

/-- The checks of entry `i`, in the order of the table of R118; the target, offset, gain, deadband, step and tolerance of
the reference are not checked. -/
def markEntryChecks (b : List Byte) (i : Nat) : List FieldCheck :=
  let o := 32 * i
  let chk (ok : Bool) (off : Nat) : FieldCheck := ⟨ok, off, i⟩
  let mark (ok : Bool) (off : Nat) : FieldCheck := chk (i == 0 || ok) off
  [chk (rd b o 1 ≤ 1) 0, mark (1 ≤ rd b (o + 1) 1 && rd b (o + 1) 1 ≤ 31) 1, mark (rd b (o + 2) 1 ≤ 3) 2,
   chk (1 ≤ rd b (o + 8) 4 && rd b (o + 8) 4 ≤ 16777216 && rd b (o + 4) 4 + rd b (o + 8) 4 ≤ two32) 8,
   mark (rd b (o + 3) 1 ≤ 16) 3, mark (rd b (o + 16) 4 ≤ 16777215) 16,
   mark (1 ≤ rd b (o + 20) 4 && rd b (o + 20) 4 ≤ 16777216) 20, mark (rd b (o + 24) 4 ≤ 16777215) 24]

/-- Entry `i` as loaded: its running counts 0, its HOLD flag clear, its accumulator closed (R118). -/
def markEntryFields (b : List Byte) (i : Nat) : MarkEntry :=
  let o := 32 * i
  let base := { MarkEntry.empty with
    enabled := rd b o 1 == 1, start := rd b (o + 4) 4, length := rd b (o + 8) 4 }
  if i = 0 then base
  else { base with
    station := rd b (o + 1) 1, axis := rd b (o + 2) 1, gain := rd b (o + 3) 1, nominal := signed 32 (rd b (o + 12) 4)
    deadband := rd b (o + 16) 4, maxStep := rd b (o + 20) 4, tolerance := rd b (o + 24) 4 }

/-- The eight entries of a mark table, or the result detail naming the first entry and field failing (R118, 10.3). -/
def checkMarkTable (b : List Byte) : List MarkEntry ⊕ Nat :=
  match ((List.range 8).flatMap (markEntryChecks b)).find? fun c => !c.ok with
  | some c => .inr (c.offset + 65536 * c.unit)
  | none => .inl ((List.range 8).map (markEntryFields b))

/-! ## Screen lists (10.3) -/

/-- A page-map assignment in 8 bytes; none when it fails a check of R163. -/
def parseAssignment (b : List Byte) : Option (Nat × Content) :=
  let pos := rd b 0 2
  if 768 ≤ pos then none
  else match rd b 2 1 with
    | 0 => some (pos, .blank)
    | 1 =>
        let id : TileId := { publisher := rd b 3 1, page := rd b 4 1, index := rd b 6 2 }
        if 1 ≤ id.publisher ∧ id.publisher ≤ 31 ∧ id.page < 64 ∧ id.index < 768 then some (pos, .tile id) else none
    | 2 => (fin2? (rd b 3 1)).map fun v => (pos, .inset v)
    | _ => none

/-- The assignments of a list, or the index of the first failing one (R163). -/
def parseAssignments (b : List Byte) (n : Nat) : List (Nat × Content) ⊕ Nat :=
  let items := (List.range n).map fun i => parseAssignment ((b.drop (8 * i)).take 8)
  match items.findIdx? Option.isNone with
  | some i => .inr i
  | none => .inl (items.filterMap id)

/-- A tile of a publish list in 16 bytes (10.3). -/
def parsePubTile (b : List Byte) : PubTile :=
  { page := rd b 0 1, index := rd b 2 2, version := rd b 4 2, addr := rd b 8 8 }

/-- The tiles of a publish list that passes R166's checks of pages, indexes and repeats. -/
def parsePublish (b : List Byte) (n : Nat) : Option (List PubTile) :=
  let tiles := (List.range n).map fun i => parsePubTile ((b.drop (16 * i)).take 16)
  let keys : List (Nat × Nat) := tiles.map fun t => (t.page, t.index)
  if tiles.all (fun t => t.page < 64 && t.index < 768) && decide keys.Nodup then some tiles else none

/-- The host page address of a map entry, when its valid flag is set (10.2). -/
def mapEntryPage (b : List Byte) : Option Nat :=
  let x := rd b 0 8
  if x % 2 = 1 then some (x / 8192 * 8192) else none

end Sys2Proof.Machine
end

