-- ==== Sys2Proof/Machine/Ops.lean ====
section
/-! DEFINITION. Shared operations of the Command Port and the Ring Port that every block uses: moving local time on, posting
events, issuing DMA transfers and recording their failures, completing a command, and offering a frame to a lane. -/

namespace Sys2Proof.Machine

/-- What a step of the part answers. -/
abbrev Answered := Host.Outcome State Fault Refusal

/-- Local time has reached `t`; a moment earlier than the one already reached counts as that one (log 1). -/
def State.atTime (t : Nat) (s : State) : State := { s with now := max s.now t }

/-! ## DMA and events (R195, R197, R198) -/

/-- Issue a DMA transfer: it joins the transfers in flight, in the order issued (R197). -/
def State.issue (t : Transfer) (s : State) : State := s.onCmp fun c => { c with dma := c.dma ++ [t] }

/-- A DMA read of `len` bytes at `addr`, issued now. -/
def State.issueRead (purpose : Purpose) (unit : DmaUnit) (addr len : Nat) (s : State) : State :=
  s.issue { purpose := purpose, unit := unit, addr := addr, len := len, segs := [], issued := s.now, strip := none }

/-- A DMA write of the segments `segs` at `addr`, issued now. -/
def State.issueWrite (purpose : Purpose) (unit : DmaUnit) (addr : Nat) (segs : List (Nat × List Byte)) (s : State) :
    State :=
  s.issue
    { purpose := purpose, unit := unit, addr := addr, len := (segs.map fun g => g.2.length).sum, segs := segs
      issued := s.now, strip := none }

/-- Write the first event awaiting its write, when none is being written: the record is stamped with the beat and angle
current now, and carries the pending lost count, which is taken off the count when the record is written (R195; log 55). -/
def State.pumpEvents (s : State) : State :=
  match s.cmp.event.awaiting with
  | [] => s
  | e :: _ =>
    if s.cmp.event.writing then s
    else
      let q := s.cmp.event
      let addr := q.base + 32 * q.tail
      (s.issueWrite .eventWrite .event addr [(addr, eventRecord e s.cmp.lostPending s.su.beat s.su.line.angle)]).onCmp
        fun c => { c with event := { c.event with writing := true } }

/-- One event lost: the counter and the pending lost count step (R195). -/
def State.loseEvent (s : State) : State :=
  s.onCmp fun c => { c with eventsLost := bump c.eventsLost, lostPending := min (c.lostPending + 1) 65535 }

/-- Post an event: it is accepted to await its write, or lost (R195). -/
def State.post (e : Event) (s : State) : State :=
  let q := s.cmp.event
  if q.run && decide (q.unread + q.awaiting.length < q.size - 1) then
    (s.onCmp fun c => { c with event := { c.event with awaiting := c.event.awaiting ++ [e] } }).pumpEvents
  else s.loseEvent

/-- Enter a DMA failure: it fills the empty DMA error record and posts a DMA error event, or sets the record's more flag
(R198). -/
def State.enterDmaError (t : Transfer) (kind : DmaKind) (s : State) : State :=
  match s.cmp.dmaErr with
  | some _ => s.onCmp fun c => { c with dmaMore := true }
  | none =>
    let record : DmaError :=
      { purpose := t.purpose, kind := kind, addr := t.addr, unit := t.unit, beat := s.su.beat
        strip := t.strip.map (·.addr) }
    (s.onCmp fun c => { c with dmaErr := some record }).post (.dmaError t.purpose kind t.unit t.addr s.su.beat)

/-- A transfer is of a purpose and serves a unit. -/
def Transfer.isOf (purpose : Purpose) (unit : DmaUnit) (x : Transfer) : Bool := x.purpose == purpose && x.unit == unit

/-- The first transfer meeting `p` that no write stands before. -/
def readyIn (p : Transfer → Bool) : List Transfer → Option Transfer
  | [] => none
  | x :: xs => if p x then some x else if x.purpose.isWrite then none else readyIn p xs

/-- The transfer of a purpose and unit that can come back next: the oldest of them, when no write issued before it is in
flight. Writes reach host memory in the order in which they are issued, and a read issued after a write does not pass it
(R197). -/
def Cmp.ready (purpose : Purpose) (unit : DmaUnit) (c : Cmp) : Option Transfer :=
  readyIn (Transfer.isOf purpose unit) c.dma

/-- The oldest transfer in flight meeting `p`. -/
def State.findDma (p : Transfer → Bool) (s : State) : Option Transfer := s.cmp.dma.find? p

/-- The oldest transfer in flight meeting `p` is no longer in flight. -/
def State.dropDma (p : Transfer → Bool) (s : State) : State :=
  s.onCmp fun c => { c with dma := c.dma.eraseP p }

/-! ## Command queues (R188, R189) -/

/-- The queue as the DMA error record names it (R198). -/
def queueUnit : CmdQueue → DmaUnit
  | .urgent => .urgent
  | .normal => .normal

/-- Change a command queue. -/
def State.onQ (q : CmdQueue) (f : CmdQ → CmdQ) (s : State) : State := s.onCmp fun c => c.setQ q (f (c.q q))

/-- The command in flight in a queue that is taken and not yet executed. -/
def State.taken (q : CmdQueue) (s : State) : Option HostCmd :=
  match (s.cmp.q q).inFlight with
  | some f => if f.phase = .taken then some f.cmd else none
  | none => none

/-- The command in flight in the normal queue that waits for DMA or the Ring Port. -/
def State.working (s : State) : Option HostCmd :=
  match s.cmp.normal.inFlight with
  | some f => if f.phase = .working then some f.cmd else none
  | none => none

/-- The command in flight goes on waiting for DMA or the Ring Port (R189). -/
def State.setWorking (s : State) : State :=
  s.onQ .normal fun q => { q with inFlight := q.inFlight.map fun f => { f with phase := .working } }

/-- Complete the command in flight of a queue: its write-back is issued, one DMA write of the owner field and of the result
with its detail (R189, 10.3). -/
def State.complete (q : CmdQueue) (r : Result) (detail : Nat) (s : State) : State :=
  match (s.cmp.q q).inFlight with
  | none => s
  | some f =>
    let addr := (s.cmp.q q).base + 64 * f.index
    (s.issueWrite .resultWriteback (queueUnit q) addr [(addr, [0]), (addr + 6, [byte r.code, 0] ++ le 4 detail)]).onQ q
      fun c => { c with inFlight := some { f with phase := .writing } }

/-- Complete the command in flight with detail 0. -/
def State.result (q : CmdQueue) (r : Result) (s : State) : State := s.complete q r 0

/-! ## Offering frames to the lanes (R8 to R10) -/

/-- Put `f` in the place of the first frame meeting `p`. -/
def replaceFirst (p : LaneFrame → Bool) (f : LaneFrame) : List LaneFrame → List LaneFrame
  | [] => []
  | x :: xs => if p x then f :: xs else x :: replaceFirst p f xs

/-- The frame is a Shaft frame. -/
def LaneFrame.isShaft (f : LaneFrame) : Bool := f.kind == .shaft

/-- The class of a frame. -/
def LaneFrame.cls (f : LaneFrame) : Nat := f.kind.cls

/-- A frame offered to the urgent lane (R8). -/
def Rp.offerUrgent (f : LaneFrame) (r : Rp) : Rp × Offer :=
  if f.isShaft && r.urgent.any LaneFrame.isShaft then
    ({ r with urgent := replaceFirst LaneFrame.isShaft f r.urgent }, .accepted)
  else if r.urgent.length < 8 then ({ r with urgent := r.urgent ++ [f] }, .accepted)
  else ({ r with urgentOverflow := bump r.urgentOverflow }, .dropped)

/-- A frame offered to the bulk lane (R9). While offers wait the lane's room is theirs (log 18). A frame of class 4 that
begins to wait stays in the Mark Unit's send list (R126); any other stays with its block in `held`. -/
def Rp.offerBulk (f : LaneFrame) (r : Rp) : Rp × Offer :=
  if f.isShaft && r.bulk.any LaneFrame.isShaft then
    ({ r with bulk := replaceFirst LaneFrame.isShaft f r.bulk }, .accepted)
  else if r.waitList.contains f.cls then
    if f.kind == .shaft || f.kind == .hello then
      ({ r with held := replaceFirst (fun x => x.kind == f.kind) f r.held }, .waiting)
    else ({ r with held := if f.cls = 4 then r.held else r.held ++ [f] }, .waiting)
  else if r.waitList.isEmpty && decide (r.bulk.length < 32) then ({ r with bulk := r.bulk ++ [f] }, .accepted)
  else
    ({ r with waitList := r.waitList ++ [f.cls], held := if f.cls = 4 then r.held else r.held ++ [f] }, .waiting)

/-- A frame offered to the Ring Port: refused outside LISTEN, MEMBER and LEAVING (R10), else offered to the lane of its
class. -/
def State.offerR (f : LaneFrame) (s : State) : State × Offer :=
  if s.mc.link.inRing then
    match s.laneOf f.cls with
    | .urgent => let r := s.rp.offerUrgent f; ({ s with rp := r.1 }, r.2)
    | .bulk => let r := s.rp.offerBulk f; ({ s with rp := r.1 }, r.2)
  else (s, .refused)

/-- Offer a frame whose producer does nothing about the answer. -/
def State.offer (f : LaneFrame) (s : State) : State := (s.offerR f).1

end Sys2Proof.Machine
end

