-- ==== Sys2Proof/Machine/ShaftOps.lean ====
section
/-! DEFINITION. The arithmetic of the line shaft: the tick, the pending change list, the midpoint and slew (R46 to R51,
R61), on the Shaft Unit's own state. -/

namespace Sys2Proof.Machine

/-! ## The tick (R46) -/

/-- The effective target: T_c with stop mode NONE, else 0. -/
def Line.effTarget (l : Line) : Nat := if l.stop = .none then l.target else 0

/-- The effective decel: the line state's own, or the configured rate of the stop mode. -/
def Line.effDecel (normal fast : Nat) (l : Line) : Nat :=
  match l.stop with
  | .none => l.decel
  | .normal => normal
  | .fast => fast

/-- `speed` after one tick toward `target`. -/
def approach (speed target up down : Nat) : Nat :=
  if speed < target then min (speed + up) target
  else if target < speed then max (speed - down) target
  else speed

/-- What one tick gives from a line state (R46). -/
def Line.tick (normal fast : Nat) (l : Line) : TickResult :=
  let speed := approach l.speed l.effTarget l.accel (l.effDecel normal fast)
  let sum := l.angle + speed
  if two32 ≤ sum then { speed := speed, angle := sum - two32, rev := (l.rev + 1) % 65536, revStep := true }
  else { speed := speed, angle := sum, rev := l.rev, revStep := false }

/-- The line state holds a tick's speed, angle and revolution from the tick's end. -/
def Line.commit (r : TickResult) (l : Line) : Line := { l with speed := r.speed, angle := r.angle, rev := r.rev }

/-- `n` ticks computed in turn (R63). -/
def Line.ticks (normal fast : Nat) : Nat → Line → Line
  | 0, l => l
  | n + 1, l => Line.ticks normal fast n (l.commit (l.tick normal fast))

/-- What the tick in progress gives at its end when its end finds the line in `l`. -/
def Line.result (l : Line) : TickResult := { speed := l.speed, angle := l.angle, rev := l.rev, revStep := false }

/-- Snapshots are equal (R45). -/
def Line.sameSnapshot (a b : Line) : Bool :=
  a.angle == b.angle && a.rev == b.rev && a.speed == b.speed && a.stop == b.stop

/-! ## The pending change list (R48 to R51) -/

/-- The identity of a SET or RELEASE, or the key of a STOP (R48). -/
def Entry.ident : Entry → List Nat
  | .set origin num _ _ _ _ => [origin, num]
  | .release origin num _ => [origin, num]
  | .stop origin cause detail _ _ => [origin, cause, detail]

def Entry.isRelease : Entry → Bool
  | .release _ _ _ => true
  | .set _ _ _ _ _ _ | .stop _ _ _ _ _ => false

def Entry.isSet : Entry → Bool
  | .set _ _ _ _ _ _ => true
  | .release _ _ _ | .stop _ _ _ _ _ => false

def Entry.isStop : Entry → Bool
  | .stop _ _ _ _ _ => true
  | .set _ _ _ _ _ _ | .release _ _ _ => false

/-- The entry with another apply beat. -/
def Entry.at (beat : Nat) : Entry → Entry
  | .set origin num target accel decel _ => .set origin num target accel decel beat
  | .release origin num _ => .release origin num beat
  | .stop origin cause detail fast _ => .stop origin cause detail fast beat

/-- A SET's target reduced to the maximum line speed (R49). -/
def Entry.clamped (maxSpeed : Nat) : Entry → Entry
  | .set origin num target accel decel beat => .set origin num (min target maxSpeed) accel decel beat
  | .release origin num beat => .release origin num beat
  | .stop origin cause detail fast beat => .stop origin cause detail fast beat

/-- The rank of an entry seen from the current beat: a lower list, compared place by place, ranks above (R48). -/
def Entry.rank (beat : Nat) : Entry → List Nat
  | .stop origin cause detail fast b => [subMod b beat two32, 0, if fast then 0 else 1, origin, cause, detail]
  | .release origin num b => [subMod b beat two32, 1, 0, origin, num, 0]
  | .set origin num _ _ _ b => [subMod b beat two32, 2, 0, origin, num, 0]

/-- The first of two lists of numbers in which they differ is lower in `a`. -/
def lexLower : List Nat → List Nat → Bool
  | x :: xs, y :: ys => decide (x < y) || (x == y && lexLower xs ys)
  | _, _ => false

/-- Put an entry in its place by rank. -/
def insertRank (beat : Nat) (e : Entry) : List Entry → List Entry
  | [] => [e]
  | x :: xs => if lexLower (e.rank beat) (x.rank beat) then e :: x :: xs else x :: insertRank beat e xs

/-- The identity of the last applied change is that of the entry (R49 step 1). -/
def Line.lastIs (l : Line) (e : Entry) : Bool :=
  match l.last with
  | some (origin, num) => !e.isStop && e.ident == [origin, num]
  | none => false

/-- Two SETs, or two RELEASEs, of one apply beat (R49 step 4). -/
def Entry.rival : Entry → Entry → Bool
  | .set _ _ _ _ _ b, .set _ _ _ _ _ c => b == c
  | .release _ _ b, .release _ _ c => b == c
  | _, _ => false

/-- Of two rivals the first prevails: the higher origin, then the newer command number (R49 step 4). Of two numbers that
differ by 2^15 neither is newer, and the entry offered does not prevail: DESIGN CHOICE (log 72). -/
def Entry.prevails (a b : Entry) : Bool :=
  match a.ident, b.ident with
  | [o, n], [p, m] => decide (p < o) || (o == p && newer 16 n m)
  | _, _ => false

/-- Steps 5 of R49: the entry joins the list, and the lowest-ranked of nine is dropped. -/
def Su.fit (e : Entry) (u : Su) : Su :=
  if u.list.length < 8 then { u with list := insertRank u.beat e u.list }
  else { u with list := (insertRank u.beat e u.list).take 8, droppedEntries := bump u.droppedEntries }

/-- Steps 4 and 5 of R49: the tie-break, then the full list. -/
def Su.place (e : Entry) (u : Su) : Su :=
  match u.list.find? (Entry.rival e) with
  | none => u.fit e
  | some o =>
    if e.prevails o then
      { u with list := u.list.erase o, droppedEntries := bump u.droppedEntries }.fit e
    else { u with droppedEntries := bump u.droppedEntries }

/-- The entry is present already, or is the last applied change (R49 step 1). -/
def Su.holds (e : Entry) (u : Su) : Bool := u.list.any (fun x => x.ident == e.ident) || u.line.lastIs e

/-- An entry became late (R51). -/
def Su.markLate (u : Su) : Su := { u with lateChanges := bump u.lateChanges, calm := 0, lateThisBeat := true }

/-- The beat after the current one. -/
def Su.nextBeat (u : Su) : Nat := (u.beat + 1) % two32

/-- Install an offered entry (R49, R51), late when `late` says so or its apply beat is not later than the current beat.
The answer says whether it became late. -/
def Su.install (maxSpeed : Nat) (late : Bool) (e : Entry) (u : Su) : Su × Bool :=
  if u.holds e then (u, false)
  else if late || !beatLater e.beat u.beat then
    (u.markLate.place ((e.clamped maxSpeed).at u.nextBeat), true)
  else (u.place (e.clamped maxSpeed), false)

/-- Install a stop at an adoption or founding: at the next beat, neither late nor counted as late (R55). -/
def Su.installStop (u : Su) (e : Entry) : Su := if u.holds e then u else u.place (e.at u.nextBeat)

/-- The entries a Shaft frame carries, as an adoption takes them: clamped, in rank order, no identity twice (R63). -/
def Su.takeCarried (maxSpeed : Nat) (entries : List Entry) (u : Su) : Su :=
  entries.foldl (fun v e => if v.list.any (fun x => x.ident == e.ident) then v
    else { v with list := insertRank v.beat (e.clamped maxSpeed) v.list }) { u with list := [] }

/-- One entry applied (R50). -/
def Line.apply (l : Line) : Entry → Line
  | .release origin num _ => { l with stop := .none, target := 0, last := some (origin, num) }
  | .set origin num target accel decel _ =>
      { l with target := target, accel := accel, decel := decel, last := some (origin, num) }
  | .stop _ _ _ fast _ => { l with stop := l.stop.higher (if fast then .fast else .normal) }

/-- The entries of a beat in the order in which they are applied: a RELEASE before a SET, and both before any STOP
(R50; log 46). -/
def applyOrder (due : List Entry) : List Entry :=
  due.filter Entry.isRelease ++ due.filter Entry.isSet ++ due.filter Entry.isStop

/-- The entries of the current beat are applied and leave the list (R50). -/
def Su.applyDue (u : Su) : Su :=
  { u with
    line := (applyOrder (u.list.filter fun e => e.beat == u.beat)).foldl Line.apply u.line
    list := u.list.filter fun e => e.beat != u.beat }

/-! ## Midpoint and slew (R61) -/

/-- Put a number in its place, lowest first. -/
def insertInt (x : Int) : List Int → List Int
  | [] => [x]
  | y :: ys => if x ≤ y then x :: y :: ys else y :: insertInt x ys

/-- The numbers from lowest to highest. -/
def sortInts (xs : List Int) : List Int := xs.foldr insertInt []

/-- How many lowest and highest values are set aside of `n`. -/
def setAside (n : Nat) : Nat := if n ≤ 3 then 0 else if n ≤ 7 then 1 else 2

/-- The midpoint m of the VALID offsets with the own 0. -/
def midpoint (offsets : List Int) : Int :=
  let d := sortInts (0 :: offsets)
  let f := setAside d.length
  let kept := (d.drop f).take (d.length - 2 * f)
  Int.tdiv (kept.headD 0 + kept.getLastD 0) 2

/-- The lengths of the eight ticks for midpoint m. -/
def slewTicks (m : Int) : List Nat :=
  let c := clampTo 2000 m
  let q := Int.tdiv c 8
  let r := c - 8 * q
  (List.range 8).map fun i => (125000 + q + (if i < r.natAbs then r.sign else 0)).toNat

/-- The VALID offsets of a report set. -/
def validOffsets (reports : List Report) : List Int :=
  (reports.filter fun r => r.cls == .valid).map fun r => r.offset

/-- The beat of a report set is a minority beat (R67). -/
def minorityBeat (reports : List Report) : Bool :=
  let excluded := (reports.filter fun r => r.cls == .excluded).length
  let valid := (reports.filter fun r => r.cls == .valid).length
  (decide (0 < excluded) && decide (valid < excluded)) || reports.any fun r => r.cls == .foreignLow

/-- The beat of a report set meets the settled test: n of 2 or more and |m| of 1,000 or less (R66). -/
def settledBeat (reports : List Report) : Bool :=
  let offsets := validOffsets reports
  !offsets.isEmpty && decide ((midpoint offsets).natAbs ≤ 1000)

end Sys2Proof.Machine
end

