-- ==== Sys2Proof/Machine/AxisOps.lean ====
section
/-! DEFINITION. The Axis Unit's operations: entering TORQUE_OFF, leaving the line, the tick of an axis, trims
(R75 to R94). -/

namespace Sys2Proof.Machine

/-- The record of an axis. -/
def State.axis (s : State) (i : Fin 4) : Axis := s.au.axes.get i

/-- Change the record of an axis. -/
def State.onAxis (i : Fin 4) (f : Axis → Axis) (s : State) : State :=
  s.onAu fun u => { u with axes := u.axes.modify i f }

/-- The Axis state changed event of an axis that goes from the state of record `a` to `new`: the setpoint is that of the last
Setpoint message (R95; log 47), the actual position that of the last answer, and 0 when none has been taken: DESIGN CHOICE
(log 63). -/
def Axis.changed (i : Fin 4) (new : AxisState) (reason : AxisReason) (a : Axis) : Event :=
  .axisChanged i new a.state reason a.setpoint ((a.last.map (·.actual)).getD 0)

/-- Post the event of an axis's change of state from `prev` to the one it has now (R95). -/
def State.axisEvent (i : Fin 4) (prev : AxisState) (reason : AxisReason) (s : State) : State :=
  s.post ({ s.axis i with state := prev }.changed i (s.axis i).state reason)

/-- Change an axis's record and post the event of its change of state. -/
def State.changeAxis (i : Fin 4) (f : Axis → Axis) (reason : AxisReason) (s : State) : State :=
  (s.onAxis i f).axisEvent i (s.axis i).state reason

/-- Do something for axes 0 to 3 in turn. Where axes change together the data book gives no order: DESIGN CHOICE (log 86). -/
def State.eachAxis (f : Fin 4 → State → State) (s : State) : State := f 3 (f 2 (f 1 (f 0 s)))

/-! ## TORQUE_OFF (R78) -/

/-- The record of an axis that enters TORQUE_OFF (R78). One that leaves COUPLED keeps the position reached in the jog
accumulator, as 256 times the last setpoint (R83, R86). -/
def Axis.toTorqueOff (a : Axis) : Axis :=
  { a with
    state := .torqueOff, p := if a.state = .coupled then 256 * a.setpoint else a.p, v := 0, jogTarget := 0
    trimPending := 0, trimApplied := 0, decouplePending := false, decoupleAtEnd := false, following := 0 }

/-- An axis enters TORQUE_OFF when it is energised, and stays as it is when not (R78). -/
def State.enterTorqueOff (reason : AxisReason) (i : Fin 4) (s : State) : State :=
  if (s.axis i).state.energised then s.changeAxis i Axis.toTorqueOff reason else s

/-- Every energised axis enters TORQUE_OFF (R89, R90). -/
def State.torqueOffAll (reason : AxisReason) (s : State) : State := s.eachAxis (State.enterTorqueOff reason)

/-! ## Leaving the line (R83, R84, R88) -/

/-- The axis's own speed for a line speed, reduced to the axis max speed (R83). -/
def ownSpeed (c : AxisCfg) (speed : Nat) : Nat := min (speed * c.n / c.d) c.maxSpeed

/-- The record of an axis that enters DECOUPLED from COUPLING or COUPLED at line speed `speed` (R83). -/
def Axis.decouple (c : AxisCfg) (speed : Nat) (a : Axis) : Axis :=
  { a with
    state := .decoupled, p := 256 * a.setpoint, v := ownSpeed c speed, jogTarget := 0, trimPending := 0
    trimApplied := 0, decouplePending := false, decoupleAtEnd := false }

/-- COUPLING or COUPLED. -/
def AxisState.onLine : AxisState → Bool
  | .coupling | .coupled => true
  | .disabled | .torqueOff | .decoupled | .stopping => false

/-- An axis leaves COUPLING or COUPLED because the line history is replaced (R84). -/
def State.historyDecouple (speed : Nat) (i : Fin 4) (s : State) : State :=
  match s.axisCfg i with
  | some c =>
    if (s.axis i).state.onLine then s.changeAxis i (Axis.decouple c speed) .historyReplaced else s
  | none => s

/-- The record of an axis that enters STOPPING at tick speed `speed` under the effective stop (R88). -/
def Axis.toStopping (c : AxisCfg) (fast : Bool) (speed : Nat) (a : Axis) : Axis :=
  { a with
    state := .stopping, stopFast := fast, p := 256 * a.setpoint
    v := if a.state.onLine then ownSpeed c speed else a.v
    jogTarget := 0, trimPending := 0, trimApplied := 0, decouplePending := false, decoupleAtEnd := false }

/-! ## The tick of an axis (R75) -/

/-- Whether an axis enters STOPPING under an effective stop that is not NONE (R75 step 1). -/
def Axis.stops (a : Axis) (localStop : StopMode) : Bool :=
  match a.state with
  | .coupling => true
  | .coupled => localStop != .none
  | .decoupled => decide (0 < a.v)
  | .disabled | .torqueOff | .stopping => false

/-- What a stop in force does to an axis that does not enter STOPPING: a standing DECOUPLED axis's jog target is held at 0,
a STOPPING axis's mode is raised. -/
def Axis.underStop (eff : StopMode) (a : Axis) : Axis :=
  match a.state with
  | .decoupled => { a with jogTarget := 0 }
  | .stopping => { a with stopFast := a.stopFast || eff == .fast }
  | .disabled | .torqueOff | .coupling | .coupled => a

/-- Step 1 of R75, at tick speed `speed`. -/
def State.stopEntry (c : AxisCfg) (speed : Nat) (i : Fin 4) (s : State) : State :=
  let eff := s.effectiveStop
  if eff = .none then s
  else if (s.axis i).stops s.au.localStop then
    s.changeAxis i (Axis.toStopping c (eff == .fast) speed)
      (if s.au.localStop = .none then .lineStop else .localStop)
  else s.onAxis i (Axis.underStop eff)

/-- The geared increment and the new remainder of a tick (R76). -/
def gear (c : AxisCfg) (speed rmd : Nat) : Nat × Nat :=
  let x := speed * c.n + rmd
  (x / (256 * c.d), x % (256 * c.d))

/-- The direct formula's accumulator at line angle `angle` (R76). -/
def directG (c : AxisCfg) (angle phase : Nat) : Nat := (angle * c.n / (256 * c.d) + phase) % c.m

/-- The direct formula's remainder at line angle `angle` (R76). -/
def directRmd (c : AxisCfg) (angle : Nat) : Nat := angle * c.n % (256 * c.d)

/-- One trim step (R86). -/
def Axis.trimStep (c : AxisCfg) (a : Axis) : Axis :=
  let d := clampTo c.trimStep a.trimPending
  { a with trimApplied := a.trimApplied + d, trimPending := a.trimPending - d }

/-- The tick of a COUPLED axis: the trim step and the gearing (R76, R86). -/
def Axis.coupledTick (c : AxisCfg) (speed : Nat) (a : Axis) : Axis :=
  let g := gear c speed a.rmd
  { a.trimStep c with g := (a.g + g.1) % c.m, rmd := g.2 }

/-- The setpoint of a COUPLED axis (R76). -/
def Axis.coupledSetpoint (c : AxisCfg) (a : Axis) : Nat := (((a.g : Int) + a.trimApplied) % (c.m : Int)).toNat

/-- The distance of a COUPLING axis to its coupling target in a tick (R82). -/
def Axis.distance (c : AxisCfg) (r : TickResult) (a : Axis) : Nat :=
  subMod (directG c r.angle a.phase) (a.setpoint + (gear c r.speed a.rmd).1) c.m

/-- A COUPLING axis reaches its coupling window in this tick (R82 step 4). -/
def Axis.couples (c : AxisCfg) (r : TickResult) (a : Axis) : Bool := decide (a.distance c r ≤ c.window)

/-- The record of an axis that enters COUPLED in a tick (R82 step 4, R76). -/
def Axis.toCoupled (c : AxisCfg) (r : TickResult) (a : Axis) : Axis :=
  { a with
    state := .coupled, g := directG c r.angle a.phase, rmd := directRmd c r.angle, trimPending := 0, trimApplied := 0 }

/-- The jog speed and accumulator of a DECOUPLED axis after a tick (R79). -/
def Axis.jogTick (c : AxisCfg) (a : Axis) : Axis :=
  let v := approach a.v a.jogTarget c.jogAccel c.jogDecel
  { a with v := v, p := (a.p + v) % (256 * c.m) }

/-- The jog speed and accumulator of a STOPPING axis after a tick (R88). -/
def Axis.stopTick (c : AxisCfg) (a : Axis) : Axis :=
  let v := a.v - (if a.stopFast then c.fastDecel else c.jogDecel)
  { a with v := v, p := (a.p + v) % (256 * c.m) }

/-- Step 4 of R75: the Setpoint message with its answer window, sent at `start` (R91). -/
def Axis.exchange (start setpoint : Nat) (a : Axis) : Axis :=
  { a with
    driveSeq := if a.sentAny then (a.driveSeq + 1) % 256 else 0, sentAny := true, setpoint := setpoint
    window := some { setpoint := setpoint, closes := start + 50000 } }

/-- The enable flag of the Setpoint message an axis sends: set when it is energised (R91). -/
def Axis.enableFlag (a : Axis) : Bool := a.state.energised

/-- The record after step 2 of R75 in its state, and the setpoint of the tick. -/
def Axis.arithmetic (c : AxisCfg) (r : TickResult) (a : Axis) : Axis × Nat :=
  match a.state with
  | .coupled => let b := a.coupledTick c r.speed; (b, b.coupledSetpoint c)
  | .coupling =>
      if a.couples c r then (a.toCoupled c r, directG c r.angle a.phase)
      else
        let g := gear c r.speed a.rmd
        ({ a with rmd := g.2 }, (a.setpoint + g.1 + min (a.distance c r) c.catchUp) % c.m)
  | .decoupled => let b := a.jogTick c; (b, b.p / 256)
  | .stopping => let b := a.stopTick c; (b, b.p / 256)
  | .disabled | .torqueOff => (a, (a.last.map (·.actual)).getD 0)

/-- Step 3 of R75: a revolution step with decouple pending set takes the axis off the line at the tick end. -/
def Axis.revolutionStep (revStep : Bool) (a : Axis) : Axis :=
  if revStep && a.decouplePending && a.state.onLine then { a with decoupleAtEnd := true } else a

/-- Steps 2 to 4 of R75 for a present axis. -/
def State.axisArithmetic (c : AxisCfg) (i : Fin 4) (s : State) : State :=
  let r := s.su.next
  let a := s.axis i
  let out := a.arithmetic c r
  let s := s.onAxis i fun _ => out.1
  let s := if a.state == .coupling && out.1.state == .coupled then s.axisEvent i a.state .couplingComplete else s
  s.onAxis i fun b => (b.revolutionStep r.revStep).exchange s.now out.2

/-- The tick of one axis (R75). An axis in DISABLED takes no part. -/
def State.axisTick (i : Fin 4) (s : State) : State :=
  match s.axisCfg i with
  | some c =>
    if (s.axis i).state = .disabled then s
    else (s.stopEntry c s.su.next.speed i).axisArithmetic c i
  | none => s

/-- What the tick end does to an axis: the boundary decouple of R83 and the stop complete of R88. -/
def State.axisTickEnd (i : Fin 4) (s : State) : State :=
  let a := s.axis i
  if a.decoupleAtEnd && a.state.onLine then
    match s.axisCfg i with
    | some c => s.changeAxis i (Axis.decouple c s.su.next.speed) .revolutionBoundary
    | none => s
  else if a.state = .stopping ∧ a.v = 0 then
    s.changeAxis i (fun b => { b with state := .decoupled, jogTarget := 0 }) .stopComplete
  else s

/-! ## Trims (R85, R86) -/

/-- The limit of trim pending. -/
def trimLimit : Int := 1048576

/-- Trim pending with an accepted amount added, limited. -/
def Axis.addTrim (amount : Int) (a : Axis) : Axis := { a with trimPending := clampTo trimLimit (a.trimPending + amount) }

/-- Part of the amount does not fit. -/
def Axis.trimLost (amount : Int) (a : Axis) : Bool := clampTo trimLimit (a.trimPending + amount) != a.trimPending + amount

/-- A correction converted to axis counts (R85). -/
def trimOf (c : AxisCfg) (e : Int) : Int := roundHalfAway (e * c.n) (256 * c.d)

/-- A correction is discarded and counted (R85). -/
def State.discardCorrection (s : State) : State :=
  s.onAu fun u => { u with discardedCorrections := bump u.discardedCorrections }

/-- A Correction frame's or local correction's target axis and correction (R85). -/
def State.takeCorrection (axis : Nat) (e : Int) (s : State) : State :=
  match fin4? axis with
  | some i =>
    match s.axisCfg i with
    | some c =>
      if (s.axis i).state = .coupled then s.onAxis i (Axis.addTrim (trimOf c e)) else s.discardCorrection
    | none => s.discardCorrection
  | none => s.discardCorrection

end Sys2Proof.Machine
end

