-- ==== Sys2Proof/Machine/TripOps.lean ====
section
/-! DEFINITION. The Trip Unit's operations: raises, refreshes, clears and their effects, the reports of causes, the
first-trip record and the notice (R134 to R160). -/

namespace Sys2Proof.Machine

/-! ## The notice (R157, R159) -/

/-- Post a Trip notice and set notice outstanding (R157). -/
def State.postNotice (s : State) : State :=
  let t := s.tu
  (s.post (.tripNotice t.table.length (t.table.filter fun e => e.state == .active).length s.gateOpen t.lost
    t.more)).onTu fun u => { u with noticeOut := true }

/-- After a loss of the host link the event queue is not set up again, or the port is ready and has not reported it yet
(R159, R200). -/
def State.holdsNotice (s : State) : Bool := s.tu.noticeHeld && (!s.cmp.event.run || s.portReady)

/-- A change is marked: a notice is posted, or changes pending is set (R157). While the event queue is not set up again after
a loss of the host link, a change only sets changes pending (R159). -/
def State.markChange (s : State) : State :=
  if s.tu.noticeOut || s.holdsNotice then s.onTu fun u => { u with changesPending := true } else s.postNotice

/-! ## The table (R138) -/

/-- The entry of a key. -/
def Tu.entry (k : TripKey) (u : Tu) : Option TripEntry := u.table.find? fun e => e.key == k

/-- Change the entry of a key. -/
def Tu.onEntry (k : TripKey) (f : TripEntry → TripEntry) (u : Tu) : Tu :=
  { u with table := u.table.map fun e => if e.key == k then f e else e }

/-- The Axis Unit is told the local stop level the table calls for (R88, R147). -/
def State.updateLocalStop (s : State) : State := s.onAu fun u => { u with localStop := s.localStopLevel }

/-! ## Effects of a raise (R146) -/

/-- The Trip Unit submits a STOP entry to the Shaft Unit (R55). The answer says whether it became late. -/
def State.submitStop (k : TripKey) (fast : Bool) (beat founder : Nat) (s : State) : State × Bool :=
  let foreign := founder != s.su.founder || s.su.founder == 0
  let r := s.su.install s.maxSpeed foreign (.stop k.origin k.cause k.detail fast beat)
  ({ s with su := r.1 }, r.2)

/-- A raise makes a line stop: Ring scope and NormalStop or above; the answer is whether it is FAST (R146). -/
def Raise.lineStop (r : Raise) : Option Bool :=
  match r.scope, r.category with
  | .ring, .normalStop => some false
  | .ring, .fastStop => some true
  | .ring, .torqueOff => some true
  | .ring, .masked | .ring, .warn | .here, _ => none

/-- The effects of a raise, in the order of R146: torque-off, STOP entry, local stop level. -/
def State.raiseEffects (r : Raise) (s : State) : State × Bool :=
  let s := if r.category = .torqueOff then s.torqueOffAll .torqueOff else s
  let p := match r.lineStop with
    | some fast => s.submitStop r.key fast r.beat r.founder
    | none => (s, false)
  (p.1.updateLocalStop, p.2)

/-! ## The first-trip record and the source identifiers (R153, R154) -/

/-- A new key is offered to the first-trip record. -/
def State.offerFirstTrip (r : Raise) (s : State) : State :=
  s.onTu fun u =>
    match u.first with
    | some _ => { u with more := true }
    | none =>
      { u with
        first := some
          { key := r.key, category := r.category, scope := r.scope, beat := s.su.beat, angle := s.su.line.angle
            rev := s.su.line.rev, header := r.header, payload := r.payload } }

/-- An identifier is frozen from the moment it is set. -/
def freeze (origin : Nat) (x : Option Nat) : Option Nat := some (x.getD origin)

/-- A new key is offered to the source identifiers. -/
def Tu.offerSource (r : Raise) (u : Tu) : Tu :=
  match r.category with
  | .torqueOff =>
      { u with
        firstTorqueOff := freeze r.key.origin u.firstTorqueOff
        multiTorqueOff := u.multiTorqueOff || u.firstTorqueOff.isSome }
  | .normalStop | .fastStop => { u with firstStop := freeze r.key.origin u.firstStop }
  | .warn => { u with firstWarn := freeze r.key.origin u.firstWarn }
  | .masked => u

/-! ## Raise, refresh and clear (R140 to R145) -/

/-- The entry a new key makes (R140). -/
def Raise.entry (r : Raise) (beat : Nat) : TripEntry :=
  { key := r.key, category := r.category, scope := r.scope, state := .active, firstSeen := beat, refresh := 0
    quiet := 0 }

/-- Room in the table takes a new key at its end; a full table loses it (R140, R144). -/
def Tu.enlist (e : TripEntry) (u : Tu) : Tu :=
  if u.table.length < 32 then { u with table := u.table ++ [e] } else { u with lost := true }

/-- The entry of a key raised again (R140). -/
def TripEntry.reraise (r : Raise) (e : TripEntry) : TripEntry :=
  { e with category := r.category, scope := r.scope, state := .active, refresh := 0, quiet := 0 }

/-- A raise taken (R140, R144). The answer says whether its STOP entry became late. -/
def State.raise (r : Raise) (s : State) : State × Bool :=
  match s.tu.entry r.key with
  | none =>
    let p := (s.onTu fun u => u.enlist (r.entry s.su.beat)).raiseEffects r
    (((p.1.offerFirstTrip r).onTu fun u => u.offerSource r).markChange, p.2)
  | some e =>
    let p := (s.onTu fun u => u.onEntry r.key (TripEntry.reraise r)).raiseEffects r
    (if e.state = .active then p.1 else p.1.markChange, p.2)

/-- A clear taken (R142). -/
def State.clearTrip (k : TripKey) (s : State) : State :=
  match s.tu.entry k with
  | none => s
  | some e =>
    if e.state = .cleared then s
    else ((s.onTu fun u => u.onEntry k fun x => { x with state := .cleared }).updateLocalStop).markChange

/-- One ACTIVE entry becomes ORPHANED, and holds no quiet count (R145): its byte of the trip table image is 0, DESIGN CHOICE
(log 100). -/
def State.orphanTrip (k : TripKey) (s : State) : State :=
  ((s.onTu fun u => u.onEntry k fun x => { x with state := .orphaned, quiet := 0 }).updateLocalStop).markChange

/-- Every ACTIVE entry whose origin meets `p` becomes ORPHANED (R145): one after another in table order, each with its change
marked before the next: DESIGN CHOICE (log 91). -/
def State.orphanWhere (p : Nat → Bool) (s : State) : State :=
  ((s.tu.table.filter fun e => e.state == .active && p e.key.origin).map fun e => e.key).foldl
    (fun x k => x.orphanTrip k) s

/-! ## Frames of own causes (R148 to R151) -/

/-- The Trip frame of an own cause. -/
def State.tripFrame (action : TripAction) (cause detail beat founder : Nat) (s : State) : LaneFrame :=
  let e := s.causeEntry cause
  wholeFrame .trip 0
    (tripPayload action { origin := s.ownStation, cause := cause, detail := detail } e.1 e.2 beat founder)

/-- Trips of the own station are sent: MEMBER or LEAVING and Ring scope (R148, R150). -/
def State.sendsTrips (cause : Nat) (s : State) : Bool := s.mc.link.isMember && (s.causeEntry cause).2 == .ring

/-- The cause is not Masked in the cause map. -/
def State.unmasked (cause : Nat) (s : State) : Bool := (s.causeEntry cause).1 != .masked

/-- Cause `a` with its detail comes before `b` in cause order and then detail order. -/
def OwnCause.before (a b : OwnCause) : Bool := decide (a.cause < b.cause) || (a.cause == b.cause && decide (a.detail < b.detail))

/-- Put a cause in its place. -/
def insertCause (c : OwnCause) : List OwnCause → List OwnCause
  | [] => [c]
  | x :: xs => if c.before x then c :: x :: xs else x :: insertCause c xs

/-- The raise of an own cause with the header and payload of its RAISE frame as composed (R148, R153). -/
def State.ownRaise (cause detail : Nat) (s : State) : Raise :=
  let e := s.causeEntry cause
  let beat := (s.su.beat + 2) % two32
  let f := s.tripFrame .raise cause detail beat s.su.founder
  { key := { origin := s.ownStation, cause := cause, detail := detail }, category := e.1, scope := e.2, beat := beat
    founder := s.su.founder, header := launchHeader f s.ownStation 0 0 0, payload := f.payload }

/-- A cause becomes true (R148). The answer says whether a STOP entry became late. -/
def State.causeOn (cause detail : Nat) (s : State) : State × Bool :=
  let r := s.ownRaise cause detail
  let masked := !s.unmasked cause
  let c : OwnCause :=
    { cause := cause, detail := detail, beat := if masked then 0 else r.beat, founder := if masked then 0 else r.founder }
  let s := s.onTu fun u => { u with causes := insertCause c u.causes }
  if masked then (s, false)
  else
    let p := s.raise r
    (if p.1.sendsTrips cause then p.1.offer (s.tripFrame .raise cause detail r.beat r.founder) else p.1, p.2)

/-- A cause becomes false (R150). -/
def State.causeOff (cause detail : Nat) (s : State) : State :=
  match s.tu.causes.find? fun c => c.cause == cause && c.detail == detail with
  | none => s
  | some c =>
    let s := s.onTu fun u => { u with causes := u.causes.filter fun x => !(x.cause == cause && x.detail == detail) }
    if s.unmasked cause then
      let s := s.clearTrip { origin := s.ownStation, cause := cause, detail := detail }
      if s.sendsTrips cause then s.offer (s.tripFrame .clear cause detail c.beat c.founder) else s
    else s

/-- Lateness is reported: cause 12 is true from now on (R51; log 13). -/
def State.reportLate (late : Bool) (s : State) : State :=
  if late && !s.causeTrue 12 0 then (s.causeOn 12 0).1 else s

/-- A block reports a cause true (R134). -/
def State.reportTrue (cause detail : Nat) (s : State) : State :=
  if s.causeTrue cause detail then s
  else
    let p := s.causeOn cause detail
    p.1.reportLate p.2

/-- A block reports a cause false (R134). -/
def State.reportFalse (cause detail : Nat) (s : State) : State :=
  if s.causeTrue cause detail then s.causeOff cause detail else s

/-- A block reports a cause true or false (R134). -/
def State.report (cause detail : Nat) (b : Bool) (s : State) : State :=
  if b then s.reportTrue cause detail else s.reportFalse cause detail

/-- A cause is reported false for every detail for which it is true and which meets `p`. -/
def State.reportAllFalse (cause : Nat) (p : Nat → Bool) (s : State) : State :=
  (s.tu.causes.filter fun c => c.cause == cause && p c.detail).foldl (fun x c => x.reportFalse cause c.detail) s

/-- A raise taken, and lateness reported (R140, R51). -/
def State.takeRaise (r : Raise) (s : State) : State :=
  let p := s.raise r
  p.1.reportLate p.2

/-- A refresh taken (R141). -/
def State.takeRefresh (r : Raise) (s : State) : State :=
  match s.tu.entry r.key with
  | some e =>
    if e.state = .active then
      s.onTu fun u => u.onEntry r.key fun x => { x with refresh := min (x.refresh + 1) 255, quiet := 0 }
    else s.takeRaise r
  | none => s.takeRaise r

/-- An own Shaft Unit entry installed outside a raise, and lateness reported (R49, R51). -/
def State.installEntry (e : Entry) (s : State) : State :=
  let p := s.su.install s.maxSpeed false e
  { s with su := p.1 }.reportLate p.2

/-- Own causes that are sent: not Masked and of Ring scope. -/
def State.sentCauses (s : State) : List OwnCause :=
  s.tu.causes.filter fun c => s.unmasked c.cause && (s.causeEntry c.cause).2 == .ring

/-- One REFRESH offered, and the own entry's refresh count stepped (R149). -/
def State.refreshCause (s : State) (c : OwnCause) : State :=
  (s.offer (s.tripFrame .refresh c.cause c.detail c.beat c.founder)).onTu fun u =>
    u.onEntry { origin := s.ownStation, cause := c.cause, detail := c.detail } fun e =>
      { e with refresh := min (e.refresh + 1) 255 }

/-- The REFRESH frames of a roster-beat start (R149). -/
def State.offerRefreshes (s : State) : State :=
  if s.mc.link.isMember then s.sentCauses.foldl State.refreshCause s else s

/-- A RAISE composed anew for a true cause on entering MEMBER (R151). -/
def State.raiseOnEntry (s : State) (c : OwnCause) : State :=
  let beat := (s.su.beat + 2) % two32
  (s.onTu fun u =>
    { u with causes := u.causes.map fun x =>
        if x.cause == c.cause && x.detail == c.detail then { x with beat := beat, founder := s.su.founder } else x }).offer
    (s.tripFrame .raise c.cause c.detail beat s.su.founder)

/-- The RAISE frames of entering MEMBER (R151). -/
def State.raisesOnEntry (s : State) : State := s.sentCauses.foldl State.raiseOnEntry s

/-- Quiet counts step at a roster-beat start (R143). -/
def State.stepQuiet (s : State) : State :=
  if s.mc.link.inRing then
    s.onTu fun u =>
      { u with table := u.table.map fun e =>
          if e.state == .active && e.key.origin != s.ownStation then { e with quiet := min (e.quiet + 1) 6 } else e }
  else s

/-- The STOP entries of R55 for an adoption or founding, in table order (R147). -/
def State.standingStops (s : State) : List Entry :=
  s.tu.table.filterMap fun e =>
    if e.state == .active && e.scope == .ring then
      match e.category with
      | .normalStop => some (.stop e.key.origin e.key.cause e.key.detail false 0)
      | .fastStop | .torqueOff => some (.stop e.key.origin e.key.cause e.key.detail true 0)
      | .masked | .warn => none
    else none

/-- The stops of R55 submitted anew to the Shaft Unit. -/
def State.resubmitStops (s : State) : State := s.onSu fun u => s.standingStops.foldl Su.installStop u

/-- One true cause re-evaluated when a configuration takes effect: false under the old one, true under the new (R152). -/
def State.reevaluate (old new : Option Cfg) (s : State) (c : OwnCause) : State :=
  let s := { s with cfg := old }.causeOff c.cause c.detail
  let p := { s with cfg := new }.causeOn c.cause c.detail
  p.1.reportLate p.2

end Sys2Proof.Machine
end

