-- ==== Sys2Proof/Machine/RingOps.lean ====
section
/-! DEFINITION. The Ring Port's operations: receiver errors, the return watch, waiting offers, the arbiter's launch and
forwarding, and the handing of copies to their blocks (R9 to R23, R126). -/

namespace Sys2Proof.Machine

/-! ## Receiver errors (R23) -/

/-- A receiver error: the counter and the window step, and cause 9 detail 0 is reported true from a window of 16 on. -/
def State.receiverError (s : State) : State :=
  let s := s.onRp fun r => { r with receiverErrors := bump r.receiverErrors, errWindow := r.errWindow + 1 }
  if 16 ≤ s.rp.errWindow then s.reportTrue 9 0 else s

/-- What a roster-beat start does to the receiver-error window. -/
def State.rollErrorWindow (s : State) : State :=
  let quiet := s.rp.errWindow == 0
  let s := s.onRp fun r => { r with errWindow := 0 }
  if quiet then s.reportFalse 9 0 else s

/-- An aborted frame arrived (R11, R16). -/
def State.countAborted (s : State) : State := s.onRp fun r => { r with aborted := bump r.aborted }

/-! ## Return watch (R20 to R22) -/

/-- The watch without the first entry of sequence `q`. -/
def dropWatch (q : Nat) (w : List WatchEntry) : List WatchEntry := w.eraseP fun e => e.sequence == q

/-- The entry of sequence `q` is removed as missing (R22). -/
def State.watchMissing (q : Nat) (s : State) : State :=
  let s := s.onRp fun r =>
    { r with
      watch := dropWatch q r.watch, returnMissing := bump r.returnMissing
      consecMissing := min (r.consecMissing + 1) 3 }
  if s.rp.consecMissing = 3 then s.reportTrue 7 0 else s

/-- The watch holds an entry of sequence `q`. -/
def Rp.watches (q : Nat) (r : Rp) : Bool := r.watch.any fun e => e.sequence == q

/-- An urgent launch enters the watch (R20). -/
def State.watchLaunch (q : Nat) (s : State) : State :=
  let s := if s.rp.watches q then s.watchMissing q else s
  s.onRp fun r =>
    if r.watch.length < 16 then { r with watch := r.watch ++ [{ sequence := q, launched := s.now }] }
    else { r with unwatched := bump r.unwatched }

/-- A return taken (R21). -/
def State.takeReturn (cls q : Nat) (s : State) : State :=
  match s.laneOf cls with
  | .bulk => s
  | .urgent =>
    if s.rp.watches q then
      (s.onRp fun r => { r with watch := dropWatch q r.watch, consecMissing := 0 }).reportFalse 7 0
    else s.onRp fun r => { r with unmatched := bump r.unmatched }

/-! ## Waiting offers (R9, R126, R167) -/

/-- A frame of class `c` waits. -/
def State.waits (c : Nat) (s : State) : Bool := s.rp.waitList.contains c

/-- Offer Correction frames from the head of the send list until one waits or the list is empty (R126). -/
def State.muPumpN : Nat → State → State
  | 0, s => s
  | n + 1, s =>
    match s.mu.sendList with
    | [] => s
    | f :: rest =>
      let p := s.offerR f
      if p.2 = .waiting then p.1 else State.muPumpN n (p.1.onMu fun m => { m with sendList := rest })

/-- Offer what the send list holds (R126). -/
def State.muPump (s : State) : State := State.muPumpN s.mu.sendList.length s

/-- The invalidate of a publication stays with the Screen Unit behind a waiting frame of its class (R9): of the frames of class 5
it alone has destination 0 (R167). -/
def State.announcing (s : State) : Bool :=
  ((s.rp.held.filter fun f => f.cls == 5).drop 1).any fun f => f.dest == 0

/-- A publication waits: for its invalidate, which enters the ring ahead of the data, or for a fragment (R167; log 93). -/
def State.pubWaits (s : State) : Bool := s.announcing || s.waits 6

/-- The publication goes on: with nothing to wait for it reads its next tile, or completes (R167). -/
def State.pubAdvance (s : State) : State :=
  match s.scu.pub with
  | none => s
  | some p =>
    if p.reading || s.pubWaits then s
    else match p.tiles with
      | [] => (s.onScu fun c => { c with pub := none }).result .normal .done
      | t :: _ =>
        (s.onScu fun c => { c with pub := some { p with reading := true } }).issueRead .tileRead .normal t.addr 2048

/-- What the producer does about a refused frame: a Touch frame becomes a local Touch event with the flag not delivered
(R176; log 20), with source 0 and without the publisher, for which the record has no place: DESIGN CHOICE (log 103). Every other
frame is discarded (R34, R165, R167, R183). -/
def State.refusedFrame (f : LaneFrame) (s : State) : State :=
  if f.kind = .tileControl then
    match parseTileCtl f.payload with
    | some (.touch press page x index y) => s.post (.touch 0 press true false page x y index)
    | _ => s
  else s

/-- Offer a frame of the Screen Unit. -/
def State.offerScreen (f : LaneFrame) (s : State) : State :=
  let p := s.offerR f
  if p.2 = .refused then p.1.refusedFrame f else p.1

/-- Offer frames in turn. -/
def State.offerAll (fs : List LaneFrame) (s : State) : State := fs.foldl (fun x f => x.offerScreen f) s

/-- The waiting frames: of each class of the wait list, the first frame kept. -/
def Rp.waitingFrames (r : Rp) : List LaneFrame := r.waitList.filterMap fun c => r.held.find? fun f => f.cls == c

/-- The frames kept behind the waiting ones. -/
def behindWaiting (wait : List Nat) (held : List LaneFrame) : List LaneFrame :=
  wait.foldl (fun h c => h.eraseP fun f => f.cls == c) held

/-- The bulk lane and the wait list are emptied, and each waiting block is told that its frame was refused; the blocks then
offer what they keep behind it (R9, R10, R126, R167). -/
def State.emptyBulk (s : State) : State :=
  let wait := s.rp.waitList
  let waiting := s.rp.waitingFrames
  let behind := behindWaiting wait s.rp.held
  let s := s.onRp fun r => { r with bulk := [], waitList := [], held := [] }
  let s := waiting.foldl (fun x f => x.refusedFrame f) s
  let s := if wait.contains 4 then s.onMu fun m => { m with sendList := m.sendList.drop 1 } else s
  ((s.offerAll behind).muPump).pubAdvance

/-- The offer at the head of the wait list enters the bulk lane at its tail, and its block offers what it keeps behind
(R9). -/
def State.admitWaiting (s : State) : State :=
  match s.rp.waitList with
  | [] => s
  | 4 :: rest =>
    match s.mu.sendList with
    | [] => s.onRp fun r => { r with waitList := rest }
    | f :: more =>
      ((s.onRp fun r => { r with waitList := rest, bulk := r.bulk ++ [f] }).onMu
        fun m => { m with sendList := more }).muPump
  | c :: rest =>
    match s.rp.held.filter fun f => f.cls == c with
    | [] => s.onRp fun r => { r with waitList := rest }
    | f :: more =>
      ((s.onRp fun r =>
        { r with waitList := rest, bulk := r.bulk ++ [f], held := r.held.filter fun x => x.cls != c }).offerAll
        more).pubAdvance

/-! ## Copies (R14) -/

/-- Hand a copy to the block that owns its kind; a Screen Unit copy of no listed subkind or wrong length is discarded there
(R5, R14, R203; log 22). -/
def State.handCopy (k : Kind) (c : Copy) (s : State) : State :=
  match k with
  | .hello => { s with inMc := s.inMc ++ [c] }
  | .shaft | .speed => { s with inSu := s.inSu ++ [c] }
  | .trip => { s with inTu := s.inTu ++ [c] }
  | .correction => { s with inAu := s.inAu ++ [c] }
  | .tileData | .viewLine => { s with inScu := s.inScu ++ [c] }
  | .tileControl => if (parseTileCtl c.payload).isSome then { s with inScu := s.inScu ++ [c] } else s

/-- The link state copies a kind (R14). -/
def LinkState.copies (l : LinkState) (k : Kind) : Bool :=
  match l with
  | .member | .leaving => true
  | .listen => k == .hello || k == .shaft || k == .trip
  | .dark | .lightCheck | .inserting | .bypassed => false

/-! ## Frames in reception (R11 to R16) -/

/-- The forwarded frame in reception gets the bytes after its header and its closing, wherever it stands: being forwarded,
or last in the pass buffer. -/
def Rp.closeForwarded (body : List Byte) (closing : Closing) (r : Rp) : Rp :=
  match r.tx with
  | .forward f =>
    if f.closing.isNone then { r with tx := .forward { f with body := body, closing := some closing } }
    else { r with pass := r.pass.dropLast ++ (r.pass.getLast?.map fun p => { p with body := body, closing := some closing }).toList }
  | .idle | .abortDelim | .test _ _ | .own _ _ _ _ _ =>
    { r with pass := r.pass.dropLast ++ (r.pass.getLast?.map fun p => { p with body := body, closing := some closing }).toList }

/-- The end of the frame in reception (R11, R12, R14 to R16). -/
def State.endReception (rx : Reception) (body : List Byte) (ending : FrameEnding) (s : State) : State :=
  let s := s.onRp fun r => { r with rx := none }
  let h := parseHeader rx.header
  let good := tailGood rx.header body ending
  let copy : Copy := { header := rx.header, payload := body.take h.length, arrival := rx.arrival }
  match rx.fate with
  | .orphan => s
  | .ownOrigin =>
    if ending = .abortDelim then s.countAborted
    else if !good then s.receiverError
    else
      let s := if h.kindCode = Kind.hello.code then s.handCopy .hello copy else s
      s.takeReturn h.cls h.sequence
  | .forwarded =>
    if headerFailure rx.header then (s.onRp fun r => r.closeForwarded body .abortDelim).receiverError
    else if ending = .abortDelim then (s.onRp fun r => r.closeForwarded body .abortDelim).countAborted
    else if !good then (s.onRp fun r => r.closeForwarded body .abortDelim).receiverError
    else
      let s := s.onRp fun r => r.closeForwarded body .endDelim
      match kindOfCode h.kindCode with
      | some k =>
        if (h.dest = 0 ∨ h.dest = s.ownStation) ∧ s.mc.link.copies k then s.handCopy k copy else s
      | none => s

/-- The frame in reception is cut off after the bytes `arrived`: it fails its tail check (R1, R15). `midHeader`: only a start
delimiter and part of a header had arrived (log 15). -/
def State.cutReception (midHeader : Bool) (arrived : List Byte) (s : State) : State :=
  match s.rp.rx with
  | some rx => s.endReception rx arrived .broken
  | none => if midHeader && s.mc.link.receives then s.receiverError else s

/-! ## The transmitter (R13, R17, R19) -/

/-- Bytes in the pass buffer: those of its complete frames, and those of the frame arriving unless it is stripped
(R11; log 19). -/
def Rp.fillLevel (arriving : Nat) (r : Rp) : Nat :=
  let whole := ((r.pass.filter fun f => f.closing.isSome).map fun f => 20 + f.body.length).sum
  match r.rx with
  | some rx => if rx.fate = .forwarded then whole + arriving else whole
  | none => whole + arriving

/-- A frame boundary: the transmitter is not in the middle of a forwarded frame whose end has not arrived (R17). -/
def Rp.atBoundary (r : Rp) : Bool :=
  match r.tx with
  | .forward f => f.closing.isSome
  | .idle | .abortDelim | .test _ _ | .own _ _ _ _ _ => true

/-- What follows when the transmitter's frame is cut off: the abort delimiter in place of its remainder, and idle fill where
no frame was being sent (R2; log 61 for a reset). -/
def Tx.cutOff : Tx → Tx
  | .own _ _ _ _ _ | .forward _ => .abortDelim
  | .idle | .abortDelim | .test _ _ => .idle

/-- What the transmitter sends in LIGHT_CHECK: idle fill until lock, then the test blocks, each 66 symbols of 8 ns with 8
symbols of idle fill behind it (R2, R29). -/
def State.testTx (s : State) : Tx :=
  match s.mc.check.lockAt with
  | none => .idle
  | some l =>
    let i := (s.now - l) / 592
    if i < s.repeats ∧ (s.now - l) % 592 < 528 then .test s.mc.attempt i else .idle

/-- The transmitter sends what the light check calls for now. -/
def State.sendTest (s : State) : State := s.onRp fun r => { r with tx := s.testTx }

/-- The launch delay of a frame launched now, and its transit: in a Shaft frame the time since its beat's start,
saturating both; 0 in other kinds (R19). -/
def launchTimes (f : LaneFrame) (now : Nat) : Nat × Nat :=
  if f.kind = .shaft then
    let d := ((now : Int) - f.beatStart).toNat
    if 65535 < d then (65535, 65535) else (d, 0)
  else (0, 0)

/-- A frame of a lane is launched (R19). -/
def State.launch (lane : Lane) (f : LaneFrame) (s : State) : State :=
  let q := s.rp.seq
  let d := launchTimes f s.now
  let header := launchHeader f s.ownStation q d.2 d.1
  let s := s.onRp fun r =>
    { r with tx := .own lane f.kind header f.payload (le 4 (frameCrc header f.payload)), seq := (q + 1) % 256 }
  match lane with
  | .urgent => s.watchLaunch q
  | .bulk => s

/-- The header of a frame as it goes out (R12, R13). -/
def State.forwardHeader (f : PassFrame) (s : State) : List Byte :=
  if f.headerFailed then rewriteHeader f.header 31 65535
  else
    let h := parseHeader f.header
    rewriteHeader f.header (h.hop + 1) (min (h.transit + (s.now - f.arrival) + s.hopDelay) 65535)

/-- The arbiter's choice at a frame boundary (R17; R2 in the other link states). -/
def State.arbitrate (arriving : Nat) (s : State) : State :=
  let fill := s.rp.fillLevel arriving
  match s.mc.link with
  | .dark | .bypassed => s.onRp fun r => { r with tx := .idle }
  | .lightCheck => s.sendTest
  | .inserting =>
    match s.rp.pass with
    | f :: rest =>
      s.onRp fun r => { r with pass := rest, tx := .forward { f with header := s.forwardHeader f } }
    | [] => s.onRp fun r => { r with tx := .idle }
  | .listen | .member | .leaving =>
    match s.rp.urgent, s.rp.pass, s.rp.bulk with
    | u :: us, p :: ps, _ =>
      if fill ≤ 744 then (s.onRp fun r => { r with urgent := us }).launch .urgent u
      else s.onRp fun r => { r with pass := ps, tx := .forward { p with header := s.forwardHeader p } }
    | u :: us, [], _ =>
      if fill ≤ 744 then (s.onRp fun r => { r with urgent := us }).launch .urgent u
      else s.onRp fun r => { r with tx := .idle }
    | [], p :: ps, _ => s.onRp fun r => { r with pass := ps, tx := .forward { p with header := s.forwardHeader p } }
    | [], [], b :: bs =>
      if fill = 0 then (s.onRp fun r => { r with bulk := bs }).launch .bulk b else s.onRp fun r => { r with tx := .idle }
    | [], [], [] => s.onRp fun r => { r with tx := .idle }

end Sys2Proof.Machine
end

