-- ==== Sys2Proof/Machine/MarkOps.lean ====
section
/-! DEFINITION. The Mark Unit's operations: windows and accumulators, the evaluation of a revolution, corrections, the
tolerance watch and the loop states (R119 to R131). -/

namespace Sys2Proof.Machine

/-- The loop of a camera. -/
def State.loop (s : State) (i : Fin 4) : Loop := s.mu.loops.get i

/-- Change the loop of a camera. -/
def State.onLoop (i : Fin 4) (f : Loop → Loop) (s : State) : State :=
  s.onMu fun m => { m with loops := m.loops.modify i f }

/-- Change entry `n` of a loop's table. -/
def Loop.onEntry (n : Nat) (f : MarkEntry → MarkEntry) (l : Loop) : Loop := { l with entries := l.entries.modify n f }

/-- Change every entry of a loop's table. -/
def Loop.onEntries (f : MarkEntry → MarkEntry) (l : Loop) : Loop := { l with entries := l.entries.map f }

/-- Entry `n` of a loop's table. -/
def Loop.entry (n : Nat) (l : Loop) : MarkEntry := l.entries.getD n .empty

/-- Post a Register loop changed event (R132). -/
def State.loopEvent (i : Fin 4) (prev : LoopState) (reason : LoopReason) (entry : Option Nat) (s : State) : State :=
  s.post (.loopChanged i (s.loop i).state prev reason entry ((s.loop i).entries.map (·.hold)))

/-! ## Angles of a tick (R100, R119) -/

/-- The revolution in which an angle below 2^32 lies among the angles a tick covered, if it lies there. -/
def Cov.finds (pos : Nat) (c : Cov) : Option Nat :=
  if c.angle ≤ pos ∧ pos < c.angle + c.speed then some c.rev
  else if c.angle ≤ two32 + pos ∧ two32 + pos < c.angle + c.speed then some ((c.rev + 1) % 65536)
  else none

/-- The end of a window: start + length. -/
def MarkEntry.windowEnd (e : MarkEntry) : Nat := e.start + e.length

/-- The revolution of the window whose end lay in the angles a tick covered: an end of 2^32 lies at angle 0 of the
revolution after the window's own (R119). -/
def MarkEntry.endIn (c : Cov) (e : MarkEntry) : Option Nat :=
  if e.windowEnd < two32 then c.finds e.windowEnd
  else (c.finds 0).map fun rev => (rev + 65535) % 65536

/-! ## Accumulators (R119 to R121) -/

/-- The result of a closing accumulator (R121). -/
def MarkEntry.resultOf (minWeight : Nat) (a : Acc) (e : MarkEntry) : WinResult :=
  { rev := a.rev, pos := if minWeight ≤ a.weight then some (e.start + roundHalfDown a.sum a.weight) else none }

/-- The accumulator closes, its result kept for the evaluation (R119 step 2, R121). -/
def MarkEntry.close (minWeight : Nat) (e : MarkEntry) : MarkEntry :=
  match e.acc with
  | some a => { e with acc := none, results := e.results ++ [e.resultOf minWeight a] }
  | none => e

/-- The accumulator opens for a revolution; one still open is closed first (R119 step 1). -/
def MarkEntry.openFor (minWeight rev : Nat) (e : MarkEntry) : MarkEntry :=
  { e.close minWeight with acc := some { rev := rev, weight := 0, sum := 0 } }

/-- What a tick start does to the accumulator of an enabled entry: `before` is the tick before the last one, `now` the
tick that starts (R119). -/
def MarkEntry.tick (minWeight : Nat) (before : Option Cov) (now : Cov) (e : MarkEntry) : MarkEntry :=
  if !e.enabled then e
  else
    let e := if (before.bind fun c => e.endIn c).isSome then e.close minWeight else e
    match now.finds e.start with
    | some rev => e.openFor minWeight rev
    | none => e

/-- The darkness of a line: the mean of 255 less the pixel over the mark lane, rounded down (R120). -/
def darkness (c : CamCfg) (pixels : List Byte) : Nat :=
  let lane := (pixels.drop c.m0).take (c.m1 - c.m0 + 1)
  (lane.map fun x => 255 - x.toNat).sum / (c.m1 - c.m0 + 1)

/-- An accumulator takes a line of darkness `d` (R120). -/
def MarkEntry.takeLine (c : CamCfg) (tag : LineTag) (d : Nat) (e : MarkEntry) : MarkEntry :=
  match e.acc with
  | some a =>
    if a.rev = tag.rev ∧ e.start ≤ tag.angle ∧ tag.angle < e.windowEnd ∧ c.markThreshold < d then
      let w := d - c.markThreshold
      { e with acc := some { a with weight := a.weight + w, sum := a.sum + w * (tag.angle - e.start) } }
    else e
  | none => e

/-- A good line is offered to the open accumulators of its camera; a partial line is not used (R120). -/
def State.markLine (i : Fin 4) (c : CamCfg) (tag : LineTag) (pixels : List Byte) (s : State) : State :=
  if tag.isPartial then s
  else s.onLoop i fun l => l.onEntries (MarkEntry.takeLine c tag (darkness c pixels))

/-- The accumulator is closed without a result, and no result stays for an evaluation (R122, R128; log 52). -/
def MarkEntry.shut (e : MarkEntry) : MarkEntry := { e with acc := none, results := [] }

/-! ## Tolerance watch (R127) -/

/-- The detail of cause 17 of an entry. -/
def toleranceDetail (i : Fin 4) (n : Nat) : Nat := i.val * 8 + n

/-- The tolerance watch of entry `n` stepped with error `e`. -/
def State.stepTolerance (i : Fin 4) (c : CamCfg) (n : Nat) (e : Int) (s : State) : State :=
  let entry := (s.loop i).entry n
  let beyond := decide (entry.tolerance < e.natAbs)
  let isTrue := s.causeTrue 17 (toleranceDetail i n)
  let count := if beyond == isTrue then 0 else entry.tolCount + 1
  if count < c.toleranceCount then s.onLoop i fun l => l.onEntry n fun x => { x with tolCount := count }
  else (s.onLoop i fun l => l.onEntry n fun x => { x with tolCount := 0 }).report 17 (toleranceDetail i n) (!isTrue)

/-- A loop enters OFF or SEEKING: tolerance counts 0, and cause 17 false for every entry of the camera (R127). -/
def State.clearTolerance (i : Fin 4) (s : State) : State :=
  (s.onLoop i fun l => l.onEntries fun x => { x with tolCount := 0 }).reportAllFalse 17
    fun d => d / 8 == i.val

/-! ## Corrections (R125, R126) -/

/-- The correction of a found entry with error `e`. -/
def MarkEntry.correction (e : Int) (x : MarkEntry) : Int :=
  if e.natAbs ≤ x.deadband then 0 else clampTo x.maxStep (-(Int.tdiv (e * x.gain) 16))

/-- A Correction frame joins the send list, or is discarded when the list is full, and the list is offered (R126). -/
def State.sendCorrection (station axis : Nat) (e : Int) (s : State) : State :=
  (s.onMu fun m =>
    if m.sendList.length < 8 then
      { m with sendList := m.sendList ++ [wholeFrame .correction station (correctionPayload axis e)] }
    else m).muPump

/-- An issued correction goes to the entry's target (R125). -/
def State.issueCorrection (x : MarkEntry) (e : Int) (s : State) : State :=
  if x.station = s.ownStation then s.takeCorrection x.axis e else s.sendCorrection x.station x.axis e

/-! ## Evaluation (R122 to R124) -/

/-- The result of a revolution an entry keeps. -/
def MarkEntry.result (rev : Nat) (e : MarkEntry) : Option WinResult := e.results.find? fun r => r.rev == rev

/-- The register error of an entry found at `pos` with the reference at `ref` (R124). -/
def registerError (pos ref : Nat) (nominal : Int) : Int := signed 32 (signed 32 ((pos : Int) - ref) - nominal)

/-- A mark missing in a revolution with the reference found (R124). -/
def State.markMissing (i : Fin 4) (c : CamCfg) (n : Nat) (s : State) : State :=
  let x := (s.loop i).entry n
  let m := min (x.missing + 1) c.missingLimit
  if m = c.missingLimit ∧ !x.hold then
    (s.onLoop i fun l => l.onEntry n fun y => { y with missing := m, hold := true }).loopEvent i (s.loop i).state
      .entryHeld (some n)
  else s.onLoop i fun l => l.onEntry n fun y => { y with missing := m }

/-- A mark found in a revolution with the reference at `ref` (R124, R125). -/
def State.markFound (i : Fin 4) (c : CamCfg) (n pos ref : Nat) (s : State) : State :=
  let x := (s.loop i).entry n
  let e := registerError pos ref x.nominal
  let s := (s.onLoop i fun l => l.onEntry n fun y => { y with missing := 0 }).stepTolerance i c n e
  let corr := x.correction e
  if corr ≠ 0 ∧ (s.loop i).state = .active ∧ !x.hold then s.issueCorrection x corr else s

/-- One mark entry judged (R124): an entry without a result in the revolution is not judged (R122). -/
def State.judge (i : Fin 4) (c : CamCfg) (rev ref : Nat) (s : State) (n : Nat) : State :=
  let x := (s.loop i).entry n
  match (if x.enabled then x.result rev else none) with
  | none => s
  | some r =>
    match r.pos with
    | none => s.markMissing i c n
    | some pos => s.markFound i c n pos ref

/-- The evaluation of a loop in ACTIVE, PAUSED or HOLD (R123, R124, R130). -/
def State.evaluateFull (i : Fin 4) (c : CamCfg) (rev : Nat) (ref : Option Nat) (s : State) : State :=
  match ref with
  | none =>
    let st := (s.loop i).state
    let m := min ((s.loop i).missing + 1) c.missingLimit
    let s := s.onLoop i fun l => { l with missing := m }
    if m = c.missingLimit ∧ st ≠ .hold then
      (s.onLoop i fun l => { l with state := .hold }).loopEvent i st .referenceMissing none
    else s
  | some pos =>
    [1, 2, 3, 4, 5, 6, 7].foldl (State.judge i c rev pos) (s.onLoop i fun l => { l with missing := 0 })

/-- The evaluation of a loop in SEEKING (R128). -/
def State.evaluateSeek (i : Fin 4) (c : CamCfg) (ref : Option Nat) (s : State) : State :=
  match ref with
  | none => s.onLoop i fun l => { l with seek := 0 }
  | some _ =>
    let n := min ((s.loop i).seek + 1) 2
    let s := s.onLoop i fun l => { l with seek := n }
    if n = 2 then
      (s.onLoop i fun l => { l with state := if c.minSpeed ≤ s.su.next.speed then .active else .paused }).loopEvent i
        .seeking .seekComplete none
    else s

/-- The evaluation of a revolution, when the reference's accumulator was opened for it (R122). -/
def State.evaluate (i : Fin 4) (c : CamCfg) (rev : Nat) (s : State) : State :=
  match ((s.loop i).entry 0).result rev with
  | none => s
  | some r =>
    match (s.loop i).state with
    | .off => s
    | .seeking => s.evaluateSeek i c r.pos
    | .active | .paused | .hold => s.evaluateFull i c rev r.pos

/-- The greatest end of the enabled windows: that of the closing window (R122). -/
def Loop.closingEnd (l : Loop) : Nat := ((l.entries.filter (·.enabled)).map MarkEntry.windowEnd).foldl max 0

/-- The revolution whose closing window closes at a tick start, `before` being the tick before the last one. -/
def Loop.closes (before : Option Cov) (l : Loop) : Option Nat :=
  (l.entries.find? fun e => e.enabled && e.windowEnd == l.closingEnd).bind fun e => before.bind fun c => e.endIn c

/-- The results of an evaluated revolution are no longer kept. -/
def MarkEntry.forget (rev : Nat) (e : MarkEntry) : MarkEntry := { e with results := e.results.filter fun r => r.rev != rev }

/-- A loop moves between ACTIVE and PAUSED with the speed of the tick (R129). -/
def State.loopSpeed (i : Fin 4) (c : CamCfg) (s : State) : State :=
  let slow := decide (s.su.next.speed < c.minSpeed)
  match (s.loop i).state with
  | .active => if slow then (s.onLoop i fun l => { l with state := .paused }).loopEvent i .active .speed none else s
  | .paused => if slow then s else (s.onLoop i fun l => { l with state := .active }).loopEvent i .paused .speed none
  | .off | .seeking | .hold => s

/-- The accumulators and the evaluation of one camera's loop at a tick start (R119, R122). -/
def State.loopTick (now : Cov) (i : Fin 4) (s : State) : State :=
  match s.camCfg i with
  | none => s
  | some c =>
    if (s.loop i).state = .off then s
    else
      let s := s.onLoop i fun l => l.onEntries (MarkEntry.tick c.minWeight s.mu.cov2 now)
      match (s.loop i).closes s.mu.cov2 with
      | some rev => (s.evaluate i c rev).onLoop i fun l => l.onEntries (MarkEntry.forget rev)
      | none => s

/-- The comparison of one camera's loop with the speed of the tick (R129). -/
def State.loopCompare (i : Fin 4) (s : State) : State :=
  match s.camCfg i with
  | none => s
  | some c => s.loopSpeed i c

/-- The angles the tick in progress covers, once its arithmetic is done (R100, R119). -/
def Su.covers (u : Su) : Cov := { angle := u.line.angle, speed := u.next.speed, rev := u.line.rev }

/-- The Mark Unit's part of a tick start: the evaluations of all cameras, then the comparisons with the speed (R122, R129).
Cameras 0 to 3 are taken in turn, which orders the send list: DESIGN CHOICE (log 70). -/
def State.markTick (s : State) : State :=
  ((s.eachAxis (State.loopTick s.su.covers)).eachAxis State.loopCompare).onMu fun m =>
    { m with cov2 := m.cov1, cov1 := some s.su.covers }

/-! ## Loop states (R128, R131, R133) -/

/-- The loop on entering SEEKING: its counts and those of its entries 0, every HOLD flag clear (R128). -/
def Loop.seekAfresh (l : Loop) : Loop :=
  Loop.onEntries (fun e => { e with missing := 0, hold := false }) { l with state := .seeking, missing := 0, seek := 0 }

/-- A loop enters SEEKING (R128). Cause 17 is reported false before the event is posted: DESIGN CHOICE (log 71). -/
def State.enterSeeking (i : Fin 4) (reason : LoopReason) (s : State) : State :=
  let prev := (s.loop i).state
  ((s.onLoop i Loop.seekAfresh).clearTolerance i).loopEvent i prev reason none

/-- The loop on entering OFF: its accumulators closed without results (R128). -/
def Loop.turnOff (l : Loop) : Loop := Loop.onEntries MarkEntry.shut { l with state := .off }

/-- A loop not in OFF enters OFF (R128). Cause 17 is reported false before the event is posted: DESIGN CHOICE (log 71). -/
def State.enterOff (i : Fin 4) (reason : LoopReason) (s : State) : State :=
  let prev := (s.loop i).state
  if prev = .off then s
  else
    ((s.onLoop i Loop.turnOff).clearTolerance i).loopEvent i prev reason none

/-- The line state is replaced: accumulators close without results, and seek counts start afresh (R122). -/
def Mu.replaceLine (m : Mu) : Mu :=
  { m with
    loops := m.loops.map fun l =>
      Loop.onEntries MarkEntry.shut { l with seek := if l.state = .seeking then 0 else l.seek }
    cov1 := none, cov2 := none }

/-- The loop and table of a camera after a configuration: in OFF, the table of a present camera kept with its running counts
0 and its HOLD flags clear, that of an absent one emptied (R133). -/
def Loop.configured (present : Bool) (l : Loop) : Loop :=
  if present then
    Loop.onEntries (fun e => { e.shut with missing := 0, tolCount := 0, hold := false }) { l with state := .off }
  else .reset

/-- A configuration takes effect for one camera's loop and table, with an event for a loop that leaves another state (R132,
R133; log 71). -/
def State.configureLoop (i : Fin 4) (s : State) : State :=
  let prev := (s.loop i).state
  let s := (s.onLoop i (Loop.configured (s.camCfg i).isSome)).reportAllFalse 17 fun d => d / 8 == i.val
  if prev = .off then s else s.loopEvent i prev .configuration none

end Sys2Proof.Machine
end

