-- ==== Sys2Proof/Machine/CameraOps.lean ====
section
/-! DEFINITION. The Camera Unit's operations: trigger placement, the web-break watch, the strip filler, strip space and the
map cache (R99 to R115). -/

namespace Sys2Proof.Machine

/-- The state of a camera. -/
def State.cam (s : State) (i : Fin 4) : Cam := s.cu.cams.get i

/-- Change the state of a camera. -/
def State.onCam (i : Fin 4) (f : Cam → Cam) (s : State) : State :=
  s.onCu fun u => { u with cams := u.cams.modify i f }

/-! ## Triggers (R99 to R102) -/

/-- The first due position at or after the unwrapped angle `x`, unwrapped, with its line index; an angle of 2^32 or more
lies in the revolution after the one in progress (R99, R100). -/
def nextDue (c : CamCfg) (x : Nat) : Nat × Nat :=
  let k := ceilDiv (x - c.phase) c.pitch
  let pos := c.phase + k * c.pitch
  if x < two32 ∧ pos < two32 then (pos, k)
  else
    let j := ceilDiv (x - two32 - c.phase) c.pitch
    (two32 + (c.phase + j * c.pitch), j)

/-- How long after the tick start the trigger at unwrapped angle `pos` is due (R100). -/
def Sweep.delay (w : Sweep) (pos : Nat) : Nat := ceilDiv ((pos - w.angle) * w.length) w.speed

/-- The revolution in which an unwrapped angle of the tick lies. -/
def Sweep.revOf (w : Sweep) (pos : Nat) : Nat := if pos < two32 then w.rev else (w.rev + 1) % 65536

/-- The sweep of the tick in progress, for the cameras (R100); with speed 0 it holds no due position. The sweep of the tick
before is kept beside it: a trigger due exactly at the end of that tick may still be to come (log 65). -/
def State.sweepTick (s : State) : State :=
  let w : Sweep :=
    { start := s.su.tickStart, length := s.su.tickLens.getD (s.su.tickIdx - 1) 125000, angle := s.su.line.angle
      speed := s.su.next.speed, rev := s.su.line.rev }
  s.onCu fun u =>
    { u with
      sweep := some w, lastSweep := u.sweep
      cams := u.cams.map fun c => { c with cursor := w.angle, lastCursor := c.cursor } }

/-- The next trigger of a sweep from a cursor on, with its line index, while one lies in the tick (R100). -/
def Sweep.next (c : CamCfg) (cursor : Nat) (w : Sweep) : Option (Nat × Nat) :=
  let due := nextDue c cursor
  if due.1 < w.angle + w.speed then some due else none

/-- A trigger due is skipped (R101). -/
def State.skipTrigger (i : Fin 4) (s : State) : State :=
  (s.onCu fun u => { u with skippedLines := bump u.skippedLines }).onCam i fun c => { c with owed := true }

/-- A trigger due is sent (R101). -/
def State.sendTrigger (i : Fin 4) (tag : LineTag) (s : State) : State :=
  s.onCam i fun c =>
    { c with
      trigs := c.trigs ++ [{ number := c.trigNo, tag := { tag with skippedBefore := c.owed }, sent := s.now }]
      owed := false, lastSent := some s.now, trigNo := (c.trigNo + 1) % 256 }

/-- The trigger at an unwrapped angle of a sweep is offered at its due time: it is sent, or skipped within 2,000 ns of the last
one sent (R100, R101). -/
def State.offerTrigger (i : Fin 4) (w : Sweep) (due : Nat × Nat) (s : State) : State :=
  let s := s.atTime (w.start + w.delay due.1).toNat
  if (s.cam i).lastSent.any fun l => decide (s.now < l + 2000) then s.skipTrigger i
  else s.sendTrigger i
    { rev := w.revOf due.1, index := due.2, angle := due.1 % two32, skippedBefore := false, isPartial := false }

/-- The next trigger of a camera is due: one left of the tick before, else the next of the tick in progress (R100, R101). -/
def State.triggerDue (i : Fin 4) (s : State) : State :=
  match s.camCfg i with
  | none => s
  | some c =>
    let left := s.cu.lastSweep.bind fun w => (w.next c (s.cam i).lastCursor).map fun due => (w, due)
    match left with
    | some (w, due) => (s.onCam i fun x => { x with lastCursor := due.1 + 1 }).offerTrigger i w due
    | none =>
      match s.cu.sweep.bind fun w => (w.next c (s.cam i).cursor).map fun due => (w, due) with
      | some (w, due) => (s.onCam i fun x => { x with cursor := due.1 + 1 }).offerTrigger i w due
      | none => s

/-- The line state is replaced: the triggers not yet taken are passed over, and the next trigger of
every present camera carries the skipped-before flag (R63, R102). -/
def Cu.replaceLine (cams : Quad (Option CamCfg)) (u : Cu) : Cu :=
  let owe (p : Option CamCfg) (c : Cam) : Cam := { c with owed := c.owed || p.isSome }
  { u with
    sweep := none, lastSweep := none
    cams := ⟨owe cams.q0 u.cams.q0, owe cams.q1 u.cams.q1, owe cams.q2 u.cams.q2, owe cams.q3 u.cams.q3⟩ }

/-! ## Rearm and web-break watch (R106, R107) -/

/-- The watches of a present camera are rearmed (R107), cause 16 before cause 18: DESIGN CHOICE (log 107). -/
def State.rearmCamera (i : Fin 4) (s : State) : State :=
  if (s.camCfg i).isSome then
    ((s.reportFalse 16 i.val).reportFalse 18 i.val).onCam i fun c => { c with webCount := 0, missing := 0 }
  else s

/-- At rest under a stop the watches are rearmed (R107). The cameras are taken in turn, 0 to 3, which orders their CLEAR
frames and notices: DESIGN CHOICE (log 76). -/
def State.rearmTick (s : State) : State :=
  if s.su.next.speed = 0 ∧ s.su.line.stop ≠ .none then s.eachAxis State.rearmCamera else s

/-- The web is present in a line (R106). -/
def webPresent (c : CamCfg) (pixels : List Byte) : Bool :=
  let lane := (pixels.drop c.w0).take (c.w1 - c.w0 + 1)
  decide (c.webThreshold ≤ (lane.map fun x => x.toNat).sum / (c.w1 - c.w0 + 1))

/-- The web-break watch judges a good line (R106). -/
def State.judgeWeb (i : Fin 4) (c : CamCfg) (pixels : List Byte) (s : State) : State :=
  if c.breakLength = 0 then s
  else
    let broken := s.causeTrue 16 i.val
    let count := if webPresent c pixels == broken then (s.cam i).webCount + 1 else 0
    if count < c.breakLength then s.onCam i fun x => { x with webCount := count }
    else (s.onCam i fun x => { x with webCount := 0 }).report 16 i.val (!broken)

/-! ## Strip buffers (R108 to R111) -/

def Half.other : Half → Half
  | .even => .odd
  | .odd => .even

/-- The strip buffer of a half. -/
def Cam.buf (h : Half) (c : Cam) : StripBuf :=
  match h with
  | .even => c.even
  | .odd => c.odd

/-- Change the strip buffer of a half. -/
def Cam.onBuf (h : Half) (f : StripBuf → StripBuf) (c : Cam) : Cam :=
  match h with
  | .even => { c with even := f c.even }
  | .odd => { c with odd := f c.odd }

/-- The strip width: x1 − x0 + 1 pixels (R97). -/
def stripWidth (c : CamCfg) : Nat := c.x1 - c.x0 + 1

/-- The bytes of a line record: the stored tag, then pixels x0 to x1 (R109). -/
def lineRecord (c : CamCfg) (tag : LineTag) (pixels : List Byte) : List Byte :=
  tag.stored ++ (pixels.drop c.x0).take (stripWidth c)

/-- A line record at a strip address, cut at a page boundary (R112). -/
def cutPages (addr : Nat) (bytes : List Byte) : List Piece :=
  let room := 8192 - addr % 8192
  let first : Piece := { page := addr / 8192, offset := addr % 8192, bytes := bytes.take room }
  if bytes.length ≤ room then [first]
  else [first, { page := addr / 8192 + 1, offset := 0, bytes := bytes.drop room }]

/-- A strip write or map entry read serving the strip in a half of a camera. -/
def Transfer.servesStrip (i : Fin 4) (h : Half) (t : Transfer) : Bool :=
  t.unit == .camera i && t.strip.any fun u => u.half == h && u.serves

/-- A strip write of a half of a camera is in flight. -/
def State.writesInFlight (i : Fin 4) (h : Half) (s : State) : Bool :=
  s.cmp.dma.any fun t => t.purpose == .stripWrite && t.servesStrip i h

/-- Hand a buffer back with a Strip done event of `lines` lines (R110, R114). -/
def State.stripDone (i : Fin 4) (h : Half) (lines : Nat) (s : State) : State :=
  let b := (s.cam i).buf h
  (s.onCam i fun c => c.onBuf h fun _ => .hostOwned).post
    (.stripDone i h lines b.overrun b.mapErr b.dmaErr b.firstTag b.gap)

/-- The map cache's translation of a page (R113). -/
def Cu.lookup (i : Fin 4) (page : Nat) (u : Cu) : Option Nat :=
  (u.cache.findSome? fun x => x.bind fun t => if t.cam == i && t.page == page then some t.host else none)

/-- A translation read takes the place the replacement pointer names; one of the same tag already held is replaced where it
stands, so that no two carry one tag (R113). That the pointer does not step then is DESIGN CHOICE (log 87). -/
def Cu.insertTranslation (t : Translation) (u : Cu) : Cu :=
  match u.cache.findIdx? fun x => x.any fun y => y.cam == t.cam && y.page == t.page with
  | some k => { u with cache := u.cache.set k (some t) }
  | none => { u with cache := u.cache.set u.pointer (some t), pointer := (u.pointer + 1) % 8 }

/-- The cache is emptied (R113, R115). -/
def Cu.emptyCache (u : Cu) : Cu := { u with cache := Sys2Proof.Machine.emptyCache, pointer := 0, invalidate := false }

/-- Issue what the record at the head of a camera's write queue can issue: a write of each part whose page the cache
holds, and the read of the map entry of the first part whose page it does not (R110, R112). A transfer carries the strip-space
address of its part of the record, which a delivery error enters: DESIGN CHOICE (log 89). -/
def State.pumpStripN (i : Fin 4) (mapBase : Nat) : Nat → State → State
  | 0, s => s
  | n + 1, s =>
    match (s.cam i).queue with
    | [] => s
    | r :: rest =>
      if r.reading then s
      else match r.todo with
        | [] => s
        | p :: ps =>
          let strip := some { half := r.half, addr := p.page * 8192 + p.offset, serves := true }
          match s.cu.lookup i p.page with
          | some host =>
            State.pumpStripN i mapBase n
              ((s.onCam i fun c => { c with queue := { r with todo := ps } :: rest }).issue
                { purpose := .stripWrite, unit := .camera i, addr := host + p.offset, len := p.bytes.length
                  segs := [(host + p.offset, p.bytes)], issued := s.now, strip := strip })
          | none =>
            (s.onCam i fun c => { c with queue := { r with reading := true } :: rest }).issue
              { purpose := .mapEntryRead, unit := .camera i, addr := mapBase + 8 * p.page, len := 8, segs := []
                issued := s.now, strip := strip }

/-- The record at the head of a camera's write queue goes on; while a configuration waits for strip writes nothing is issued
(R115; log 25). -/
def State.pumpStrip (i : Fin 4) (s : State) : State :=
  match s.camCfg i, s.cu.draining with
  | some c, none => s.pumpStripN i c.mapBase 3
  | _, _ => s

/-- A chosen line of a strip in progress is accepted for writing, or not when the write queue is full (R109, R110). -/
def State.acceptLine (i : Fin 4) (c : CamCfg) (tag : LineTag) (pixels : List Byte) (s : State) : State :=
  let x := s.cam i
  let h := x.selector
  if 16 ≤ x.queue.length then
    (s.onCu fun u => { u with droppedLines := bump u.droppedLines }).onCam i fun y =>
      y.onBuf h fun b => { b with overrun := true }
  else
    let b := x.buf h
    let addr := b.addr + b.lines * (8 + stripWidth c)
    let full := decide (c.height ≤ b.lines + 1)
    let s := s.onCam i fun y =>
      { y.onBuf h (fun b => { b with lines := b.lines + 1, complete := full }) with
        queue := y.queue ++ [{ half := h, addr := addr, todo := cutPages addr (lineRecord c tag pixels), reading := false }]
        inProgress := !full, selector := if full then h.other else h }
    if x.queue.isEmpty then s.pumpStrip i else s

/-- A chosen line finds no strip in progress and no buffer: it is dropped, opening a gap or stepping its count (R111). -/
def State.dropLine (i : Fin 4) (tag : LineTag) (s : State) : State :=
  let open? := (s.cam i).gap
  let s := s.onCu fun u => { u with droppedLines := bump u.droppedLines }
  let s := s.onCam i fun y => { y with gap := some (open?.getD 0 + 1) }
  if open?.isNone then s.post (.stripDropped i tag) else s

/-- A strip can start in a buffer: it is part-owned and no strip has started in it (R109; log 23). -/
def StripBuf.startable (b : StripBuf) : Bool := b.partOwned && !b.begun

/-- The buffer in which a strip starts: the selector's, else the other (R109). -/
def Cam.startHalf (c : Cam) : Option Half :=
  if (c.buf c.selector).startable then some c.selector
  else if (c.buf c.selector.other).startable then some c.selector.other
  else none

/-- A strip starts: a pending invalidation is carried out first, the line gives its first tag, and an open gap closes
(R109, R111, R113). -/
def State.startStrip (i : Fin 4) (h : Half) (tag : LineTag) (s : State) : State :=
  let s := s.onCu fun u => if u.invalidate then u.emptyCache else u
  s.onCam i fun c =>
    { c.onBuf h (fun b => { b with begun := true, firstTag := some tag, gap := c.gap }) with
      selector := h, inProgress := true, gap := none }

/-- The strip filler takes a good line (R109 to R111). -/
def State.fillStrip (i : Fin 4) (c : CamCfg) (tag : LineTag) (pixels : List Byte) (s : State) : State :=
  if tag.index % c.decimation ≠ 0 then s
  else if (s.cam i).inProgress then s.acceptLine i c tag pixels
  else match (s.cam i).startHalf with
    | some h => (s.startStrip i h tag).acceptLine i c tag pixels
    | none => s.dropLine i tag

/-! ## Writes and delivery errors (R110, R112, R114) -/

/-- An aborted strip whose issued writes have all completed or failed hands its buffer back (R114 step 3). -/
def State.finishAborted (i : Fin 4) (h : Half) (s : State) : State :=
  let b := (s.cam i).buf h
  if b.partOwned && b.aborted && !s.writesInFlight i h then s.stripDone i h b.written else s

/-- A transfer that serves its strip no more, for the record or the entry it brings alone. -/
def Transfer.release (t : Transfer) : Transfer := { t with strip := t.strip.map fun u => { u with serves := false } }

/-- A map entry read in flight for a strip that is aborted serves that strip no more (R114 step 1; log 57). -/
def Transfer.unread (i : Fin 4) (h : Half) (t : Transfer) : Transfer :=
  if t.purpose == .mapEntryRead && t.servesStrip i h then t.release else t

/-- A strip meets a delivery error and is aborted (R114 steps 1 to 3); a strip already aborted is only looked at again. -/
def State.abortStrip (i : Fin 4) (h : Half) (mapError : Bool) (s : State) : State :=
  let x := s.cam i
  if (x.buf h).aborted then s.finishAborted i h
  else
    let s := (s.onCmp fun c => { c with dma := c.dma.map (Transfer.unread i h) }).onCam i fun c =>
      { c.onBuf h (fun b => { b with aborted := true, mapErr := b.mapErr || mapError, dmaErr := b.dmaErr || !mapError }) with
        queue := c.queue.filter fun r => r.half != h
        inProgress := c.inProgress && c.selector != h
        selector := if c.inProgress && c.selector == h then h.other else c.selector }
    (s.finishAborted i h).pumpStrip i

/-- A translation read goes into the cache (R112, R113). -/
def State.cacheTranslation (i : Fin 4) (addr host : Nat) (s : State) : State :=
  s.onCu fun u => u.insertTranslation { cam := i, page := addr / 8192, host := host }

/-- The record at the head of a write queue that waits for the map entry at `addr` has it (R112). -/
def Cam.entryCame (mapBase addr : Nat) (x : Cam) : Cam :=
  { x with queue := match x.queue with
    | [] => []
    | r :: rest =>
      (if r.reading && (r.todo.head?.map fun p => mapBase + 8 * p.page) == some addr then
        { r with reading := false } else r) :: rest }

/-- An invalid map entry is counted (R114 step 4). -/
def State.countMapError (s : State) : State := s.onCu fun u => { u with mapErrors := bump u.mapErrors }

/-- A map entry read came back with its 8 bytes (R112 to R114). One whose strip was aborted meanwhile gives the cache its
translation, or is counted and entered as invalid, and does no more (log 57). A read that a configuration let go of does
nothing (R115; log 25). One issued before the cache was emptied serves its record all the same: DESIGN CHOICE (log 88). -/
def State.mapEntryRead (i : Fin 4) (t : Transfer) (bytes : List Byte) (s : State) : State :=
  match t.strip, s.camCfg i with
  | some u, some c =>
    match mapEntryPage bytes with
    | some host =>
      let s := s.cacheTranslation i u.addr host
      if u.serves then (s.onCam i (Cam.entryCame c.mapBase t.addr)).pumpStrip i else s
    | none =>
      let s := s.countMapError
      (if u.serves then s.abortStrip i u.half true else s).enterDmaError t .invalidMapEntry
  | _, _ => s

/-! ## Configuration (R115) -/

/-- A transfer of the Camera Unit in flight is let go of: a strip write serves its strip no more, and a map entry read is
for nothing (R115; log 25). -/
def Transfer.letGo (t : Transfer) : Transfer :=
  if t.purpose == .stripWrite then t.release
  else if t.purpose == .mapEntryRead then { t with strip := none } else t

/-- A strip write of any camera is in flight. -/
def Cmp.writesStrips (c : Cmp) : Bool := c.dma.any fun t => t.purpose == .stripWrite

/-- Every camera's state is set afresh, the counters kept (R115). -/
def State.freshCameras (s : State) : State :=
  let s := s.onCu fun u => { u.emptyCache with cams := Quad.rep .reset, sweep := none, lastSweep := none, draining := none }
  (s.reportAllFalse 16 fun _ => true).reportAllFalse 18 fun _ => true

/-! ## Completions (R110, R114) -/

/-- A strip write completed: the record leaves the queue with its last write, and the last record of a complete strip hands
its buffer back (R110). One that a configuration let go of does nothing more (R115). -/
def State.stripWritten (i : Fin 4) (t : Transfer) (s : State) : State :=
  match t.strip with
  | none => s
  | some u =>
    if !u.serves then s
    else
      let x := s.cam i
      if (x.buf u.half).aborted then s.finishAborted i u.half
      else match x.queue with
        | [] => s
        | r :: rest =>
          if !r.todo.isEmpty || s.writesInFlight i r.half then s
          else
            let s := s.onCam i fun c => { c.onBuf r.half (fun b => { b with written := b.written + 1 }) with queue := rest }
            let b := (s.cam i).buf r.half
            let s := if b.complete && !rest.any (fun q => q.half == r.half) then s.stripDone i r.half b.lines else s
            s.pumpStrip i

/-- A map entry read or strip write failed (R114); one that serves no strip is no delivery error and is entered in the DMA
error record only (R114, R115). -/
def State.stripTransferFailed (i : Fin 4) (t : Transfer) (kind : DmaKind) (s : State) : State :=
  match t.strip with
  | some u => if u.serves then (s.abortStrip i u.half false).enterDmaError t kind else s.enterDmaError t kind
  | none => s.enterDmaError t kind

/-! ## Host link loss (R115) -/

/-- A camera at a loss of the host link: its write queue discarded, its buffers host-owned without an event, its strip in
progress ended, and a gap opened that posts no event (R115; log 49). DESIGN CHOICE (log 66): the selector stays at the
buffer it names. -/
def Cam.linkLost (c : Cam) : Cam :=
  { c with even := .hostOwned, odd := .hostOwned, queue := [], inProgress := false, gap := some (c.gap.getD 0) }

end Sys2Proof.Machine
end

