-- ==== Sys2Proof/Machine/ScreenOps.lean ====
section
/-! DEFINITION. The Screen Unit's operations: the page map and the tile store, fills and groups, view slots and viewer sets
(R161 to R183). -/

namespace Sys2Proof.Machine

/-! ## The tile store (R164) -/

/-- The entry of a tile id. -/
def Scu.tile (id : TileId) (c : Scu) : Option Tile := c.tiles.find? fun t => t.id == id

/-- Change the entry of a tile id. -/
def Scu.onTile (id : TileId) (f : Tile → Tile) (c : Scu) : Scu :=
  { c with tiles := c.tiles.map fun t => if t.id == id then f t else t }

/-- The fill slot of an entry. -/
def Scu.fillOf (id : TileId) (c : Scu) : Option FillSlot := c.fills.find? fun f => f.id == id

/-- The fill slot of an entry is freed. -/
def Scu.freeFill (id : TileId) (c : Scu) : Scu := { c with fills := c.fills.filter fun f => f.id != id }

/-- All 16 fragment-present marks are set (R169). -/
def FillSlot.complete (f : FillSlot) : Bool := f.parts.all Option.isSome

/-- The entry has a complete slot. -/
def Scu.filled (id : TileId) (c : Scu) : Bool := (c.fillOf id).any FillSlot.complete

/-- The number of positions whose content names the id. -/
def Scu.namings (id : TileId) (c : Scu) : Nat := (c.pageMap.filter fun x => x == .tile id).length

/-! ## Commit and groups (R172, R173) -/

/-- The entry with a slot's pixels committed (R172). An awaited version that is not newer than the one committed is dropped, and
the entry is VALID: DESIGN CHOICE where that version is another one (log 102). -/
def Tile.commit (now : Nat) (f : FillSlot) (t : Tile) : Tile :=
  let behind := t.awaited.any fun v => newer 16 v f.version
  { t with
    pixels := some (f.parts.flatMap fun x => x.getD []), held := some f.version, mark := none, requests := 0
    progress := now, state := if behind then .stale else .valid, awaited := if behind then t.awaited else none }

/-- The complete slot of an entry is committed and freed (R172). -/
def Scu.commit (now : Nat) (c : Scu) (id : TileId) : Scu :=
  match c.fillOf id with
  | some f => if f.complete then (c.onTile id (Tile.commit now f)).freeFill id else c
  | none => c

/-- The entry is a member of a group (R173). -/
def Tile.inGroup (publisher group : Nat) (t : Tile) : Bool :=
  t.id.publisher == publisher && (t.mark.map (·.group)) == some group

/-- The ids of a group's members. -/
def Scu.members (publisher group : Nat) (c : Scu) : List TileId :=
  (c.tiles.filter fun t => t.inGroup publisher group).map fun t => t.id

/-- The test of a group: when every member has a complete slot, all are committed together (R173). -/
def Scu.testGroup (now publisher group : Nat) (c : Scu) : Scu :=
  let ids := c.members publisher group
  if ids.all fun id => c.filled id then ids.foldl (Scu.commit now) c else c

/-- The group deadline passes: the complete slots are committed together and every member's mark is cleared (R173). -/
def Scu.endGroup (now publisher group : Nat) (c : Scu) : Scu :=
  let ids := c.members publisher group
  let c := ids.foldl (Scu.commit now) c
  { c with tiles := c.tiles.map fun t => if ids.contains t.id then { t with mark := none } else t }

/-- The group mark of an entry (R164). -/
def Scu.markOf (id : TileId) (c : Scu) : Option GroupMark := (c.tile id).bind (·.mark)

/-- A complete slot is committed, or waits for its group (R172). -/
def Scu.slotComplete (now : Nat) (id : TileId) (c : Scu) : Scu :=
  match c.markOf id with
  | none => c.commit now id
  | some m => c.testGroup now id.publisher m.group

/-- What a change of an entry's group mark since `old` leads to: a complete slot of the entry is looked at under the new
mark, and the group left is tested without the entry: DEDUCED (R172, R173; log 50). -/
def Scu.remark (now : Nat) (old : Scu) (id : TileId) (c : Scu) : Scu :=
  if c.markOf id = old.markOf id then c
  else
    let c := if c.filled id then c.slotComplete now id else c
    match old.markOf id with
    | some m => c.testGroup now id.publisher m.group
    | none => c

/-! ## Invalidates and fragments (R170, R171, R174) -/

/-- A FAILED entry is restarted (R174). -/
def Tile.restart (now : Nat) (t : Tile) : Tile :=
  { t with state := if t.pixels.isSome then .stale else .wanted, requests := 0, progress := now }

/-- An awaited version with the group mark it brings: of a group count above 1 a mark with its deadline, else none
(R170). -/
def Tile.await (now group count version : Nat) (t : Tile) : Tile :=
  { t with
    awaited := some version
    mark := if 1 < count then some { group := group, deadline := now + 40000000 } else none }

/-- A version newer than the one held, or than none. -/
def newerThan (version : Nat) (x : Option Nat) : Bool :=
  match x with
  | some v => newer 16 version v
  | none => true

/-- One listed tile of an invalidate judged against its entry (R170). -/
def Tile.invalidate (now group count version : Nat) (t : Tile) : Tile :=
  let set (u : Tile) : Tile := { u.await now group count version with progress := now }
  match t.state with
  | .valid => if newerThan version t.held then set { t with state := TileState.stale } else t
  | .stale | .wanted => if newerThan version t.awaited then set t else t
  | .failed => if newerThan version t.held then set (t.restart now) else t

/-- The entries that an invalidate lists are judged in list order (R170). -/
def Scu.judged (now publisher group count : Nat) (tiles : List (Nat × Nat × Nat)) (c : Scu) : Scu :=
  tiles.foldl (fun c x =>
    c.onTile { publisher := publisher, page := x.1, index := x.2.1 } (Tile.invalidate now group count x.2.2)) c

/-- An invalidate taken: every entry listed is judged, and then the groups that entries joined or left are tested (R170,
R173; log 50). -/
def Scu.invalidate (now publisher group count : Nat) (tiles : List (Nat × Nat × Nat)) (c : Scu) : Scu :=
  tiles.foldl (fun d x => Scu.remark now c { publisher := publisher, page := x.1, index := x.2.1 } d)
    (c.judged now publisher group count tiles)

/-- An acceptable fragment brings its entry to a waiting state (R171). -/
def Tile.expect (now : Nat) (f : TileFrag) (t : Tile) : Tile :=
  let t := match t.state with
    | .valid => { t with state := .stale }
    | .failed => t.restart now
    | .stale | .wanted => t
  if newerThan f.version t.awaited then t.await now f.group f.count f.version else t

/-- An empty slot for a fragment's version and group number. -/
def TileFrag.slot (f : TileFrag) : FillSlot :=
  { id := f.id, version := f.version, group := f.group, parts := List.replicate 16 none }

/-- Write a fragment's pixels into a slot at its rows. -/
def FillSlot.write (f : TileFrag) (x : FillSlot) : FillSlot := { x with parts := x.parts.set f.index (some f.pixels) }

/-- A fragment is written into its slot, and a complete slot is looked at (R171, R172). -/
def Scu.placeIn (now : Nat) (f : TileFrag) (slot : FillSlot) (c : Scu) : Scu :=
  let slot := slot.write f
  let c : Scu := { c with fills := c.fills.map fun (x : FillSlot) => if x.id == f.id then slot else x }
  let c := c.onTile f.id fun t => { t with progress := now }
  if slot.complete then c.slotComplete now f.id else c

/-- An acceptable fragment is placed (R171). One whose version lies 2^15 from that of its slot is neither newer nor older, and is
discarded: DESIGN CHOICE (log 101). -/
def Scu.placeFragment (now : Nat) (f : TileFrag) (c : Scu) : Scu :=
  match c.fillOf f.id with
  | none =>
    if c.fills.length < 8 then Scu.placeIn now f f.slot { c with fills := c.fills ++ [f.slot] }
    else { c with fillIgnored := bump c.fillIgnored }
  | some x =>
    if newer 16 f.version x.version || (f.version == x.version && f.group != x.group) then c.placeIn now f f.slot
    else if f.version == x.version then c.placeIn now f x
    else c

/-- A Tile data fragment taken; the groups that its entry joined or left are tested (R171, R173; log 50). -/
def Scu.takeFragment (now : Nat) (c : Scu) (f : TileFrag) : Scu :=
  match c.tile f.id with
  | none => c
  | some t =>
    if newerThan f.version t.held then
      Scu.remark now c f.id ((c.onTile f.id (Tile.expect now f)).placeFragment now f)
    else c

/-- The 16 fragments of a tile of 2,048 bytes (R168). -/
def fragmentsOf (id : TileId) (version group count : Nat) (bytes : List Byte) : List TileFrag :=
  (List.range 16).map fun i =>
    { id := id, version := version, group := group, count := count, index := i
      pixels := padTo 128 ((bytes.drop (128 * i)).take 128) }

/-! ## Requests and allocation (R165, R175) -/

/-- The tile is asked of its publisher: by a Tile request, or by a Tile wanted event to the own host (R165). -/
def State.requestTile (id : TileId) (held : Option Nat) (s : State) : State :=
  if id.publisher = s.ownStation then s.post (.tileWanted s.ownStation id.page id.index held)
  else s.offerScreen (wholeFrame .tileControl id.publisher (tileCtlPayload (.request held id.page id.index)))

/-- A new entry (R165). -/
def Tile.fresh (id : TileId) (now refs : Nat) : Tile :=
  { id := id, state := .wanted, held := none, awaited := none, pixels := none, refs := refs, requests := 0
    progress := now, mark := none }

/-- An entry is evicted: its slot is freed, and the group it waited on is tested again without it (R165, R173). -/
def Scu.evict (now : Nat) (t : Tile) (c : Scu) : Scu :=
  let c := Scu.freeFill t.id { c with tiles := c.tiles.filter fun (x : Tile) => x.id != t.id }
  match t.mark with
  | some m => c.testGroup now t.id.publisher m.group
  | none => c

/-- Room is made for a new entry, if it can be (R165). -/
def Scu.makeRoom (now : Nat) (c : Scu) : Option Scu :=
  if c.tiles.length < 512 then some c
  else (c.tiles.find? fun t => t.refs == 0).map fun t => c.evict now t

/-- An entry is allocated for an id that has none (R165). -/
def State.allocate (id : TileId) (s : State) : State :=
  match s.scu.makeRoom s.now with
  | none => s.onScu fun c => { c with storeFull := bump c.storeFull }
  | some c =>
    let c := { c with tiles := c.tiles ++ [Tile.fresh id s.now (c.namings id)] }
    State.requestTile id none { s with scu := c }

/-- An entry named anew: its reference count rises, and it moves to the most recent end of the store order; a count that
was 0 makes the moment its last-progress time (R163, R164, R174). -/
def Scu.reference (now : Nat) (id : TileId) (c : Scu) : Scu :=
  match c.tile id with
  | none => c
  | some t =>
    { c with
      tiles := (c.tiles.filter fun x => x.id != id) ++
        [{ t with refs := t.refs + 1, progress := if t.refs = 0 then now else t.progress }] }

/-- The old content of a position lets go of its entry (R163). -/
def Scu.release (x : Content) (c : Scu) : Scu :=
  match x with
  | .tile id => c.onTile id fun t => { t with refs := t.refs - 1 }
  | .blank | .inset _ => c

/-- A position takes a content. -/
def Scu.put (pos : Nat) (x : Content) (c : Scu) : Scu := { c with pageMap := c.pageMap.set pos x }

/-- One assignment applied (R163). -/
def State.assign (s : State) (a : Nat × Content) : State :=
  let s := s.onScu fun c => (c.release (c.pageMap.getD a.1 .blank)).put a.1 a.2
  match a.2 with
  | .tile id => if (s.scu.tile id).isSome then s.onScu fun c => c.reference s.now id else s.allocate id
  | .blank | .inset _ => s

/-! ## Publishing (R166 to R168) -/

/-- The Tile data frames of a tile (R168). -/
def tileFrames (t : PubTile) (group count : Nat) (bytes : List Byte) : List LaneFrame :=
  (List.range 16).map fun i =>
    { kind := .tileData, dest := 0, fragIndex := i, fragCount := 16
      payload := tileDataPayload t.page group t.index t.version count ((bytes.drop (128 * i)).take 128), beatStart := 0 }

/-! ## Viewer sets (R178, R180) -/

/-- The effective decimation of a request: k, raised to the smallest value for which floor(width / k) is at most 256
(R180; log 51). -/
def effectiveDecimation (width k : Nat) : Nat := max (max k 1) (width / 257 + 1)

/-- The entry has the key. -/
def Viewer.hasKey (station slot : Nat) (v : Viewer) : Bool := v.station == station && v.slot == slot

/-- The entries of a key are removed from the viewer set of camera `i`. -/
def Scu.dropViewer (station slot : Nat) (i : Fin 4) (c : Scu) : Scu :=
  { c with viewers := c.viewers.modify i fun vs => vs.filter fun v => !v.hasKey station slot }

/-- The entries of a key are removed from the viewer sets of the cameras other than `i`. -/
def Scu.dropElsewhere (station slot : Nat) (i : Fin 4) (c : Scu) : Scu :=
  let keep := c.viewers.get i
  let vs := c.viewers.map fun vs => vs.filter fun v => !v.hasKey station slot
  { c with viewers := vs.set i keep }

/-- What a view request does to the viewer sets: the new Screen Unit state, or the reason of a view refusal (R180). -/
def Scu.viewRequest (cams : Fin 4 → Option CamCfg) (station slot cam k width : Nat) (c : Scu) : Scu × Option Nat :=
  match (fin4? cam).bind fun i => (cams i).map fun cfg => (i, cfg) with
  | none => (c, some 1)
  | some (i, cfg) =>
    let c := c.dropElsewhere station slot i
    let e := effectiveDecimation cfg.width k
    let vs := c.viewers.get i
    if vs.any fun v => v.hasKey station slot then
      let new := vs.map fun v => if v.hasKey station slot then { v with decimation := e, width := width } else v
      ({ c with viewers := c.viewers.set i new }, none)
    else if 8 ≤ vs.length then (c, some 2)
    else
      let new : Viewer := { station := station, slot := slot, decimation := e, width := width, last := none }
      ({ c with viewers := c.viewers.set i (vs ++ [new]) }, none)

/-- A station leaves every viewer set (R42). -/
def Scu.dropStation (station : Nat) (c : Scu) : Scu :=
  { c with viewers := c.viewers.map fun vs => vs.filter fun v => v.station != station }

/-! ## View slots (R178, R182) -/

/-- An inset image of background. -/
def blankImage (w h : Nat) : List (List Nat) := List.replicate (32 * h) (List.replicate (32 * w) 0)

/-- Write grey values into a row from a column on; values past its end are dropped (R182). -/
def writeRow (column : Nat) (pixels : List Byte) (row : List Nat) : List Nat :=
  let new := pixels.map fun g => 257 * g.toNat
  (row.take column ++ new).take row.length ++ row.drop (column + new.length)

/-- A view line opens a new row unless its tag is that of the current row (R182). -/
def ViewSlot.openRow (tag : LineTag) (v : ViewSlot) : ViewSlot :=
  if (v.row.map (·.2)) = some tag then v
  else
    let r := match v.row with
      | some (n, _) => (n + 1) % (32 * v.h)
      | none => 0
    { v with row := some (r, tag), image := v.image.set r (List.replicate (32 * v.w) 0) }

/-- A view slot takes view lines: it is REQUESTED or OPEN (R182). -/
def ViewState.takes : ViewState → Bool
  | .requested | .opened => true
  | .closed | .refused => false

/-- A view line, or fragment of one, taken by its view slot (R182). -/
def ViewSlot.takeLine (m : ViewLineMsg) (v : ViewSlot) : ViewSlot :=
  if v.state.takes && v.station == m.station && v.cam == m.cam then
    let v := { v with state := .opened }.openRow m.tag
    match v.row with
    | some (r, _) => { v with image := v.image.modify r (writeRow m.column m.pixels) }
    | none => v
  else v

/-- A view line handed to the view slot it names; a slot that does not exist discards it. -/
def Scu.takeViewLine (c : Scu) (m : ViewLineMsg) : Scu :=
  match fin2? m.slot with
  | some i => c.setView i ((c.view i).takeLine m)
  | none => c

/-- A view refusal taken (R182). -/
def State.takeRefusal (station slot cam reason : Nat) (s : State) : State :=
  match fin2? slot with
  | none => s
  | some i =>
    let v := s.scu.view i
    if v.state.takes && v.station == station then
      (s.onScu fun c => c.setView i { v with state := .refused, image := blankImage v.w v.h }).post
        (.viewRefused slot station cam reason)
    else s

/-- A view request taken, and answered when it is refused (R179, R180). -/
def State.takeViewRequest (station slot cam k width : Nat) (s : State) : State :=
  let p := s.scu.viewRequest s.camCfg station slot cam k width
  let s := { s with scu := p.1 }
  match p.2 with
  | none => s
  | some reason =>
    if station = s.ownStation then s.takeRefusal station slot cam reason
    else s.offerScreen (wholeFrame .tileControl station (tileCtlPayload (.viewRefusal slot cam reason)))

/-- A view slot's request is made (R179, R183). -/
def State.requestView (i : Fin 2) (s : State) : State :=
  let v := s.scu.view i
  if v.station = s.ownStation then s.takeViewRequest s.ownStation i.val v.cam v.k (32 * v.w)
  else s.offerScreen (wholeFrame .tileControl v.station (tileCtlPayload (.viewRequest i.val v.cam v.k (32 * v.w))))

/-- The repeated view requests of a roster-beat start (R183). -/
def State.repeatViews (s : State) : State :=
  let again (i : Fin 2) (s : State) : State :=
    let v := s.scu.view i
    if v.state.takes && v.station != s.ownStation then s.requestView i else s
  if s.mc.link = .member then again 1 (again 0 s) else s

/-! ## View lines made (R181) -/

/-- The pixels of a view line: means of `e` camera pixels, as many as the line gives and the image takes. -/
def viewPixels (e width : Nat) (pixels : List Byte) : List Byte :=
  (List.range (min (pixels.length / e) width)).map fun i =>
    byte ((((pixels.drop (i * e)).take e).map fun x => x.toNat).sum / e)

/-- The View line frames of a view line. -/
def viewLineFrames (dest slot cam : Nat) (tag : LineTag) (pixels : List Byte) : List LaneFrame :=
  let count := ceilDiv pixels.length 128
  (List.range count).map fun i =>
    { kind := .viewLine, dest := dest, fragIndex := i, fragCount := count
      payload := viewLinePayload slot cam tag ((pixels.drop (128 * i)).take 128), beatStart := 0 }

/-- A viewer's entry is due for a view line (R181). -/
def Viewer.due (now : Nat) (v : Viewer) : Bool :=
  match v.last with
  | none => true
  | some l => decide (l + 1000000 ≤ now)

/-- One entry of a viewer set is offered a good line (R181). -/
def State.viewLineFor (i : Fin 4) (tag : LineTag) (pixels : List Byte) (s : State) (v : Viewer) : State :=
  if v.due s.now && !s.waits 7 then
    let px := viewPixels v.decimation v.width pixels
    let s := s.onScu fun c =>
      { c with viewers := c.viewers.modify i fun vs =>
          vs.map fun x => if x.hasKey v.station v.slot then { x with last := some s.now } else x }
    if v.station = s.ownStation then
      s.onScu fun c => c.takeViewLine
        { station := v.station, slot := v.slot, cam := i.val, tag := tag.forView, column := 0, pixels := px }
    else s.offerAll (viewLineFrames v.station v.slot i.val tag.forView px)
  else s

/-- A good line is offered to its camera's viewer set (R181). -/
def State.viewersTake (i : Fin 4) (tag : LineTag) (pixels : List Byte) (s : State) : State :=
  (s.scu.viewers.get i).foldl (State.viewLineFor i tag pixels) s

/-! ## Touch (R176) -/

/-- A touch routed by the content under it (R176). -/
def State.routeTouch (press : Bool) (x y : Nat) (s : State) : State :=
  let pos := y / 32 * 32 + x / 32
  match s.scu.pageMap.getD pos .blank with
  | .tile id =>
    if id.publisher = s.ownStation then
      s.post (.touch s.ownStation press false false id.page (x % 32) (y % 32) id.index)
    else
      s.offerScreen (wholeFrame .tileControl id.publisher
        (tileCtlPayload (.touch press id.page (x % 32) id.index (y % 32))))
  | .inset i =>
    let v := s.scu.view i
    if v.shows pos then
      s.post (.touch 0 press false true i.val (x - v.position % 32 * 32) (y - v.position / 32 * 32) 0)
    else s.post (.touch 0 press false false 0 (x % 32) (y % 32) pos)
  | .blank => s.post (.touch 0 press false false 0 (x % 32) (y % 32) pos)

/-- The positions of a view slot's rectangle, row by row. -/
def ViewSlot.positions (v : ViewSlot) : List Nat :=
  (List.range v.h).flatMap fun r => (List.range v.w).map fun c => v.position + 32 * r + c

/-- The Screen Unit when a configuration takes effect: its warm-reset values, with its counters kept (R184). -/
def Scu.configured (c : Scu) : Scu :=
  { Scu.reset with storeFull := c.storeFull, fillIgnored := c.fillIgnored, fillFailures := c.fillFailures }

end Sys2Proof.Machine
end

