-- ==== Sys2Proof/Machine/MemberOps.lean ====
section
/-! DEFINITION. Membership and step states: the roster, Hello frames, changes of link state and of step state, adoption and
founding (R26 to R42, R57 to R69, R84, R102, R122). -/

namespace Sys2Proof.Machine

/-! ## Roster (R39) -/

/-- The slot of a station number; none for a number outside 1 to 31. -/
def State.slot (n : Nat) (s : State) : Option RosterSlot := if n = 0 then none else s.mc.roster[n - 1]?

/-- Change the slot of a station number. -/
def State.onSlot (n : Nat) (f : RosterSlot → RosterSlot) (s : State) : State :=
  if n = 0 then s else s.onMc fun m => { m with roster := m.roster.modify (n - 1) f }

/-- A station is present in the roster. -/
def State.isPresent (n : Nat) (s : State) : Bool := (s.slot n).any (·.present)

/-- A station is present with the shaft member flag set. -/
def State.isShaftPeer (n : Nat) (s : State) : Bool := (s.slot n).any fun r => r.present && r.shaftMember

/-- The slot as the roster shows it: the own entry's fields are the station's own, updated as they change (R39). -/
def State.rosterView (n : Nat) (s : State) : RosterSlot :=
  let r := (s.slot n).getD (.absent false)
  if n = s.ownStation ∧ s.mc.link.inRing then
    { r with
      present := true, link := s.mc.link, shaftMember := s.shaftMember, speedAuthority := s.speedAuthority
      stamp := s.mc.joinStamp, step := s.su.step, founder := s.su.founder, silence := 0 }
  else r

/-! ## Hello (R34) -/

/-- The Hello frame of the station as it stands. -/
def State.helloFrame (s : State) : LaneFrame :=
  wholeFrame .hello 0 (helloPayload
    { link := s.mc.link, shaftMember := s.shaftMember, speedAuthority := s.speedAuthority, step := s.su.step
      founder := s.su.founder, stamp := s.mc.joinStamp })

/-- Offer a Hello. -/
def State.offerHello (s : State) : State := s.offer s.helloFrame

/-! ## Step states (R60, R62) -/

/-- Post a Step state changed event (R62, R69). -/
def State.stepEvent (prev : StepState) (s : State) : State :=
  s.post (.stepChanged s.su.step prev s.su.founder s.su.adopted)

/-- Change the step state and post the event; what else follows from the change comes after it: DESIGN CHOICE (log 107). -/
def State.changeStep (f : Su → Su) (s : State) : State := (s.onSu f).stepEvent s.su.step

/-- On entering ADOPTING or SHAFT_IDLE: every peer's view UNKNOWN with no exclusions, and cause 11 false (R60). -/
def State.forgetViews (s : State) : State :=
  (s.onMc fun m => { m with roster := m.roster.map fun r => { r with view := .unknown, exclusions := 0 } }).reportAllFalse
    11 fun _ => true

/-- The link state became MEMBER: a shaft member enters ADOPTING with founder 0; any station starts without an adopted
history (R62, R65, R69). A station that is not a shaft member keeps the founder it holds: DESIGN CHOICE (log 90). -/
def State.shaftMembered (s : State) : State :=
  let s := s.onSu fun u => { u with adopted := false, heldHistory := false, rosterSinceMember := 0 }
  if s.shaftMember then (s.changeStep fun u => { u with step := .adopting, founder := 0 }).forgetViews else s

/-- The link state became DARK or BYPASSED: SHAFT_IDLE from any step state, and the adopted flag cleared (R62, R69). -/
def State.shaftOut (s : State) : State :=
  let changes := s.su.step != .shaftIdle || s.su.adopted
  let s := if changes then s.changeStep fun u => { u with step := .shaftIdle, adopted := false } else s
  ((s.forgetViews.onSu fun u => { u with heldHistory := false }).reportFalse 10 0).reportFalse 12 0

/-! ## Changes of link state (R26) -/

/-- Post a Link state changed event (R26, R30). -/
def State.linkEvent (prev : LinkState) (attempt errors : Nat) (s : State) : State :=
  let reason := if s.mc.link = .bypassed then s.mc.reason else .none
  s.post (.linkChanged s.mc.link prev reason attempt errors)

/-- A change of the bypass output drops symbol lock; a frame in reception fails (R26; log 17). A header of which only part
has arrived is dropped without a receiver error: DESIGN CHOICE (log 75). -/
def State.switchBypass (s : State) : State :=
  (s.cutReception false []).onPins fun p => { p with lock := false }

/-- The Ring Port's lanes, watch, window and transmitter on entering DARK or BYPASSED, with causes 6, 7 and 9 detail 0
(R2, R3, R10, R22, R23). A frame being sent is cut off with the abort delimiter (R2, R38). -/
def State.ringOut (s : State) : State :=
  let s := s.onRp fun r =>
    { r with urgent := [], pass := [], watch := [], consecMissing := 0, errWindow := 0, tx := r.tx.cutOff }
  ((s.emptyBulk.reportFalse 6 0).reportFalse 7 0).reportFalse 9 0

/-- The Membership Controller's roster and watches on entering DARK or BYPASSED, with what the Trip Unit and the Screen Unit
do (R36, R42, R145). `inRing`: the own entry was present. -/
def State.memberOut (inRing : Bool) (s : State) : State :=
  let some? := inRing || s.mc.roster.any (·.present)
  let required := ((s.cfg.map (·.required)).getD 0)
  let s := s.onMc fun m =>
    { m with roster := emptyRoster required, insTimer := none, leaveTimer := none, dupQuiet := 0, dupHeard := false }
  let s := if some? then s.post (.rosterChanged 0 .emptied) else s
  let s := s.orphanWhere fun o => o != s.ownStation
  let s := s.onScu fun c => { c with viewers := Quad.rep [] }
  (s.reportAllFalse 8 fun _ => true).reportFalse 9 1

/-- The link state changes: the bypass output, the event, and what the other blocks do (R26). `attempt` and `errors` are
those of the light check when the change comes from it. That a frame cut off by the bypass output counts its receiver error
before the change of state and its event is DESIGN CHOICE (log 96), and so is the order in which the blocks act after it
(log 54). -/
def State.changeLink (new : LinkState) (reason : BypassReason) (attempt errors : Nat) (s : State) : State :=
  let prev := s.mc.link
  let s := if new.bypass = prev.bypass then s else s.switchBypass
  let s := (s.onMc fun m => { m with link := new, reason := if new = .bypassed then reason else m.reason }).linkEvent prev
    attempt errors
  match new with
  | .dark | .bypassed => (s.ringOut.memberOut prev.inRing).shaftOut
  | .lightCheck => s
  | .inserting => (s.onMc fun m => { m with insTimer := some (s.now + 10000000) }).onRp fun r => { r with tx := .idle }
  | .listen =>
      ((s.onMc fun m => { m with listen := 0, insTimer := none }).onSu fun u =>
        { u with heardQualifying := false }).offerHello
  | .member => s.shaftMembered.raisesOnEntry
  | .leaving => s.emptyBulk

/-! ## The light check (R29, R30) -/

/-- Byte `k` of test block `i` in attempt `a` (R29). -/
def testByte (a i k : Nat) : Byte := byte (73 * i + 29 * k + 101 * a)

/-- Test block `i` of attempt `a`. -/
def testBlock (a i : Nat) : List Byte := (List.range 64).map (testByte a i)

/-- How long after lock the wait for returning blocks ends: 20 µs after the last block was sent (R29). -/
def checkTime (blocks : Nat) : Nat := (74 * blocks - 8) * 8 + 20000

/-- Test blocks are compared: a light check has had lock, has lock, and its blocks are not all back (R29). -/
def State.takesBlocks (s : State) : Bool :=
  s.mc.link == .lightCheck && s.pins.lock && s.mc.check.lockAt.isSome && decide (s.mc.check.returned < s.repeats)

/-- The next test block is done with, in error or not (R29 step 3). -/
def State.countBlock (bad : Bool) (s : State) : State :=
  s.onMc fun m =>
    { m with check := { m.check with returned := m.check.returned + 1, errors := m.check.errors + bad.toNat } }

/-- An attempt of the light check begins now (R29). -/
def State.startAttempt (s : State) : State :=
  (s.onMc fun m =>
    { m with check :=
        { start := s.now, lockAt := if s.pins.lock then some s.now else none, returned := 0, errors := 0 } }).sendTest

/-- An attempt ends with an error count (R30). The change to BYPASSED carries the number of the last attempt and error count 0:
DESIGN CHOICE (log 30). -/
def State.endAttempt (errors : Nat) (s : State) : State :=
  let a := s.mc.attempt
  if errors = 0 then s.changeLink .inserting .none a 0
  else
    let s := (s.onMc fun m => { m with attempt := a + 1 }).linkEvent .lightCheck a errors
    if a + 1 ≤ 3 then s.startAttempt else s.changeLink .bypassed .linkFault a 0

/-! ## Removal and Hello copies (R35, R36, R40 to R42) -/

/-- A present entry is removed, with the effects of R42 but the event, in the order in which R42 names them: DESIGN CHOICE
(log 106). -/
def State.dropPeer (n : Nat) (s : State) : State :=
  let required := (s.slot n).any (·.required)
  let s := s.onSlot n fun r => .absent r.required
  let s := s.orphanWhere fun o => o == n
  let s := s.onScu (Scu.dropStation n)
  let s := (s.onSu fun u => { u with reports := u.reports.filter fun r => r.peer != n }).reportFalse 11 n
  if required && s.mc.link.isMember then s.reportTrue 8 n else s

/-- A present entry is removed with a Roster changed event (R41, R42). -/
def State.removePeer (n : Nat) (reason : RosterReason) (s : State) : State :=
  (s.post (.rosterChanged n reason)).dropPeer n

/-- An entry is made present from a Hello (R40 case 1). -/
def State.makePresent (n hop : Nat) (m : HelloMsg) (s : State) : State :=
  (s.onSlot n fun r =>
    { present := true, link := m.link, shaftMember := m.shaftMember, speedAuthority := m.speedAuthority, stamp := m.stamp
      step := m.step, founder := m.founder, distance := hop + 1, silence := 0, required := r.required, view := .unknown
      exclusions := 0 }).reportFalse 8 n

/-- An entry's silence has reached 4 and its removal is due (R41). -/
def RosterSlot.silent (r : RosterSlot) : Bool := r.present && r.silence == 4

/-- A removal that a roster-beat start called for is done before a Hello taken after that start (R41). -/
def State.removeSilent (n : Nat) (s : State) : State :=
  if (s.slot n).any RosterSlot.silent then s.removePeer n .silent else s

/-- A Hello copy handled by the slot of its origin (R40, R41). The Roster changed event of an entry made present follows the
report of cause 8: DESIGN CHOICE (log 62). -/
def State.slotHello (n hop : Nat) (m : HelloMsg) (s : State) : State :=
  match s.slot n with
  | none => s
  | some r =>
    if m.link = .leaving then if r.present then s.removePeer n .left else s
    else if m.link ≠ .listen ∧ m.link ≠ .member then s
    else if !r.present then (s.makePresent n hop m).post (.rosterChanged n .added)
    else if m.stamp = r.stamp then
      let changed := m.link != r.link || m.shaftMember != r.shaftMember || m.speedAuthority != r.speedAuthority
      let s := s.onSlot n fun x =>
        { x with
          link := m.link, shaftMember := m.shaftMember, speedAuthority := m.speedAuthority, step := m.step
          founder := m.founder, distance := hop + 1, silence := 0 }
      if changed then s.post (.rosterChanged n .changed) else s
    else if m.link = .listen then ((s.dropPeer n).makePresent n hop m).post (.rosterChanged n .replaced)
    else s.onSlot n fun x => { x with silence := 0 }

/-- A Hello copy from another origin (R40, R41). -/
def State.peerHello (n hop : Nat) (m : HelloMsg) (s : State) : State := (s.removeSilent n).slotHello n hop m

/-- Cause 9 detail 1 is false once the quiet count of the duplicate watch has reached 4 (R36). -/
def State.endDuplicate (s : State) : State :=
  if s.mc.dupQuiet = 4 ∧ s.causeTrue 9 1 then s.reportFalse 9 1 else s

/-- A foreign Hello with the own number is taken (R35, R36). A quiet count that has reached 4 ends the watch before it. -/
def State.foreignHello (hop : Nat) (m : HelloMsg) (s : State) : State :=
  match s.mc.link with
  | .listen => (s.changeLink .bypassed .duplicateNumber 0 0).post (.duplicateSeen m.link hop m.stamp)
  | .member =>
    if m.link = .member ∨ m.link = .leaving then
      let s := s.endDuplicate.onMc fun c => { c with dupQuiet := 0, dupHeard := true }
      if s.causeTrue 9 1 then s else (s.reportTrue 9 1).post (.duplicateSeen m.link hop m.stamp)
    else s
  | .dark | .lightCheck | .inserting | .leaving | .bypassed => s

/-- A Hello copy of the own station number (R35). -/
def State.ownHello (hop : Nat) (m : HelloMsg) (s : State) : State :=
  if m.stamp = s.mc.joinStamp then
    if s.mc.link.inRing then s.onSlot s.ownStation fun r => { r with distance := hop + 1 } else s
  else s.foreignHello hop m

/-- A Hello copy taken by the Membership Controller (R35, R40). -/
def State.takeHello (c : Copy) (s : State) : State :=
  let h := parseHeader c.header
  match parseHello c.payload with
  | none => s
  | some m =>
    if h.origin = s.ownStation then s.ownHello h.hop m
    else if s.mc.link.inRing then s.peerHello h.origin h.hop m
    else s

/-! ## Shaft frame reports (R57 to R60) -/

/-- A Shaft frame qualifies for adoption (R63). -/
def State.qualifies (origin transit : Nat) (m : ShaftMsg) (s : State) : Bool :=
  s.isShaftPeer origin && (m.step == .inStep || m.step == .alone) && transit != 65535 &&
    decide (m.line.speed ≤ s.maxSpeed) && decide (m.line.target ≤ s.maxSpeed)

/-- The local time at which the origin's beat started (R58). -/
def State.peerStart (arrival : Nat) (h : Header) (s : State) : Int :=
  (arrival : Int) - s.hopDelay - h.transit - h.launchDelay

/-- The own local start of a beat, and the own snapshot of it where it exists: the own previous, current or next beat
(R58, R59). -/
def Su.ownBeat (beat : Nat) (u : Su) : Option (Int × Option Line) :=
  if beat = u.beat then some (u.beatCur, some u.snapCur)
  else if beat = u.nextBeat then some (u.beatNext, none)
  else if (beat + 1) % two32 = u.beat then some (u.beatPrev, some u.snapPrev)
  else none

/-- Why a report with the own founder is not VALID, in the order of R59. -/
inductive Exclusion where
  | beatUnmatched
  | transitSaturated
  | offsetBeyond
  | snapshotMismatch
  deriving DecidableEq, Repr

/-- The first reason a report with the own founder fails, and its offset (R58, R59). -/
def State.judgeReport (h : Header) (start : Int) (m : ShaftMsg) (s : State) : Option Exclusion × Int :=
  match s.su.ownBeat m.beat with
  | none => (some .beatUnmatched, 0)
  | some (own, snap) =>
    let offset := start - own
    if h.transit = 65535 then (some .transitSaturated, offset)
    else if s.exclusion < offset.natAbs then (some .offsetBeyond, offset)
    else if (snap.any fun l => !l.sameSnapshot m.line) then (some .snapshotMismatch, offset)
    else (none, offset)

/-- Count an excluded report by its reason (R59). -/
def Su.countExclusion (x : Exclusion) (u : Su) : Su :=
  match x with
  | .beatUnmatched => { u with beatUnmatched := bump u.beatUnmatched }
  | .transitSaturated => { u with transitSaturated := bump u.transitSaturated }
  | .offsetBeyond => { u with offsetBeyond := bump u.offsetBeyond }
  | .snapshotMismatch => { u with snapshotMismatch := bump u.snapshotMismatch }

/-- A report enters the peer report set, in the place of an earlier one of its peer (R59). -/
def Su.enterReport (r : Report) (u : Su) : Su := { u with reports := (u.reports.filter fun x => x.peer != r.peer) ++ [r] }

/-- The roster entry of a report's origin after it (R59, R60). -/
def RosterSlot.judge (cls : ReportClass) (r : RosterSlot) : RosterSlot :=
  let kept (v : ShaftView) : ShaftView := if r.view = .outOfStep then .outOfStep else v
  let more := min (r.exclusions + 1) 8
  match cls with
  | .valid => { r with view := .valid, exclusions := 0 }
  | .excluded => { r with view := if more = 8 then .outOfStep else kept .excluded, exclusions := more }
  | .foreignHigh => { r with view := if more = 8 then .outOfStep else kept .foreign, exclusions := more }
  | .foreignLow => { r with view := kept .foreign }

/-- The class of a report (R59). -/
def State.classOf (reason : Option Exclusion) (founder : Nat) (s : State) : ReportClass :=
  if founder < s.su.founder then .foreignLow
  else if s.su.founder < founder then .foreignHigh
  else if reason.isSome then .excluded else .valid

/-- The entry into ALONE that a beat start called for is still to be taken (R68; log 73). -/
def State.standsAlone (s : State) : Bool := (s.su.step == .following || s.su.step == .inStep) && s.su.aloneDue

/-- ENTER_ALONE where it is due: taken once for the beat start that called for it (R68). -/
def State.enterAlone (s : State) : State :=
  if s.standsAlone then s.changeStep fun u => { u with step := .alone, aloneDue := false } else s

/-- A measured report is classified and enters the set; cause 11 and the way out of ALONE follow (R59, R60, R68), cause 11
first: DESIGN CHOICE (log 97). A report that is VALID is taken after the entry into ALONE that the beat start before it called
for (R68). -/
def State.takeReport (h : Header) (start : Int) (m : ShaftMsg) (s : State) : State :=
  let j := s.judgeReport h start m
  let cls := s.classOf j.1 m.founder
  let s := if cls = .valid then s.enterAlone else s
  let s := match cls, j.1 with
    | .excluded, some x => s.onSu (Su.countExclusion x)
    | _, _ => s
  let s := (s.onSu (Su.enterReport { peer := h.origin, cls := cls, offset := j.2 })).onSlot h.origin (RosterSlot.judge cls)
  match cls with
  | .valid =>
    let s := s.reportFalse 11 h.origin
    if s.su.step = .alone then s.changeStep fun u => { u with step := .following, settled := 0 } else s
  | .excluded | .foreignHigh =>
    if (s.slot h.origin).any fun r => r.exclusions == 8 then s.reportTrue 11 h.origin else s
  | .foreignLow => s

/-- The pending entries of a Shaft frame are offered to the list: with the own founder, and apply beats later than the
current beat (R57). -/
def State.offerCarried (m : ShaftMsg) (s : State) : State :=
  if m.founder = s.su.founder then
    (m.entries.filter fun e => beatLater e.beat s.su.beat).foldl (fun x e => x.installEntry e) s
  else s

/-! ## Adoption and founding (R63 to R65) -/

/-- The other blocks are told that the line state is replaced: axes leave the line at the speed held before, cameras owe a
skipped-before flag, and accumulators close (R84, R102, R122). -/
def State.lineReplaced (speed : Nat) (s : State) : State :=
  let cams := ((s.cfg.map (·.cams)).getD (Quad.rep none))
  ((s.eachAxis (State.historyDecouple speed)).onCu (Cu.replaceLine cams)).onMu Mu.replaceLine

/-- The number of ticks of a beat started at `start` whose ends have passed at `now`. -/
def ticksPassed (start : Int) (now : Nat) : Nat := min (((now : Int) - start) / 125000).toNat 8

/-- The number of the first tick of the new timing that ends after the adoption and 124,750 ns or more after the start of
the tick in progress (R63). -/
def tickEndAfter (start : Int) (now : Nat) (tickStart : Int) : Nat :=
  let a := ((now : Int) - start) / 125000 + 1
  let b := (tickStart + 124750 - start + 124999) / 125000
  min (max a b).toNat 8

/-- The Shaft Unit with a frame's line state adopted (R63 steps 1 to 4). The start and the snapshot of the beat before, which
the station never saw, are one nominal beat earlier and the adopted one: DESIGN CHOICE (log 26). A station adopting between
a beat start and that beat's first tick start has its tick in progress from the beat start on, and that first tick start
never comes: DESIGN CHOICE (log 74). The report set is emptied: DESIGN CHOICE (log 84). -/
def Su.adopt (start : Int) (now maxSpeed normal fast : Nat) (m : ShaftMsg) (u : Su) : Su :=
  let done := ticksPassed start now
  let stop := tickEndAfter start now (if u.inTick then u.tickStart else u.beatCur)
  let line := m.line.ticks normal fast done
  let u :=
    { u with
      beat := m.beat, founder := m.founder, line := line
      next := (line.ticks normal fast (stop - done)).result
      inTick := true, tickEnd := start + 125000 * stop, tickIdx := stop, tickLens := nominalTicks
      beatPrev := start - 1000000, beatCur := start, beatNext := start + 1000000, beatZeroDue := false
      snapCur := m.line, snapCurFounder := m.founder, snapPrev := m.line, snapPrevFounder := m.founder
      reports := [], settled := 0, minority := 0, alone := 0, aloneDue := false, heldHistory := true }
  u.takeCarried maxSpeed m.entries

/-- The adoption of a qualifying frame (R63, R69). -/
def State.adopt (start : Int) (m : ShaftMsg) (s : State) : State :=
  let old := s.su.line.speed
  let s := (s.onSu fun u => u.adopt start s.now s.maxSpeed s.normalRate s.fastRate m).lineReplaced old
  let s := s.resubmitStops
  if s.shaftMember then s.changeStep fun u => { u with step := .following }
  else s.changeStep fun u => { u with adopted := true }

/-- The conditions of a re-adoption: the frame's S and the own S are 0, and no axis is in COUPLED or COUPLING (R64). -/
def State.atRest (m : ShaftMsg) (s : State) : Bool :=
  m.line.speed == 0 && s.su.line.speed == 0 && !s.au.axes.any fun a => a.state.onLine

/-- A frame examined for adoption: the first one as soon as it qualifies, a later one at standstill (R63, R64, R69). -/
def State.examine (first : Bool) (h : Header) (start : Int) (m : ShaftMsg) (s : State) : State :=
  if s.qualifies h.origin h.transit m && (first || s.atRest m) then s.adopt start m else s

/-- A Shaft frame copy measured, classified, and its entries offered (R57). -/
def State.measure (h : Header) (start : Int) (m : ShaftMsg) (s : State) : State :=
  if s.isShaftPeer h.origin then (s.takeReport h start m).offerCarried m else s

/-- A Shaft frame copy taken by the Shaft Unit (R57). -/
def State.takeShaft (c : Copy) (s : State) : State :=
  let h := parseHeader c.header
  match parseShaft c.payload with
  | none => s
  | some m =>
    let start := s.peerStart c.arrival h
    match s.su.step with
    | .following | .inStep | .alone => s.measure h start m
    | .adopting => s.examine (s.su.founder == 0) h start m
    | .shaftIdle =>
      match s.mc.link with
      | .listen =>
        if s.qualifies h.origin h.transit m then s.onSu fun u => { u with heardQualifying := true } else s
      | .member | .leaving =>
        if s.shaftMember then s
        else if s.su.adopted then s.measure h start m
        else s.examine (!s.su.heldHistory) h start m
      | .dark | .lightCheck | .inserting | .bypassed => s

/-- A Speed frame copy taken by the Shaft Unit (R54). -/
def State.takeSpeed (c : Copy) (s : State) : State :=
  let h := parseHeader c.header
  match parseSpeed c.payload with
  | none => s
  | some (founder, e) =>
    let holds := s.holdsHistory || (s.su.step == .adopting && s.su.founder != 0)
    if ((s.slot h.origin).any fun r => r.present && r.speedAuthority) && holds && founder == s.su.founder &&
        s.mc.link.isMember then s.installEntry e
    else s.onSu fun u => { u with ignoredSpeed := bump u.ignoredSpeed }

/-- The Shaft Unit founding a line history (R65 steps 1 to 3). Both snapshots are the initial line state: DESIGN CHOICE for
the one of the beat before (log 26). -/
def Su.found (station : Nat) (u : Su) : Su :=
  { u with
    beat := 0, line := .initial, founder := station, list := [], snapCur := .initial, snapCurFounder := station
    snapPrev := .initial, snapPrevFounder := station, reports := [], settled := 0, minority := 0, alone := 0
    aloneDue := false, heldHistory := true }

/-- The Shaft frame of the current beat (R56). -/
def State.shaftFrame (step : StepState) (s : State) : LaneFrame :=
  { kind := .shaft, dest := 0, fragIndex := 0, fragCount := 1
    payload := shaftPayload
      { beat := s.su.beat, line := s.su.snapCur, step := step, founder := s.su.founder, entries := s.su.list.take 2 }
    beatStart := s.su.beatCur }

end Sys2Proof.Machine
end

