-- ==== Sys2Proof/Machine/TickOps.lean ====
section
/-! DEFINITION. The beat timer: the end of a tick, the start of a tick, the start of a beat (R44, R46, R50, R56, R61,
R66 to R69). -/

namespace Sys2Proof.Machine

/-- The tick in progress ends: the line state holds its speed and angle, the local tick counter steps, and the axes that
leave a state at a tick end do so (R28, R44, R46, R83, R88; log 8). -/
def State.endTick (s : State) : State :=
  if s.su.inTick then
    let s := (s.onSu fun u => { u with line := u.line.commit u.next, inTick := false }).onMc fun m =>
      { m with ticks := (m.ticks + 1) % two32 }
    s.eachAxis State.axisTickEnd
  else s

/-- When the next tick or beat starts: at the end of the tick in progress, or at the beat start just taken. -/
def Su.nextStart (u : Su) : Int := if u.inTick then u.tickEnd else u.beatCur

/-- A tick starts now: its arithmetic, and its length fixed at the beat start (R44, R46). -/
def Su.startTick (start : Int) (normal fast : Nat) (u : Su) : Su :=
  { u with
    next := u.line.tick normal fast, inTick := true, tickStart := start
    tickEnd := start + u.tickLens.getD u.tickIdx 125000, tickIdx := u.tickIdx + 1 }

/-- The blocks that act at a tick start, in the order Axis Unit, Camera Unit, Mark Unit (log 11). -/
def State.tickBlocks (s : State) : State :=
  (((s.eachAxis State.axisTick).sweepTick).rearmTick).markTick

/-- A tick of the beat in progress can start. -/
def Su.tickDue (u : Su) : Bool := decide (u.tickIdx < 8) && !u.beatZeroDue

/-- A beat start is due: the eight ticks of the beat are done, or a warm reset has beat 0 start at the end of the tick in
progress (R44, R71). -/
def Su.beatDue (u : Su) : Bool := u.beatZeroDue || decide (8 ≤ u.tickIdx)

/-- A count that steps to a limit after a beat meeting `b`, and is set to 0 after any other. -/
def stepOrClear (limit : Nat) (b : Bool) (n : Nat) : Nat := if b then min (n + 1) limit else 0

/-- The counts of a beat start, from the report set of the beat just ended (R51, R66 to R69). `follows`: FOLLOWING, or an
adopted station that is not a shaft member. An alone count that steps makes the entry into ALONE due when it then stands at
16, and a beat start at which it does not step takes that back; that a count at 16 stays there and makes the entry due anew
is DESIGN CHOICE (log 73). -/
def Su.stepCounts (agreeing follows : Bool) (u : Su) : Su :=
  let noValid := (validOffsets u.reports).isEmpty
  let counts := u.step == .following || u.step == .inStep
  let alone := if counts then stepOrClear 16 noValid u.alone else u.alone
  { u with
    settled := if follows then stepOrClear 16 (settledBeat u.reports) u.settled else u.settled
    minority := if agreeing then stepOrClear 4 (minorityBeat u.reports) u.minority else u.minority
    alone := alone, aloneDue := counts && alone == 16
    calm := stepOrClear 16 (!u.lateThisBeat) u.calm, lateThisBeat := false }

/-- The beat number steps and the entries of the new beat are applied; the snapshot is taken (R44, R45, R50). After a warm
reset the new beat is beat 0, and the start of the beat before it is the one the reset gave (R71; log 26). -/
def Su.newBeat (u : Su) : Su :=
  let v :=
    { u with
      beat := if u.beatZeroDue then 0 else u.nextBeat
      beatPrev := if u.beatZeroDue then u.beatPrev else u.beatCur
      beatCur := if u.beatZeroDue then u.tickEnd else u.beatNext }.applyDue
  { v with
    snapPrev := u.snapCur, snapPrevFounder := u.snapCurFounder, snapCur := v.line, snapCurFounder := v.founder
    beatZeroDue := false }

/-- The tick lengths of the new beat are fixed and the report set is emptied (R44, R61). -/
def Su.fixTicks (agreeing : Bool) (u : Su) : Su :=
  let lens := if agreeing then slewTicks (midpoint (validOffsets u.reports)) else nominalTicks
  { u with
    tickLens := lens, beatNext := u.beatCur + lens.sum, tickIdx := 0, inTick := false, reports := []
    rosterDue := u.beat % 8 == 0 }

/-- The step state in which a station leaves a beat start, once the transitions its counts call for have been taken
(R66 to R68; log 12). -/
def Su.stepDue (u : Su) : StepState :=
  match u.step with
  | .following => if u.settled = 16 then .inStep else if u.alone = 16 then .alone else .following
  | .inStep => if u.alone = 16 then .alone else .inStep
  | .shaftIdle | .adopting | .alone => u.step

/-- The Shaft Unit at a beat start (R44, R50, R51, R61, R66 to R69). A station whose minority count reaches 4 at it leaves
timing agreement, so its ticks are nominal (R61, R67). -/
def Su.startBeat (agreeing follows : Bool) (u : Su) : Su :=
  let v := u.newBeat.stepCounts agreeing follows
  v.fixTicks (agreeing && decide (v.minority < 4))

/-- The Shaft frame of a beat start is offered by a station that stays in FOLLOWING, IN_STEP or ALONE (R56). -/
def State.offerShaft (s : State) : State :=
  if s.su.step.sends && decide (s.su.minority < 4) then s.offer (s.shaftFrame s.su.stepDue) else s

/-- A beat starts: the tick in progress ends, the Shaft Unit takes the new beat, and a Shaft frame is offered (R50, R56). -/
def State.startBeat (s : State) : State :=
  let s := s.endTick
  let follows := s.su.step == .following || (!s.shaftMember && s.su.adopted)
  let agreeing := s.agreeing
  (s.onSu fun u => u.startBeat agreeing follows).offerShaft

end Sys2Proof.Machine
end

