-- ==== Sys2Proof/Machine/ResetOps.lean ====
section
/-! DEFINITION. The two resets, the loss of the host link, and a configuration taking effect (R25, R43, R71, R96, R115,
R116, R133, R136, R152, R160, R184, R185, R190 to R192, R199 to R201). -/

namespace Sys2Proof.Machine

/-! ## Trip inputs at the end of a reset (R136, R185) -/

/-- An asserted input is reported true. -/
def State.reportInput (asserted : Bool) (cause : Nat) (s : State) : State :=
  if asserted then s.reportTrue cause 0 else s

/-- Each trip input asserted at the end of a reset is reported true at once (R136), and the panel stop key is read
(R185). Their order is that of their causes: DESIGN CHOICE (log 67). -/
def State.reportInputs (s : State) : State :=
  let p := s.pins
  let s := (s.reportInput p.eStop 0).reportInput p.guard 1
  let s := (s.reportInput (p.ext.get 0) 2).reportInput (p.ext.get 1) 3
  let s := (s.reportInput (p.ext.get 2) 4).reportInput (p.ext.get 3) 5
  s.reportInput p.stopKey 20

/-- The Ring Port after a reset of a part that runs: a frame being sent is cut off with the abort delimiter, as at any change
of the link state to DARK (R2, R25; log 61). -/
def Rp.afterReset (r : Rp) : Rp := { Rp.reset with tx := r.tx.cutOff }

/-- Cold reset: every block at its cold reset values; local time and the levels of the inputs stand outside the reset
(R25, R43, R71, R96, R116, R133, R160, R185, R201; log 35). -/
def State.coldReset (s : State) : State :=
  ((State.cold s.now { s.pins with lock := false } s.pending).onRp fun _ => s.rp.afterReset).reportInputs

/-- The Shaft Unit after a warm reset: the tick in progress runs to its end, and beat 0 starts there (R71). Between a beat start
and the first tick start of that beat no tick is in progress, and beat 0 starts at that beat's start: DESIGN CHOICE (log 85). -/
def Su.warm (u : Su) : Su :=
  if u.inTick then
    { Su.reset u.tickEnd with
      inTick := true, tickStart := u.tickStart, tickEnd := u.tickEnd, tickIdx := u.tickIdx, tickLens := u.tickLens
      beatZeroDue := true }
  else Su.reset u.beatCur

/-- The Trip Unit after a warm reset: the first-trip record and the source identifiers are kept (R160), and so is that the
queues are not set up again after a loss of the host link, which a warm reset does not end (R159, R192). -/
def Tu.warm (u : Tu) : Tu :=
  { Tu.reset with
    first := u.first, more := u.more, firstTorqueOff := u.firstTorqueOff, firstStop := u.firstStop
    firstWarn := u.firstWarn, multiTorqueOff := u.multiTorqueOff, noticeHeld := u.noticeHeld }

/-- A command queue after a warm reset: its setup kept, its command abandoned, its head at its tail (R192). A WARM RESET
whose DONE is being written stays in flight until the write completes (log 43). -/
def CmdQ.warm (keep : Bool) (q : CmdQ) : CmdQ :=
  { q with head := q.tail, fetching := false, waitTail := false, inFlight := if keep then q.inFlight else none }

/-- A WARM RESET is in flight with its write-back issued. -/
def CmdQ.warmWriting (q : CmdQ) : Bool := q.inFlight.any fun f => f.cmd == .warmReset && f.phase == .writing

/-- The Command Port after a warm reset (R192). -/
def Cmp.warm (c : Cmp) : Cmp :=
  let keep := c.normal.warmWriting
  { Cmp.reset with
    urgent := c.urgent.warm false, normal := c.normal.warm keep
    event := { c.event with awaiting := [], writing := false }
    dma := if keep then c.dma.filter fun t => t.purpose == .resultWriteback && t.unit == .normal else []
    warmCount := (c.warmCount + 1) % 256, interrupts := c.interrupts }

/-- Warm reset: every block at its warm reset values, the configuration, the queue setup and the inputs kept (R25, R43, R71,
R96, R116, R133, R160, R185, R192). -/
def State.warmReset (s : State) : State :=
  State.reportInputs
    { pending := s.pending, now := s.now, inMc := [], inSu := [], inTu := [], inAu := [], inScu := []
      pins := { s.pins with lock := false }, cfg := s.cfg, rp := s.rp.afterReset
      mc := Mc.reset s.mc.ticks ((s.cfg.map (·.required)).getD 0), su := s.su.warm
      au := Au.reset ((s.cfg.map (·.axes)).getD (Quad.rep none)), cu := .reset, mu := .reset, tu := s.tu.warm
      scu := .reset, cmp := s.cmp.warm }

/-! ## Loss of the host link (R115, R159, R185, R199) -/

/-- The events awaiting their write are discarded, each counted lost (R199). -/
def State.discardEvents (s : State) : State :=
  let n := s.cmp.event.awaiting.length
  s.onCmp fun c =>
    { c with
      event := .reset, eventsLost := min (c.eventsLost + n) (two32 - 1), lostPending := min (c.lostPending + n) 65535 }

/-- Fragments kept behind one that waits are not offered any more; the waiting one keeps its place (R185). An invalidate kept
behind another frame of its class stays, and is offered in its turn: DESIGN CHOICE (log 104). -/
def Rp.dropFragments (r : Rp) : Rp :=
  let tiles := r.held.filter fun f => f.kind == .tileData
  { r with held := tiles.take 1 ++ r.held.filter fun f => f.kind != .tileData }

/-- The host link is lost, in the order of R199; the notice flags of R159 last. A CONFIGURE that waits for strip writes is
abandoned with the commands in flight. -/
def State.linkLoss (s : State) : State :=
  let s := s.reportTrue 21 0
  let s := (s.onCmp fun c => { c with urgent := .reset, normal := .reset, dma := [] }).discardEvents
  let s := s.onCu fun u => { u with cams := u.cams.map Cam.linkLost, draining := none }
  let s := (s.onScu fun c => { c with pub := none }).onRp Rp.dropFragments
  s.onTu fun u => { u with noticeOut := false, changesPending := true, noticeHeld := true }

/-- The port became ready: cause 21 is reported false, and a notice is posted when changes are pending (R159, R200), which
are then no longer: DESIGN CHOICE (log 68). It is posted beside a notice that may be outstanding already: DESIGN CHOICE
(log 79). -/
def State.portBecameReady (s : State) : State :=
  let s := s.reportFalse 21 0
  let s := s.onTu fun u => { u with noticeHeld := false }
  if s.tu.changesPending then (s.onTu fun u => { u with changesPending := false }).postNotice else s

/-! ## A configuration takes effect (R191) -/

/-- Speeds and targets reduced to a maximum line speed (R70; log 40). -/
def Su.limit (maxSpeed : Nat) (u : Su) : Su :=
  { u with
    line := { u.line with speed := min u.line.speed maxSpeed, target := min u.line.target maxSpeed }
    next := { u.next with speed := min u.next.speed maxSpeed }
    list := u.list.map (Entry.clamped maxSpeed) }

/-- An axis when a configuration takes effect: TORQUE_OFF or DISABLED with its reset values, an event for a change of state
(R74). The event gives the setpoint and the actual position as they stood (R95). -/
def State.configureAxis (i : Fin 4) (s : State) : State :=
  let old := s.axis i
  let new := axisResetState (s.axisCfg i)
  let s := s.onAxis i fun _ => Axis.reset new
  if old.state = new then s else s.post (old.changed i new .configuration)

/-- Every block takes a new configuration at one moment (R191). The causes are re-evaluated under the new map and number
after the blocks have taken their values (R152), in cause order and then detail order: DESIGN CHOICE (log 92). -/
def State.configure (c : Cfg) (s : State) : State :=
  let old := s.cfg
  let s := { s with cfg := some c }
  let s := s.onMc fun m =>
    { m with roster := m.roster.mapIdx fun i r => { r with required := c.required.getLsbD (i + 1) } }
  let s := s.onSu (Su.limit c.maxSpeed)
  let s := s.tu.causes.foldl (State.reevaluate old (some c)) s
  let s := s.eachAxis State.configureAxis
  let s := ((s.reportAllFalse 13 fun _ => true).reportAllFalse 14 fun _ => true).reportAllFalse 15 fun _ => true
  let s := (s.onCmp fun c => { c with dma := c.dma.map Transfer.letGo }).freshCameras
  let s := s.eachAxis State.configureLoop
  (s.onScu Scu.configured).updateLocalStop

/-- The configuration that waits takes effect, and CONFIGURE completes, when no strip write is in flight (R115, R191;
log 25). -/
def State.finishConfigure (s : State) : State :=
  match s.cu.draining with
  | some c => if s.cmp.writesStrips then s else (s.configure c).result .normal .done
  | none => s

/-- A configuration that passes lets the strip writes already issued complete or fail first, with no other issued meanwhile,
and then takes effect in every block (R115, R191; log 25). -/
def State.awaitStripWrites (c : Cfg) (s : State) : State :=
  ((s.onCmp fun p => { p with dma := p.dma.map Transfer.letGo }).onCu fun u => { u with draining := some c }).finishConfigure

end Sys2Proof.Machine
end

