-- ==== Sys2Proof/Machine/Images.lean ====
section
/-! DEFINITION. The images of the READ commands (R158, R193, R194; 10, section 10.5). -/

namespace Sys2Proof.Machine

/-! ## Roster image -/

def ShaftView.code : ShaftView → Nat
  | .unknown => 0
  | .valid => 1
  | .excluded => 2
  | .outOfStep => 3
  | .foreign => 4

/-- The 16 bytes of a roster slot. The fields other than required have meaning only while present (R39); they are written as
they stand. -/
def slotBytes (r : RosterSlot) : List Byte :=
  [byte (flagBit 0 r.present), byte r.link.code,
   byte (flagBit 0 r.shaftMember + flagBit 1 r.speedAuthority + flagBit 2 r.required), byte r.step.code, byte r.founder,
   byte r.distance, byte r.silence, byte r.view.code, byte r.exclusions] ++ fill 3 ++ le 4 r.stamp

/-- The roster image, 512 bytes. -/
def State.rosterImage (s : State) : List Byte :=
  padTo 16 [byte s.mc.link.code, byte s.ownStation] ++
    (List.range 31).flatMap fun i => slotBytes (s.rosterView (i + 1))

/-! ## Trip image -/

def TripState.code : TripState → Nat
  | .active => 0
  | .cleared => 1
  | .orphaned => 2

/-- An origin identifier: FFh for none (10.1). -/
def originByte (x : Option Nat) : Byte := byte (x.getD 255)

/-- The first-trip record in the image, 56 bytes from byte 8. -/
def firstTripBytes (x : Option FirstTrip) : List Byte :=
  match x with
  | none => fill 56
  | some f =>
    padTo 56 (le 4 f.beat ++ le 4 f.angle ++ le 2 f.rev ++
      [byte f.key.origin, byte f.key.cause, byte f.key.detail, byte f.category.code, byte f.scope.code, 0] ++
      padTo 20 f.header ++ padTo 12 f.payload)

/-- An entry of the table in the image, 16 bytes. -/
def tripEntryBytes (e : TripEntry) : List Byte :=
  padTo 16 ([byte e.key.origin, byte e.key.cause, byte e.key.detail, byte e.category.code, byte e.scope.code,
    byte e.state.code, byte e.refresh, byte e.quiet] ++ le 4 e.firstSeen)

/-- The bitmap of a cause, 32 bytes. -/
def State.causeBitmap (cause : Nat) (s : State) : List Byte :=
  (List.range 32).map fun i =>
    byte ((List.range 8).foldl (fun n j => n + flagBit j (s.causeTrue cause (8 * i + j))) 0)

/-- The trip image, 1,280 bytes (R158). -/
def State.tripImage (s : State) : List Byte :=
  let t := s.tu
  [byte t.table.length,
   byte (flagBit 0 t.lost + flagBit 1 s.gateOpen + flagBit 2 t.more + flagBit 3 t.multiTorqueOff +
     flagBit 4 t.first.isSome),
   byte s.localStopLevel.code, originByte t.firstTorqueOff, originByte t.firstStop, originByte t.firstWarn, 0, 0] ++
    firstTripBytes t.first ++ padTo 512 (t.table.flatMap tripEntryBytes) ++
    (List.range 22).flatMap fun c => s.causeBitmap c

/-! ## Line state image -/

/-- The line state image, 200 bytes (R193). A snapshot holds no step state: its form carries that of the moment, DESIGN CHOICE
(log 99). -/
def State.lineImage (s : State) : List Byte :=
  let u := s.su
  padTo 200 (lineBytes u.beat u.line u.step u.founder (min u.list.length 2) ++
    lineBytes u.beat u.snapCur u.step u.snapCurFounder (min u.list.length 2) ++
    [byte u.step.code, byte u.founder, byte (flagBit 0 u.adopted), byte u.settled, byte u.minority, byte u.alone,
     byte u.list.length, 0] ++ u.list.flatMap entryBytes)

/-! ## Counters image -/

/-- The 24 counters in the order of the table of R194. -/
def State.counters (s : State) : List Nat :=
  [s.rp.receiverErrors, s.rp.aborted, s.rp.orphans, s.rp.unmatched, s.rp.unwatched, s.rp.returnMissing,
   s.rp.urgentOverflow, s.su.beatUnmatched, s.su.transitSaturated, s.su.offsetBeyond, s.su.snapshotMismatch,
   s.su.ignoredSpeed, s.su.lateChanges, s.su.droppedEntries, s.au.missedAnswers, s.au.discardedCorrections,
   s.cu.skippedLines, s.cu.missingLines, s.cu.droppedLines, s.cu.mapErrors, s.scu.storeFull, s.scu.fillIgnored,
   s.scu.fillFailures, s.cmp.eventsLost]

/-- The DMA error record in the image, 32 bytes. -/
def dmaRecordBytes (x : Option DmaError) (more : Bool) : List Byte :=
  match x with
  | none => padTo 32 [0, byte (flagBit 0 more)]
  | some d =>
    padTo 32 (padTo 8 [1, byte (flagBit 0 more), byte d.purpose.code, byte d.kind.code, byte d.unit.code] ++
      le 8 d.addr ++ le 4 d.beat)

/-- The counters image, 128 bytes. -/
def State.counterImage (s : State) : List Byte :=
  s.counters.flatMap (le 4) ++ dmaRecordBytes s.cmp.dmaErr s.cmp.dmaMore

/-- A counter less the value recorded when the image was formed; one that was at its end is set to 0 (R194). -/
def lessRecorded (recorded n : Nat) : Nat := if recorded = two32 - 1 then 0 else n - recorded

/-- The counters of the image written by a READ COUNTERS, from the bytes of its write (R194). -/
def recordedCounters (image : List Byte) : List Nat := (List.range 24).map fun i => rd image (4 * i) 4

/-- Every counter less its recorded value (R194). -/
def State.subtractCounters (recorded : List Nat) (s : State) : State :=
  let f (i n : Nat) : Nat := lessRecorded (recorded.getD i 0) n
  { s with
    rp := { s.rp with
      receiverErrors := f 0 s.rp.receiverErrors, aborted := f 1 s.rp.aborted, orphans := f 2 s.rp.orphans
      unmatched := f 3 s.rp.unmatched, unwatched := f 4 s.rp.unwatched, returnMissing := f 5 s.rp.returnMissing
      urgentOverflow := f 6 s.rp.urgentOverflow }
    su := { s.su with
      beatUnmatched := f 7 s.su.beatUnmatched, transitSaturated := f 8 s.su.transitSaturated
      offsetBeyond := f 9 s.su.offsetBeyond, snapshotMismatch := f 10 s.su.snapshotMismatch
      ignoredSpeed := f 11 s.su.ignoredSpeed, lateChanges := f 12 s.su.lateChanges
      droppedEntries := f 13 s.su.droppedEntries }
    au := { s.au with
      missedAnswers := f 14 s.au.missedAnswers, discardedCorrections := f 15 s.au.discardedCorrections }
    cu := { s.cu with
      skippedLines := f 16 s.cu.skippedLines, missingLines := f 17 s.cu.missingLines
      droppedLines := f 18 s.cu.droppedLines, mapErrors := f 19 s.cu.mapErrors }
    scu := { s.scu with
      storeFull := f 20 s.scu.storeFull, fillIgnored := f 21 s.scu.fillIgnored, fillFailures := f 22 s.scu.fillFailures }
    cmp := { s.cmp with eventsLost := f 23 s.cmp.eventsLost } }

/-- READ COUNTERS completes with DONE: the counters lose what was recorded, and a DMA error record that was filled then is
emptied with its more flag (R194). -/
def State.settleCounters (image : List Byte) (s : State) : State :=
  let s := s.subtractCounters (recordedCounters image)
  if rd image 96 1 = 1 then s.onCmp fun c => { c with dmaErr := none, dmaMore := false } else s

end Sys2Proof.Machine
end

