-- ==== Sys2Proof/Machine/PortOps.lean ====
section
/-! DEFINITION. The Command Port's operations: queue setup, write-backs, image writes and the failures of DMA transfers
(R187 to R198). -/

namespace Sys2Proof.Machine

/-! ## Queue setup (R187) -/

/-- A queue's base, size and run flag. -/
def Cmp.setup (c : Cmp) : QueueId → Nat × Nat × Bool
  | .cmd q => let x := c.q q; (x.base, x.size, x.run)
  | .event => (c.event.base, c.event.size, c.event.run)

/-- The setup of a queue is valid (R187). -/
def setupValid (q : QueueId) (base size : Nat) : Bool :=
  match q with
  | .cmd .urgent => decide (8 ≤ size) && decide (size ≤ 64) && base % 64 == 0
  | .cmd .normal => decide (8 ≤ size) && decide (size ≤ 256) && base % 64 == 0
  | .event => decide (16 ≤ size) && decide (size ≤ 1024) && base % 32 == 0

/-- A setup write to a queue is taken now (R187). -/
def Cmp.takesSetup (q : QueueId) (c : Cmp) : Bool :=
  c.urgent.empty && c.urgent.stopped && c.normal.empty && c.normal.stopped &&
    (q != .event || (!c.event.run && !c.event.writing))

/-- A queue with a new base and size, its head and tail 0 (R187). -/
def Cmp.setSetup (q : QueueId) (base size : Nat) (c : Cmp) : Cmp :=
  match q with
  | .cmd k => c.setQ k { c.q k with base := base, size := size, head := 0, tail := 0, waitTail := false }
  | .event => { c with event := { c.event with base := base, size := size, head := 0, tail := 0 } }

/-- A queue with its run flag. -/
def Cmp.setRun (q : QueueId) (run : Bool) (c : Cmp) : Cmp :=
  match q with
  | .cmd k => c.setQ k { c.q k with run := run }
  | .event => { c with event := { c.event with run := run } }

/-- The run flag of a queue is set: a validly set up queue starts, and a port that becomes ready after a loss of the host
link ends it (R187, R200). -/
def State.setRunFlag (q : QueueId) (s : State) : State :=
  let x := s.cmp.setup q
  if setupValid q x.1 x.2.1 then
    let s := s.onCmp (Cmp.setRun q true)
    if s.portReady && s.tu.noticeHeld then s.portBecameReady else s
  else s

/-! ## Completions (R189, R193) -/

/-- The image of a READ command is written, or the command refused for a short buffer (R193). -/
def State.startImage (addr len : Nat) (image : List Byte) (s : State) : State :=
  if len < image.length then s.result .normal .refusedValue
  else (s.issueWrite .imageWrite .normal addr [(addr, image)]).setWorking

/-- A read that a command of the normal queue waits for is issued (R189). -/
def State.startRead (purpose : Purpose) (addr len : Nat) (s : State) : State :=
  (s.issueRead purpose .normal addr len).setWorking

/-- A DMA transfer of the command in flight failed: FAILED, with the kind as detail (10.3). -/
def State.failCommand (kind : DmaKind) (s : State) : State := s.complete .normal .failed kind.code

/-- The command in flight of a queue is ended by its write-back; a WARM RESET then takes effect (R189, R192). -/
def State.endCommand (q : CmdQueue) (s : State) : State :=
  let reset := (s.cmp.q q).inFlight.any fun f => f.cmd == .warmReset
  let s := s.onQ q fun x => { x with inFlight := none }
  if reset && q == .normal then s.warmReset else s

/-- READ TRIP TABLE completes: an outstanding notice is closed, and changes pending post a new one (R158). A notice that a
change between image and completion posted at once is closed here too: DESIGN CHOICE (log 78). -/
def State.closeNotice (s : State) : State :=
  if s.tu.noticeOut then
    let s' := s.onTu fun u => { u with noticeOut := false, changesPending := false }
    if s.tu.changesPending then s'.postNotice else s'
  else s

/-- The image write of the command in flight completed (R158, R193, R194). -/
def State.imageWritten (image : List Byte) (s : State) : State :=
  match s.working with
  | some (.readCounters _ _) => (s.result .normal .done).settleCounters image
  | some (.readTripTable _ _) => (s.result .normal .done).closeNotice
  | _ => s.result .normal .done

/-- The first event awaiting its write is done with; the next one is written (R195). -/
def State.nextEvent (s : State) : State :=
  (s.onCmp fun c => { c with event := { c.event with awaiting := c.event.awaiting.drop 1, writing := false } }).pumpEvents

/-- The bytes a transfer writes. -/
def Transfer.written (t : Transfer) : List Byte := t.segs.flatMap (·.2)

/-- An event record's write completed: the lost count the record carried is taken off the pending one, and the tail steps,
with an interrupt when the queue held no unread record before it (R195, R196; log 55). -/
def State.eventWritten (t : Transfer) (s : State) : State :=
  (s.onCmp fun c =>
    { c with
      lostPending := c.lostPending - rd t.written 2 2
      event := { c.event with tail := (c.event.tail + 1) % c.event.size }
      interrupts := if c.event.unread = 0 then c.interrupts + 1 else c.interrupts }).nextEvent

/-! ## Failures (R197, R198) -/

/-- The command queue a transfer served. -/
def Transfer.queue (t : Transfer) : CmdQueue := if t.unit = .urgent then .urgent else .normal

/-- A transfer failed: its owner handles the failure by its own rule, and the failure is entered (R197, R198). -/
def State.failTransfer (t : Transfer) (kind : DmaKind) (s : State) : State :=
  match t.purpose with
  | .descriptorRead => (s.onQ t.queue fun q => { q with run := false, fetching := false }).enterDmaError t kind
  | .resultWriteback => (s.enterDmaError t kind).endCommand t.queue
  | .configRead | .markTableRead | .pageMapRead | .publishListRead | .imageWrite =>
      (s.enterDmaError t kind).failCommand kind
  | .tileRead => ((s.onScu fun c => { c with pub := none }).enterDmaError t kind).failCommand kind
  | .mapEntryRead =>
    match t.unit with
    | .camera i => s.stripTransferFailed i t kind
    | .urgent | .normal | .event => s.enterDmaError t kind
  | .stripWrite =>
    match t.unit with
    | .camera i => (s.stripTransferFailed i t kind).finishConfigure
    | .urgent | .normal | .event => s.enterDmaError t kind
  | .eventWrite => ((s.enterDmaError t kind).loseEvent).nextEvent

/-- Take the transfer of a purpose and unit that can come back next out of flight and go on with it; with none, nothing
happens (R197). -/
def State.withTransfer (purpose : Purpose) (unit : DmaUnit) (f : Transfer → State → State) (s : State) : State :=
  match s.cmp.ready purpose unit with
  | some t => f t (s.dropDma (Transfer.isOf purpose unit))
  | none => s

/-- A read of a purpose came back: its data go to `f`, an error completion is a failure (R197). -/
def State.withReply (purpose : Purpose) (unit : DmaUnit) (reply : DmaReply) (f : Transfer → List Byte → State → State)
    (s : State) : State :=
  s.withTransfer purpose unit fun t s =>
    match reply with
    | .data bytes => f t bytes s
    | .error => s.failTransfer t .errorCompletion

/-- A write of a purpose came back: it completed, or it failed (R197). The kind of such a failure is error completion: DESIGN
CHOICE (log 105). -/
def State.withWrite (purpose : Purpose) (unit : DmaUnit) (ok : Bool) (f : Transfer → State → State) (s : State) : State :=
  s.withTransfer purpose unit fun t s =>
    if ok then f t s else s.failTransfer t .errorCompletion

/-! ## Descriptors (R188, R189) -/

/-- A descriptor read came back (R188, R189). A queue whose run flag was cleared meanwhile takes nothing (log 32). -/
def State.takeDescriptor (q : CmdQueue) (d : List Byte) (s : State) : State :=
  let x := s.cmp.q q
  let s := s.onQ q fun y => { y with fetching := false }
  if !x.run then s
  else if !ownerPart d then s.onQ q fun y => { y with waitTail := true }
  else
    let cmd := decodeCommand d
    let s := s.onQ q fun y =>
      { y with inFlight := some { index := y.head, cmd := cmd, phase := .taken }, head := (y.head + 1) % y.size }
    match cmd.queue with
    | none => s.result q .unknown
    | some k => if k = q then s else s.result q .refusedQueue

/-- A running command queue has a pending descriptor, no command in flight, and nothing keeps it from reading (R188). -/
def CmdQ.canFetch (x : CmdQ) : Bool := x.run && x.head != x.tail && x.inFlight.isNone && !x.fetching && !x.waitTail

end Sys2Proof.Machine
end

