-- ==== Sys2Proof/Machine/AxisCommands.lean ====
section
/-! DEFINITION. The steps of the axes and drive lines: answers and their windows, Correction copies, and the axis commands
(R73, R77 to R83, R85, R86, R91 to R94). -/

namespace Sys2Proof.Machine

/-! ## Drive answers (R91 to R94) -/

/-- The fields of a drive's answer with the actual position as sent (R91). The window closes at it, so that a second answer
to one message finds none and is dropped: DESIGN CHOICE (log 64). -/
def Axis.takeAnswer (c : AxisCfg) (x : Answer) (a : Axis) : Axis :=
  { a with window := none, last := some { x with actual := x.actual % c.m }, answered := true, missed := 0 }

/-- The magnitude of the following error of an answer (R93). -/
def followingError (c : AxisCfg) (setpoint actual : Nat) : Nat :=
  let d := subMod setpoint (actual % c.m) c.m
  if c.m ≤ 2 * d then c.m - d else d

/-- The following count after an answer taken while energised (R93). -/
def Axis.watchFollowing (c : AxisCfg) (setpoint : Nat) (x : Answer) (a : Axis) : Axis :=
  if !x.torqueOn then a
  else if c.followLimit < followingError c setpoint x.actual then { a with following := min (a.following + 1) 2 }
  else { a with following := 0 }

/-- An axis enters TORQUE_OFF for a drive-line reason, and the cause is reported (R92 to R94). -/
def State.driveTrip (reason : AxisReason) (cause : Nat) (i : Fin 4) (s : State) : State :=
  (s.enterTorqueOff reason i).reportTrue cause i.val

/-- What an answer taken while the axis is energised leads to (R93, R94; log 48), a following error before a fault: DESIGN
CHOICE (log 107). -/
def State.judgeAnswer (c : AxisCfg) (setpoint : Nat) (x : Answer) (i : Fin 4) (s : State) : State :=
  let s := s.onAxis i (Axis.watchFollowing c setpoint x)
  let s := if (s.axis i).following = 2 then s.driveTrip .followingError 13 i else s
  if x.fault then s.driveTrip .driveFault 14 i else s

/-- An answer taken (R91, R93, R94). -/
def State.answer (c : AxisCfg) (setpoint : Nat) (x : Answer) (i : Fin 4) (s : State) : State :=
  let energised := (s.axis i).state.energised
  let s := s.onAxis i (Axis.takeAnswer c x)
  if energised then s.judgeAnswer c setpoint x i else s

/-- DRIVE_ANSWER: a drive's answer arrives; it is taken within the window and with the sequence of the message (R91). -/
def execDriveAnswer (t : Nat) (axis : Fin 4) (sequence : Nat) (ready torqueOn fault : Bool) (actual : Nat) (s : State) :
    Answered :=
  let s := s.atTime t
  .next
    (match (s.axis axis).window, s.axisCfg axis with
      | some w, some c =>
          if sequence = (s.axis axis).driveSeq ∧ s.now ≤ w.closes then
            s.answer c w.setpoint { ready := ready, torqueOn := torqueOn, fault := fault, actual := actual } axis
          else s
      | _, _ => s)

/-- The record when its window closes without an answer (R92). -/
def Axis.missAnswer (a : Axis) : Axis := { a with window := none, answered := false, missed := min (a.missed + 1) 15 }

/-- The window of an axis closes without an answer (R92). -/
def State.closeWindow (c : AxisCfg) (i : Fin 4) (s : State) : State :=
  let s := (s.onAxis i Axis.missAnswer).onAu fun u => { u with missedAnswers := bump u.missedAnswers }
  if (s.axis i).state.energised ∧ c.silentLimit ≤ (s.axis i).missed then s.driveTrip .driveLineSilent 15 i else s

/-- ANSWER_WINDOW_CLOSE: 50 µs have passed since the Setpoint message without an answer taken (R92). -/
def execAnswerWindowClose (axis : Fin 4) (s : State) : Answered :=
  .next
    (match (s.axis axis).window, s.axisCfg axis with
      | some w, some c => (s.atTime w.closes).closeWindow c axis
      | _, _ => s)

/-- CORRECTION_COPY: the Axis Unit takes the Correction frame copy handed on first (R85). -/
def execCorrectionCopy (s : State) : Answered :=
  .next
    (match s.inAu with
      | [] => s
      | c :: rest =>
          let s := { s with inAu := rest }
          match parseCorrection c.payload with
          | some p => s.takeCorrection p.1 p.2
          | none => s)

/-! ## The axis commands (R73, R77 to R86) -/

/-- An axis command: a number outside 0 to 3 is refused with REFUSED_VALUE, an axis in DISABLED with REFUSED_STATE (R73). -/
def State.axisCommand (axis : Nat) (f : Fin 4 → AxisCfg → State → State) (s : State) : State :=
  match fin4? axis with
  | none => s.result .urgent .refusedValue
  | some i =>
    match s.axisCfg i with
    | none => s.result .urgent .refusedState
    | some c => if (s.axis i).state = .disabled then s.result .urgent .refusedState else f i c s

/-- The last answer lets an ENABLE AXIS be taken (R77). -/
def Axis.driveReady (a : Axis) : Bool := a.answered && a.last.any fun x => x.ready && !x.fault

/-- The record of an axis that is enabled (R77). -/
def Axis.enable (a : Axis) : Axis :=
  { a with
    state := .decoupled, p := 256 * ((a.last.map (·.actual)).getD 0), v := 0, jogTarget := 0, trimPending := 0
    trimApplied := 0, following := 0 }

/-- The axis is enabled, and its causes 13, 14 and 15 are reported false (R77). -/
def State.enableAxis (i : Fin 4) (s : State) : State :=
  (((s.changeAxis i Axis.enable .command).reportFalse 13 i.val).reportFalse 14 i.val).reportFalse 15 i.val

/-- ENABLE AXIS (R77). -/
def execEnableAxis (s : State) : Answered :=
  .next
    (match s.taken .urgent with
      | some (.enableAxis axis) =>
          s.axisCommand axis fun i _ s =>
            if s.mc.link = .leaving ∨ (s.axis i).state ≠ .torqueOff then s.result .urgent .refusedState
            else if s.pins.eStop ∨ s.torqueOffHeld then s.result .urgent .refusedTrip
            else if !(s.axis i).driveReady then s.result .urgent .refusedState
            else (s.enableAxis i).result .urgent .done
      | _ => s)

/-- DISABLE AXIS (R78). -/
def execDisableAxis (s : State) : Answered :=
  .next
    (match s.taken .urgent with
      | some (.disableAxis axis) =>
          s.axisCommand axis fun i _ s => (s.enterTorqueOff .command i).result .urgent .done
      | _ => s)

/-- The line angle from which the next tick goes on: that of the end of the tick in progress (log 9). -/
def Su.comingAngle (u : Su) : Nat := if u.inTick then u.next.angle else u.line.angle

/-- The record of an axis that enters COUPLING (R80). -/
def Axis.couple (c : AxisCfg) (phase angle : Nat) (a : Axis) : Axis :=
  { a with state := .coupling, phase := phase, rmd := directRmd c angle, v := 0, jogTarget := 0 }

/-- COUPLE AXIS (R80). -/
def execCoupleAxis (s : State) : Answered :=
  .next
    (match s.taken .urgent with
      | some (.coupleAxis axis phase) =>
          s.axisCommand axis fun i c s =>
            if (s.axis i).state ≠ .decoupled then s.result .urgent .refusedState
            else if c.m ≤ phase then s.result .urgent .refusedValue
            else if s.effectiveStop ≠ .none then s.result .urgent .refusedTrip
            else (s.changeAxis i (Axis.couple c phase s.su.comingAngle) .command).result .urgent .done
      | _ => s)

/-- DECOUPLE AXIS, immediate (mode 0) or at the revolution boundary (mode 1) (R83; another mode: R203). -/
def execDecoupleAxis (s : State) : Answered :=
  .next
    (match s.taken .urgent with
      | some (.decoupleAxis axis mode) =>
          if 1 < mode then s.result .urgent .refusedValue
          else s.axisCommand axis fun i c s =>
            if !(s.axis i).state.onLine then s.result .urgent .refusedState
            else if mode = 0 then
              (s.changeAxis i (Axis.decouple c s.su.line.speed) .command).result .urgent .done
            else (s.onAxis i fun a => { a with decouplePending := true }).result .urgent .done
      | _ => s)

/-- JOG AXIS (R79). -/
def execJogAxis (s : State) : Answered :=
  .next
    (match s.taken .urgent with
      | some (.jogAxis axis target) =>
          s.axisCommand axis fun i c s =>
            if (s.axis i).state ≠ .decoupled then s.result .urgent .refusedState
            else if 0 < target ∧ s.effectiveStop ≠ .none then s.result .urgent .refusedTrip
            else
              (s.onAxis i fun a => { a with jogTarget := min target c.maxSpeed }).result .urgent
                (if c.maxSpeed < target then .clamped else .done)
      | _ => s)

/-- TRIM AXIS (R85, R86). -/
def execTrimAxis (s : State) : Answered :=
  .next
    (match s.taken .urgent with
      | some (.trimAxis axis amount) =>
          s.axisCommand axis fun i _ s =>
            if (s.axis i).state ≠ .coupled then s.result .urgent .refusedState
            else
              (s.onAxis i (Axis.addTrim amount)).result .urgent
                (if (s.axis i).trimLost amount then .clamped else .done)
      | _ => s)

end Sys2Proof.Machine
end

