-- ==== Sys2Proof/Machine/CameraCommands.lean ====
section
/-! DEFINITION. The steps of the web cameras and image strips: triggers, camera lines, strip writes and the strip commands
(R101 to R114). -/

namespace Sys2Proof.Machine

/-- TRIGGER_DUE: the next due position of the tick in progress has come (R101). -/
def execTriggerDue (cam : Fin 4) (s : State) : Answered := .next (s.triggerDue cam)

/-- The tag of a good line: that of its entry, with the partial flag of the line (R103, R105). -/
def LineTag.arrived (c : CamCfg) (pixels : List Byte) (t : LineTag) : LineTag :=
  { t with isPartial := pixels.length != c.width }

/-- A good line is handed to the Mark Unit, the Screen Unit, the web-break watch and the strip filler (R103). That they act
in this order is DESIGN CHOICE (log 77). -/
def State.goodLine (i : Fin 4) (c : CamCfg) (tag : LineTag) (pixels : List Byte) (s : State) : State :=
  (((s.markLine i c tag pixels).viewersTake i tag pixels).judgeWeb i c pixels).fillStrip i c tag pixels

/-- The entry of a trigger number leaves the trigger list, and the camera is not missing (R103). -/
def State.takeEntry (i : Fin 4) (number : Nat) (s : State) : State :=
  (s.onCam i fun x =>
    { x with trigs := x.trigs.eraseP fun e => e.number == number, missing := 0 }).reportFalse 18 i.val

/-- CAMERA_LINE: a camera's line arrives with its trigger number and pixels (R103). -/
def execCameraLine (t : Nat) (cam : Fin 4) (number : Nat) (pixels : List Byte) (s : State) : Answered :=
  let s := s.atTime t
  .next
    (match s.camCfg cam, (s.cam cam).trigs.find? fun e => e.number == number with
      | some c, some e =>
          (s.takeEntry cam number).goodLine cam c (e.tag.arrived c pixels) (padTo c.width pixels)
      | _, _ => s)

/-- The oldest entry of a trigger list is missing (R104). -/
def State.missLine (i : Fin 4) (s : State) : State :=
  let s := (s.onCu fun u => { u with missingLines := bump u.missingLines }).onCam i fun x =>
    { x with trigs := x.trigs.drop 1, missing := min (x.missing + 1) 16 }
  if (s.cam i).missing = 16 then s.reportTrue 18 i.val else s

/-- TRIGGER_TIMEOUT: a trigger was sent 100 µs ago without a line taken (R104). -/
def execTriggerTimeout (t : Nat) (cam : Fin 4) (s : State) : Answered :=
  let s := s.atTime t
  .next
    (match (s.cam cam).trigs with
      | [] => s
      | e :: _ => if e.sent + 100000 ≤ s.now then s.missLine cam else s)

/-- MAP_ENTRY_READ_COMPLETE: a read of a map entry comes back (R112, R113, R114). -/
def execMapEntryReadComplete (t : Nat) (cam : Fin 4) (reply : DmaReply) (s : State) : Answered :=
  .next ((s.atTime t).withReply .mapEntryRead (.camera cam) reply (State.mapEntryRead cam))

/-- STRIP_WRITE_COMPLETE: a write of a strip comes back (R110, R114); it may be the last that a configuration waits for
(R115). -/
def execStripWriteComplete (t : Nat) (cam : Fin 4) (ok : Bool) (s : State) : Answered :=
  .next ((s.atTime t).withWrite .stripWrite (.camera cam) ok fun x s => (s.stripWritten cam x).finishConfigure)

/-- A part-owned buffer with no line written (R108). -/
def StripBuf.given (addr size : Nat) : StripBuf :=
  { StripBuf.hostOwned with partOwned := true, addr := addr, size := size }

/-- The last three checks of GIVE STRIP BUFFER (R108). -/
def stripFits (c : CamCfg) (addr size : Nat) : Bool :=
  addr % 8192 == 0 && decide (c.height * (8 + stripWidth c) ≤ size) && decide (addr + size ≤ 33554432)

/-- GIVE STRIP BUFFER (R108; a buffer code outside its table: R203). -/
def execGiveStripBuffer (s : State) : Answered :=
  .next
    (match s.taken .normal with
      | some (.giveStripBuffer cam buffer addr size) =>
          match fin4? cam, halfOfCode buffer with
          | some i, some h =>
            match s.camCfg i with
            | none => s.result .normal .refusedState
            | some c =>
              if ((s.cam i).buf h).partOwned then s.result .normal .refusedState
              else if !stripFits c addr size then s.result .normal .refusedValue
              else (s.onCam i fun x => x.onBuf h fun _ => StripBuf.given addr size).result .normal .done
          | _, _ => s.result .normal .refusedValue
      | _ => s)

/-- INVALIDATE MAP CACHE (R113). -/
def execInvalidateMapCache (s : State) : Answered :=
  .next
    (match s.taken .normal with
      | some .invalidateMapCache => (s.onCu fun u => { u with invalidate := true }).result .normal .done
      | _ => s)

end Sys2Proof.Machine
end

