-- ==== Sys2Proof/Machine/InputCommands.lean ====
section
/-! DEFINITION. The steps of the cabinet's inputs: e-stop, guard, external trips and the panel stop key (R90, R134, R136,
R161). -/

namespace Sys2Proof.Machine

/-- E_STOP_ASSERTED: the direct path holds the outputs, every energised axis enters TORQUE_OFF, and cause 0 is true (R90,
R136). -/
def execEStopAsserted (t : Nat) (s : State) : Answered :=
  let s := s.atTime t
  .next
    (if s.pins.eStop then s
    else ((s.onPins fun p => { p with eStop := true }).torqueOffAll .eStop).reportTrue 0 0)

/-- E_STOP_RELEASED: the outputs follow their axes again, and cause 0 is false (R90, R136). -/
def execEStopReleased (t : Nat) (s : State) : Answered :=
  let s := s.atTime t
  .next (if s.pins.eStop then (s.onPins fun p => { p with eStop := false }).reportFalse 0 0 else s)

/-- The level of a trip input (R136). -/
def Pins.trip (p : Pins) : TripInput → Bool
  | .guard => p.guard
  | .ext n => p.ext.get n

/-- The inputs with a trip input at a level. -/
def Pins.setTrip (p : Pins) (input : TripInput) (b : Bool) : Pins :=
  match input with
  | .guard => { p with guard := b }
  | .ext n => { p with ext := p.ext.set n b }

/-- The cause a trip input drives: 1 for the guard, 1 + n for external input n (R136). -/
def tripInputCause : TripInput → Nat
  | .guard => 1
  | .ext n => n.val + 2

/-- TRIP_INPUT_CHANGE: the guard or an external trip input changes its level (R136). -/
def execTripInputChange (t : Nat) (input : TripInput) (asserted : Bool) (s : State) : Answered :=
  let s := s.atTime t
  .next
    (if s.pins.trip input = asserted then s
    else (s.onPins fun p => p.setTrip input asserted).report (tripInputCause input) 0 asserted)

/-- PANEL_STOP_KEY: the key is held or let go, whatever the screen setting (R134, R161). -/
def execPanelStopKey (t : Nat) (held : Bool) (s : State) : Answered :=
  let s := s.atTime t
  .next (if s.pins.stopKey = held then s else (s.onPins fun p => { p with stopKey := held }).report 20 0 held)

end Sys2Proof.Machine
end

