-- ==== Sys2Proof/Machine/MemberCommands.lean ====
section
/-! DEFINITION. The steps of station membership: the light check, insertion, roster beats, Hello copies, removal, JOIN and
LEAVE (R26 to R42). -/

namespace Sys2Proof.Machine

/-! ## The light check (R29 to R31) -/

/-- More than 20 µs have passed since the last block of the attempt was sent (R29 step 3). -/
def State.blocksLate (s : State) : Bool := s.mc.check.lockAt.any fun l => decide (l + checkTime s.repeats < s.now)

/-- A test block came back: it is in error when it differs, is not framed, or comes too late (R29 step 3). -/
def State.takeBlock (bytes : List Byte) (framed : Bool) (s : State) : State :=
  s.countBlock (!framed || bytes != testBlock s.mc.attempt s.mc.check.returned || s.blocksLate)

/-- TEST_BLOCK_RETURN: a test block has come back whole or damaged, and is compared with the block sent (R29). -/
def execTestBlockReturn (t : Nat) (bytes : List Byte) (framed : Bool) (s : State) : Answered :=
  let s := s.atTime t
  .next
    (if s.takesBlocks then s.takeBlock bytes framed else s)

/-- LIGHT_CHECK_LOCK_TIMEOUT: 1 ms of an attempt without lock fails it with all blocks in error (R29, R30). -/
def execLightCheckLockTimeout (t : Nat) (s : State) : Answered :=
  let s := s.atTime t
  .next
    (if s.mc.link = .lightCheck ∧ s.mc.check.lockAt = none ∧ s.mc.check.start + 1000000 ≤ s.now then
      s.endAttempt s.repeats
    else s)

/-- Every block is back, or 20 µs have passed since the last one was sent (R29). -/
def State.attemptOver (s : State) : Bool :=
  match s.mc.check.lockAt with
  | some l => s.mc.check.returned == s.repeats || decide (l + checkTime s.repeats ≤ s.now)
  | none => false

/-- LIGHT_CHECK_ATTEMPT_END: the attempt ends; a block not back counts in error (R29, R30). -/
def execLightCheckAttemptEnd (t : Nat) (s : State) : Answered :=
  let s := s.atTime t
  .next
    (if s.mc.link = .lightCheck ∧ s.attemptOver then
      s.endAttempt (s.mc.check.errors + (s.repeats - s.mc.check.returned))
    else s)

/-- A timer has run out. -/
def timerOut (now : Nat) (timer : Option Nat) : Bool := timer.any fun d => decide (d ≤ now)

/-- INSERTION_TIMEOUT: 10 ms in INSERTING without lock (R31). -/
def execInsertionTimeout (t : Nat) (s : State) : Answered :=
  let s := s.atTime t
  .next
    (if s.mc.link = .inserting ∧ timerOut s.now s.mc.insTimer then s.changeLink .bypassed .noUpstreamLight 0 0 else s)

/-! ## Leaving (R37, R38) -/

/-- LEAVE_TIMEOUT: 10 ms in LEAVING (R38). -/
def execLeaveTimeout (t : Nat) (s : State) : Answered :=
  let s := s.atTime t
  .next (if s.mc.link = .leaving ∧ timerOut s.now s.mc.leaveTimer then s.changeLink .bypassed .left 0 0 else s)

/-- A Hello frame. -/
def LaneFrame.isHello (f : LaneFrame) : Bool := f.kind == .hello

/-- A frame launched from the urgent lane is being sent. -/
def Tx.sendsUrgent : Tx → Bool
  | .own .urgent _ _ _ _ => true
  | .own .bulk _ _ _ _ | .idle | .abortDelim | .test _ _ | .forward _ => false

/-- A Hello of the station is being sent. -/
def Tx.sendsHello : Tx → Bool
  | .own _ k _ _ _ => k == .hello
  | .idle | .abortDelim | .test _ _ | .forward _ => false

/-- The drain is complete (R38). -/
def Rp.drained (r : Rp) : Bool :=
  r.urgent.isEmpty && !r.tx.sendsUrgent && !r.tx.sendsHello && !r.bulk.any LaneFrame.isHello &&
    !r.held.any LaneFrame.isHello

/-- DRAIN_COMPLETE: the urgent lane is drained and the Hello (leaving) sent (R38). -/
def execDrainComplete (t : Nat) (s : State) : Answered :=
  let s := s.atTime t
  .next (if s.mc.link = .leaving ∧ s.rp.drained then s.changeLink .bypassed .left 0 0 else s)

/-! ## Hello copies (R35, R36, R40) -/

/-- HELLO_COPY: the Membership Controller takes the Hello copy handed on first. -/
def execHelloCopy (s : State) : Answered :=
  .next
    (match s.inMc with
      | [] => s
      | c :: rest => State.takeHello c { s with inMc := rest })

/-! ## Roster beats (R23, R32 to R34, R36, R41, R143, R149, R183) -/

/-- The silence of every present entry but the own one steps (R41). -/
def State.stepSilences (s : State) : State :=
  if s.mc.link.inRing then
    s.onMc fun m =>
      { m with roster := m.roster.mapIdx fun i r =>
          if r.present && i + 1 != s.ownStation then { r with silence := min (r.silence + 1) 4 } else r }
  else s

/-- The quiet count of the duplicate watch steps in MEMBER while cause 9 detail 1 is true (R36). It stands in LEAVING: DESIGN
CHOICE (log 83). -/
def State.stepDuplicate (s : State) : State :=
  if s.mc.link = .member ∧ s.causeTrue 9 1 then
    s.onMc fun m => { m with dupQuiet := if m.dupHeard then 0 else min (m.dupQuiet + 1) 4, dupHeard := false }
  else s.onMc fun m => { m with dupHeard := false }

/-- A roster-beat start since the entry into MEMBER (R65). -/
def State.countSinceMember (s : State) : State :=
  s.onSu fun u => { u with rosterSinceMember := min (u.rosterSinceMember + 1) 3 }

/-- The listen count in LISTEN, and the Hello of the roster-beat start; with the third start of LISTEN the Hello comes with
the entry into MEMBER (R32, R34). A roster-beat start since the entry into MEMBER is counted for R65, in LEAVING too. -/
def State.stepListen (s : State) : State :=
  match s.mc.link with
  | .listen =>
      let s := s.onMc fun m => { m with listen := min (m.listen + 1) 3 }
      if s.mc.listen < 3 then s.offerHello else s
  | .member => s.countSinceMember.offerHello
  | .leaving => s.countSinceMember
  | .dark | .lightCheck | .inserting | .bypassed => s

/-- ROSTER_BEAT_START: what each block does at a beat start whose number is a multiple of 8, in the order of the table of
steps (log 56). -/
def execRosterBeatStart (s : State) : Answered :=
  .next
    (if s.su.rosterDue then
      let s := s.onSu fun u => { u with rosterDue := false }
      ((((s.stepSilences.rollErrorWindow.stepDuplicate).stepQuiet).stepListen).offerRefreshes).repeatViews
    else s)

/-- The stations of the required set but the own one that are not present (R33), in rising order, in which cause 8 is reported
for them: DESIGN CHOICE (log 95). -/
def State.missingRequired (s : State) : List Nat :=
  ((List.range 31).map (· + 1)).filter fun n =>
    ((s.cfg.map Cfg.required).getD 0).getLsbD n && n != s.ownStation && !s.isPresent n

/-- ENTER_MEMBER: the listen count is 3 (R32, R33). -/
def execEnterMember (s : State) : Answered :=
  .next
    (if s.mc.link = .listen ∧ s.mc.listen = 3 then
      let s := s.changeLink .member .none 0 0
      (s.missingRequired.foldl (fun x n => x.reportTrue 8 n) s).offerHello
    else s)

/-- SILENCE_REMOVAL: an entry's silence has reached 4 (R41, R42). -/
def execSilenceRemoval (station : Nat) (s : State) : Answered :=
  .next
    (if s.mc.link.inRing then s.removeSilent station else s)

/-- DUPLICATE_QUIET: four roster beats without a foreign Hello of the own number (R36). -/
def execDuplicateQuiet (s : State) : Answered := .next s.endDuplicate

/-! ## JOIN and LEAVE (R28, R37) -/

/-- What a JOIN that is taken does before its DONE (R28 steps 1 to 3). -/
def State.beginJoin (s : State) : State :=
  let s := s.onMc fun m => { m with joinStamp := m.ticks, attempt := 1, reason := .none }
  (s.changeLink .lightCheck .none 1 0).startAttempt

/-- JOIN (R28). -/
def execJoin (s : State) : Answered :=
  .next
    (match s.taken .normal with
      | some .join =>
          if s.mc.link.isOut ∧ s.cfg.isSome then s.beginJoin.result .normal .done
          else s.result .normal .refusedState
      | _ => s)

/-- What a LEAVE that is taken does before its DONE (R37 steps 1 to 3). -/
def State.beginLeave (s : State) : State :=
  (s.changeLink .leaving .none 0 0).offerHello.onMc fun m => { m with leaveTimer := some (s.now + 10000000) }

/-- LEAVE (R37). -/
def execLeave (s : State) : Answered :=
  .next
    (match s.taken .normal with
      | some .leave =>
          if s.mc.link = .member ∧ !s.au.axes.any (fun a => a.state.energised) then s.beginLeave.result .normal .done
          else s.result .normal .refusedState
      | _ => s)

end Sys2Proof.Machine
end

