-- ==== Sys2Proof/Machine/PortCommands.lean ====
section
/-! DEFINITION. The steps of the Command Port: the target window, descriptors, completions of DMA, CONFIGURE, WARM RESET and
the READ commands (R186 to R198). -/

namespace Sys2Proof.Machine

/-! ## The target window (R186, R187, R196) -/

/-- A setup write of a base and size (R187). -/
def State.setupWrite (q : QueueId) (base size : Nat) (s : State) : State :=
  if s.cmp.takesSetup q then s.onCmp (Cmp.setSetup q base size) else s

/-- QUEUE_BASE_WRITE (R187). -/
def execQueueBaseWrite (t : Nat) (q : QueueId) (value : Nat) (s : State) : Answered :=
  let s := s.atTime t
  .next (s.setupWrite q value (s.cmp.setup q).2.1)

/-- The run flag of a queue takes a value written to it (R187). -/
def State.writeRun (q : QueueId) (run : Bool) (s : State) : State :=
  if run = (s.cmp.setup q).2.2 then s else if run then s.setRunFlag q else s.onCmp (Cmp.setRun q false)

/-- A size word written: a new number of entries is a setup write, and its run flag is taken with it; the number of entries
left as it is, the write changes the run flag alone (R187; log 33). -/
def State.sizeWrite (q : QueueId) (size : Nat) (run : Bool) (s : State) : State :=
  if size = (s.cmp.setup q).2.1 then s.writeRun q run
  else if s.cmp.takesSetup q then (s.onCmp (Cmp.setSetup q (s.cmp.setup q).1 size)).writeRun q run
  else s

/-- QUEUE_SIZE_WRITE (R187). -/
def execQueueSizeWrite (t : Nat) (q : QueueId) (word : Nat) (s : State) : Answered :=
  .next ((s.atTime t).sizeWrite q (word % 65536) (word.testBit 31))

/-- QUEUE_RUN_SET (R187, R200). -/
def execQueueRunSet (t : Nat) (q : QueueId) (s : State) : Answered := .next ((s.atTime t).writeRun q true)

/-- QUEUE_RUN_CLEAR (R187). -/
def execQueueRunClear (t : Nat) (q : QueueId) (s : State) : Answered := .next ((s.atTime t).writeRun q false)

/-- COMMAND_TAIL_WRITE (R187, R188). -/
def execCommandTailWrite (t : Nat) (q : CmdQueue) (value : Nat) (s : State) : Answered :=
  let s := s.atTime t
  let x := s.cmp.q q
  .next (if x.run ∧ value < x.size then s.onQ q fun y => { y with tail := value, waitTail := false } else s)

/-- An event head write is taken: it moves the head forward by no more than the unread records (R187, R196). -/
def EvQ.takesHead (value : Nat) (q : EvQ) : Bool :=
  q.run && decide (value < q.size) && decide (subMod value q.head q.size ≤ q.unread)

/-- EVENT_HEAD_WRITE (R196). -/
def execEventHeadWrite (t : Nat) (value : Nat) (s : State) : Answered :=
  let s := s.atTime t
  .next
    (if s.cmp.event.takesHead value then s.onCmp fun c => { c with event := { c.event with head := value } } else s)

/-- WINDOW_WRITE_IGNORED: a write to a read-only word or to an offset not in the table (R186). -/
def execWindowWriteIgnored (t _offset _value : Nat) (s : State) : Answered := .next (s.atTime t)

/-! ## Descriptors (R188, R189) -/

/-- DESCRIPTOR_FETCH: the descriptor at the head of a queue is read (R188). -/
def execDescriptorFetch (t : Nat) (q : CmdQueue) (s : State) : Answered :=
  let s := s.atTime t
  let x := s.cmp.q q
  .next
    (if x.canFetch then
      (s.issueRead .descriptorRead (queueUnit q) (x.base + 64 * x.head) 64).onQ q fun y => { y with fetching := true }
    else s)

/-- DESCRIPTOR_READ_COMPLETE (R188, R189). -/
def execDescriptorReadComplete (t : Nat) (q : CmdQueue) (reply : DmaReply) (s : State) : Answered :=
  .next ((s.atTime t).withReply .descriptorRead (queueUnit q) reply fun _ d s => s.takeDescriptor q d)

/-- WRITEBACK_COMPLETE (R189, R192). -/
def execWritebackComplete (t : Nat) (q : CmdQueue) (ok : Bool) (s : State) : Answered :=
  .next ((s.atTime t).withWrite .resultWriteback (queueUnit q) ok fun _ s => s.endCommand q)

/-! ## CONFIGURE and WARM RESET (R190 to R192) -/

/-- CONFIGURE, up to its read of the block (R190 steps 1 to 3). -/
def execConfigure (s : State) : Answered :=
  .next
    (match s.taken .normal with
      | some (.configure addr len) =>
          if !s.mc.link.isOut then s.result .normal .refusedState
          else if len < 512 then s.result .normal .refusedValue
          else s.startRead .configRead addr 512
      | _ => s)

/-- The block read takes effect whole, once no strip write is in flight, or is refused naming its first field failing (R115,
R190 steps 4 and 5, 10.3). -/
def State.takeConfig (bytes : List Byte) (s : State) : State :=
  match checkConfig bytes with
  | .inr detail => s.complete .normal .refusedValue detail
  | .inl c => s.awaitStripWrites c

/-- CONFIG_READ_COMPLETE (R190, R191). -/
def execConfigReadComplete (t : Nat) (reply : DmaReply) (s : State) : Answered :=
  .next ((s.atTime t).withReply .configRead .normal reply fun _ bytes s => s.takeConfig bytes)

/-- WARM RESET: its write-back is issued; the reset takes effect when that has completed or failed (R192). -/
def execWarmReset (s : State) : Answered :=
  .next
    (match s.taken .normal with
      | some .warmReset => s.result .normal .done
      | _ => s)

/-! ## The READ commands (R158, R193, R194) -/

/-- READ ROSTER (R193). -/
def execReadRoster (s : State) : Answered :=
  .next
    (match s.taken .normal with
      | some (.readRoster addr len) => s.startImage addr len s.rosterImage
      | _ => s)

/-- READ TRIP TABLE (R158, R193). -/
def execReadTripTable (s : State) : Answered :=
  .next
    (match s.taken .normal with
      | some (.readTripTable addr len) => s.startImage addr len s.tripImage
      | _ => s)

/-- READ LINE STATE (R193). -/
def execReadLineState (s : State) : Answered :=
  .next
    (match s.taken .normal with
      | some (.readLineState addr len) => s.startImage addr len s.lineImage
      | _ => s)

/-- READ COUNTERS (R193, R194). -/
def execReadCounters (s : State) : Answered :=
  .next
    (match s.taken .normal with
      | some (.readCounters addr len) => s.startImage addr len s.counterImage
      | _ => s)

/-- IMAGE_WRITE_COMPLETE (R158, R193, R194). -/
def execImageWriteComplete (t : Nat) (ok : Bool) (s : State) : Answered :=
  .next ((s.atTime t).withWrite .imageWrite .normal ok fun x s => s.imageWritten x.written)

/-! ## Events and timeouts (R195 to R198) -/

/-- EVENT_WRITE_COMPLETE (R195, R196). -/
def execEventWriteComplete (t : Nat) (ok : Bool) (s : State) : Answered :=
  .next ((s.atTime t).withWrite .eventWrite .event ok State.eventWritten)

/-- DMA_TIMEOUT: the oldest transfer in flight was issued 1 ms ago (R197). -/
def execDmaTimeout (t : Nat) (s : State) : Answered :=
  let s := s.atTime t
  let late (x : Transfer) : Bool := decide (x.issued + 1000000 ≤ s.now)
  .next
    (match s.findDma late with
      | some x => (s.dropDma late).failTransfer x .timeout
      | none => s)

end Sys2Proof.Machine
end

