-- ==== Sys2Proof/Machine/RegisterCommands.lean ====
section
/-! DEFINITION. The steps of register control: LOAD MARK TABLE, START, STOP and REARM REGISTER (R118, R128, R131). -/

namespace Sys2Proof.Machine

/-- A register command: a camera number outside 0 to 3 is refused with REFUSED_VALUE (R118, R128, R131). -/
def State.cameraCommand (cam : Nat) (f : Fin 4 → State → State) (s : State) : State :=
  match fin4? cam with
  | none => s.result .normal .refusedValue
  | some i => f i s

/-- LOAD MARK TABLE, up to its read of the table (R118). -/
def execLoadMarkTable (s : State) : Answered :=
  .next
    (match s.taken .normal with
      | some (.loadMarkTable cam addr len) =>
          s.cameraCommand cam fun i s =>
            if (s.camCfg i).isNone ∨ (s.loop i).state ≠ .off then s.result .normal .refusedState
            else if len < 256 then s.result .normal .refusedValue
            else s.startRead .markTableRead addr 256
      | _ => s)

/-- The table read is taken whole, or refused naming an entry and a field (R118, 10.3). -/
def State.takeMarkTable (i : Fin 4) (bytes : List Byte) (s : State) : State :=
  match checkMarkTable bytes with
  | .inr detail => s.complete .normal .refusedValue detail
  | .inl entries => (s.onLoop i fun l => { l with entries := entries }).result .normal .done

/-- MARK_TABLE_READ_COMPLETE (R118). -/
def execMarkTableReadComplete (t : Nat) (reply : DmaReply) (s : State) : Answered :=
  .next
    ((s.atTime t).withReply .markTableRead .normal reply fun _ bytes s =>
      match s.working with
      | some (.loadMarkTable cam _ _) => s.cameraCommand cam fun i s => s.takeMarkTable i bytes
      | _ => s)

/-- START REGISTER (R128). -/
def execStartRegister (s : State) : Answered :=
  .next
    (match s.taken .normal with
      | some (.startRegister cam) =>
          s.cameraCommand cam fun i s =>
            if (s.camCfg i).isNone ∨ (s.loop i).state ≠ .off ∨ !((s.loop i).entry 0).enabled then
              s.result .normal .refusedState
            else (s.enterSeeking i .start).result .normal .done
      | _ => s)

/-- STOP REGISTER (R128). -/
def execStopRegister (s : State) : Answered :=
  .next
    (match s.taken .normal with
      | some (.stopRegister cam) => s.cameraCommand cam fun i s => (s.enterOff i .stop).result .normal .done
      | _ => s)

/-- Every entry's missing count 0 and HOLD flag clear, with an event when a flag was set (R131). -/
def State.rearmEntries (i : Fin 4) (s : State) : State :=
  let held := (s.loop i).entries.any (·.hold)
  let s := s.onLoop i fun l => l.onEntries fun e => { e with missing := 0, hold := false }
  if held then s.loopEvent i (s.loop i).state .rearm none else s

/-- REARM REGISTER (R131). -/
def execRearmRegister (s : State) : Answered :=
  .next
    (match s.taken .normal with
      | some (.rearmRegister cam) =>
          s.cameraCommand cam fun i s =>
            match (s.loop i).state with
            | .hold => (s.enterSeeking i .rearm).result .normal .done
            | .active | .paused => (s.rearmEntries i).result .normal .done
            | .off | .seeking => s.result .normal .refusedState
      | _ => s)

end Sys2Proof.Machine
end

