-- ==== Sys2Proof/Machine/ResetCommands.lean ====
section
/-! DEFINITION. The steps of resets and of the host link (R25, R43, R71, R96, R116, R133, R160, R185, R192, R199, R201). -/

namespace Sys2Proof.Machine

/-- COLD_RESET: every block at its cold reset values, then the trip inputs asserted are reported (R136). -/
def execColdReset (t : Nat) (s : State) : Answered := .next (s.atTime t).coldReset

/-- WARM_INPUT: the warm reset input has the effect of WARM RESET, without a descriptor (R192). -/
def execWarmInput (t : Nat) (s : State) : Answered := .next (s.atTime t).warmReset

/-- HOST_LINK_LOSS: the host link is lost or reset (R199). -/
def execHostLinkLoss (t : Nat) (s : State) : Answered := .next (s.atTime t).linkLoss

end Sys2Proof.Machine
end

