-- ==== Sys2Proof/Machine/RingCommands.lean ====
section
/-! DEFINITION. The steps of the fibre ring: light and lock, arriving frames, the transmitter, waiting offers and the return
watch (R1 to R3, R9 to R23). -/

namespace Sys2Proof.Machine

/-- Lock is lost while a test block arrives: that block is in error (R29). -/
def State.cutBlock (midHeader : Bool) (arrived : List Byte) (s : State) : State :=
  if s.takesBlocks && (midHeader || !arrived.isEmpty) then s.countBlock true else s

/-- Light or lock was lost: the frame in reception fails its tail check, a test block that arrives is in error, and cause 6
is true while the station is in the ring (R1, R3, R29). That the receiver error of the frame, with the cause 9 it may bring,
comes before cause 6 is DESIGN CHOICE (log 94). -/
def State.lockLost (midHeader : Bool) (arrived : List Byte) (s : State) : State :=
  let s := ((s.cutBlock midHeader arrived).cutReception midHeader arrived).onPins fun p => { p with lock := false }
  if s.mc.link.inRing then s.reportTrue 6 0 else s

/-- LIGHT_LOST: light is gone, and lock with it (R1, R3). -/
def execLightLost (t : Nat) (midHeader : Bool) (arrived : List Byte) (s : State) : Answered :=
  let s := s.atTime t
  .next (if s.pins.light then (s.onPins fun p => { p with light := false }).lockLost midHeader arrived else s)

/-- SYMBOL_LOCK_LOST: four symbols in a row did not decode (R1, R3). -/
def execSymbolLockLost (t : Nat) (midHeader : Bool) (arrived : List Byte) (s : State) : Answered :=
  let s := s.atTime t
  .next (if s.pins.lock then s.lockLost midHeader arrived else s)

/-- What lock gained does in each link state: the light check sends its blocks, INSERTING ends, cause 6 is false (R3, R29,
R31). -/
def State.lockGained (s : State) : State :=
  match s.mc.link with
  | .lightCheck =>
      if s.mc.check.lockAt.isNone then
        (s.onMc fun m => { m with check := { m.check with lockAt := some s.now } }).sendTest
      else s
  | .inserting => s.changeLink .listen .none 0 0
  | .listen | .member | .leaving => s.reportFalse 6 0
  | .dark | .bypassed => s

/-- SYMBOL_LOCK_GAINED: light is present and 64 valid symbols in a row have come (R1, R3, R29, R31). -/
def execSymbolLockGained (t : Nat) (s : State) : Answered :=
  let s := s.atTime t
  .next (if s.pins.lock then s else (s.onPins fun p => { p with light := true, lock := true }).lockGained)

/-- What receive handling decides from a header (R11 to R13). The orphan test asks for a header check that matches, not for the
length: a frame forwarded for its length alone goes out with hop count 31 and a good header check, and the next station strips
it (R12; log 82). -/
def rxFate (own : Nat) (header : List Byte) : RxFate :=
  let h := parseHeader header
  if h.origin = own then .ownOrigin
  else if headerCheckOk header && h.hop == 31 then .orphan
  else .forwarded

/-- A header taken by receive handling: the frame is stripped, or placed in the pass buffer (R11 to R13). -/
def State.takeHeader (arrival : Nat) (header : List Byte) (s : State) : State :=
  let fate := rxFate s.ownStation header
  let s := s.onRp fun r => { r with rx := some { header := header, arrival := arrival, fate := fate } }
  match fate with
  | .ownOrigin => s
  | .orphan => s.onRp fun r => { r with orphans := bump r.orphans }
  | .forwarded =>
      s.onRp fun r =>
        { r with
          pass := r.pass ++
            [{ header := header, body := [], arrival := arrival, headerFailed := headerFailure header, closing := none }] }

/-- FRAME_HEADER_ARRIVAL: the 20th header byte has arrived, 168 ns after the start delimiter (R11 to R13). A frame still in
reception then has met a control symbol and fails its tail check (R6). -/
def execFrameHeaderArrival (arrival : Nat) (header : List Byte) (s : State) : Answered :=
  let s := s.atTime (arrival + 168)
  .next (if s.mc.link.receives && s.pins.lock then (s.cutReception false []).takeHeader arrival header else s)

/-- An ending without a frame in reception: a frame whose header had not arrived whole (log 15). -/
def State.headless (ending : FrameEnding) (s : State) : State :=
  match ending with
  | .abortDelim => s.countAborted
  | .endDelim | .broken => s.receiverError

/-- FRAME_END_ARRIVAL: the end of the frame in reception has arrived (R11, R12, R14 to R16). -/
def execFrameEndArrival (t : Nat) (body : List Byte) (ending : FrameEnding) (s : State) : Answered :=
  let s := s.atTime t
  .next
    (if s.mc.link.receives && s.pins.lock then
      match s.rp.rx with
      | some rx => s.endReception rx body ending
      | none => s.headless ending
    else s)

/-- TRANSMIT_BOUNDARY: the frame being sent has ended, or a byte time of idle fill has (R2, R17, R19, R20). -/
def execTransmitBoundary (t : Nat) (arriving : Nat) (s : State) : Answered :=
  let s := s.atTime t
  .next (if s.rp.atBoundary then s.arbitrate arriving else s)

/-- BULK_WAIT_ADMIT: a frame has left the bulk lane, and the offer waiting longest enters it (R9). -/
def execBulkWaitAdmit (s : State) : Answered := .next (if s.rp.bulk.length < 32 then s.admitWaiting else s)

/-- RETURN_WATCH_EXPIRY: the oldest entry of the watch is 2 ms old (R22). -/
def execReturnWatchExpiry (t : Nat) (s : State) : Answered :=
  let s := s.atTime t
  .next
    (match s.rp.watch with
      | [] => s
      | e :: _ => if e.launched + 2000000 ≤ s.now then s.watchMissing e.sequence else s)

end Sys2Proof.Machine
end

