-- ==== Sys2Proof/Machine/ScreenCommands.lean ====
section
/-! DEFINITION. The steps of the operator screens: touch, copies, deadlines, display frames, and the screen commands (R161 to
R183). -/

namespace Sys2Proof.Machine

/-- TOUCH: the touch input reports a press or a release; without a screen it is not read (R161, R176). -/
def execTouch (t : Nat) (press : Bool) (x y : Nat) (s : State) : Answered :=
  let s := s.atTime t
  .next (if s.screen then (s.onScu fun c => { c with touchInCourse := press }).routeTouch press x y else s)

/-! ## Copies (R170, R171, R175, R177, R180, R182, R183) -/

/-- The copy handed on first is taken when `f` answers for it; a copy `f` has no answer for is left to its own step. -/
def State.takeScreen (f : Copy → Option (State → State)) (s : State) : State :=
  match s.inScu with
  | [] => s
  | c :: rest =>
    match f c with
    | some g => g { s with inScu := rest }
    | none => s

/-- The contents of a Tile control copy. -/
def Copy.tileCtl (c : Copy) : Option TileCtl :=
  if (parseHeader c.header).kindCode = Kind.tileControl.code then parseTileCtl c.payload else none

/-- The origin of a copy. -/
def Copy.origin (c : Copy) : Nat := (parseHeader c.header).origin

/-- TILE_INVALIDATE (R170). -/
def execTileInvalidate (s : State) : Answered :=
  .next (s.takeScreen fun c =>
    match c.tileCtl with
    | some (.invalidate group count tiles) =>
        some fun s => s.onScu fun u => u.invalidate s.now c.origin group count tiles
    | _ => none)

/-- TILE_DATA_FRAGMENT (R171; a payload of another length is discarded, R203). -/
def execTileDataFragment (s : State) : Answered :=
  .next (s.takeScreen fun c =>
    let h := parseHeader c.header
    if h.kindCode = Kind.tileData.code then
      some fun s =>
        match parseTileData h.origin h.fragIndex c.payload with
        | some f => s.onScu fun u => u.takeFragment s.now f
        | none => s
    else none)

/-- TILE_REQUEST_COPY: a Tile wanted event (R175). -/
def execTileRequestCopy (s : State) : Answered :=
  .next (s.takeScreen fun c =>
    match c.tileCtl with
    | some (.request held page index) => some fun s => s.post (.tileWanted c.origin page index held)
    | _ => none)

/-- TOUCH_COPY: a Touch event (R177). -/
def execTouchCopy (s : State) : Answered :=
  .next (s.takeScreen fun c =>
    match c.tileCtl with
    | some (.touch press page x index y) => some fun s => s.post (.touch c.origin press false false page x y index)
    | _ => none)

/-- VIEW_REQUEST (R180). -/
def execViewRequest (s : State) : Answered :=
  .next (s.takeScreen fun c =>
    match c.tileCtl with
    | some (.viewRequest slot cam k width) => some fun s => s.takeViewRequest c.origin slot cam k width
    | _ => none)

/-- A view stop of a station's slot taken at the camera station (R183). -/
def State.takeViewStop (station slot cam : Nat) (s : State) : State :=
  match fin4? cam with
  | some i => s.onScu (Scu.dropViewer station slot i)
  | none => s

/-- VIEW_STOP (R183). -/
def execViewStop (s : State) : Answered :=
  .next (s.takeScreen fun c =>
    match c.tileCtl with
    | some (.viewStop slot cam) => some fun s => s.takeViewStop c.origin slot cam
    | _ => none)

/-- VIEW_REFUSAL (R182). -/
def execViewRefusal (s : State) : Answered :=
  .next (s.takeScreen fun c =>
    match c.tileCtl with
    | some (.viewRefusal slot cam reason) => some fun s => s.takeRefusal c.origin slot cam reason
    | _ => none)

/-- VIEW_LINE (R182; a payload of another length is discarded, R203). -/
def execViewLine (s : State) : Answered :=
  .next (s.takeScreen fun c =>
    let h := parseHeader c.header
    if h.kindCode = Kind.viewLine.code then
      some fun s =>
        match parseViewLine h.origin h.fragIndex c.payload with
        | some m => s.onScu fun u => u.takeViewLine m
        | none => s
    else none)

/-! ## Deadlines and display frames (R161, R173, R174) -/

/-- A member of a group whose deadline has passed. -/
def Tile.overdue (now publisher group : Nat) (t : Tile) : Bool :=
  t.inGroup publisher group && t.mark.any fun m => decide (m.deadline ≤ now)

/-- GROUP_DEADLINE (R173). Members of one group may carry different deadlines (R171), and the first that has passed ends
the group: DESIGN CHOICE (log 80). -/
def execGroupDeadline (t publisher group : Nat) (s : State) : Answered :=
  let s := s.atTime t
  .next
    (if s.scu.tiles.any (Tile.overdue s.now publisher group) then s.onScu (Scu.endGroup s.now publisher group) else s)

/-- An entry is watched for progress: referenced, waiting, and not complete and waiting for its group (R174). -/
def Scu.watched (t : Tile) (c : Scu) : Bool :=
  decide (0 < t.refs) && (t.state == .wanted || t.state == .stale) && !(c.filled t.id && t.mark.isSome)

/-- An entry becomes FAILED (R174), and leaves its group (R173). -/
def Scu.fail (now : Nat) (id : TileId) (c : Scu) : Scu :=
  let d := (c.onTile id fun t => { t with state := .failed, mark := none }).freeFill id
  Scu.remark now c id { d with fillFailures := bump d.fillFailures }

/-- Twenty milliseconds without progress (R174). -/
def State.noProgress (t : Tile) (s : State) : State :=
  if t.requests < 3 then
    (s.onScu fun c => c.onTile t.id fun x => { x with requests := x.requests + 1, progress := s.now }).requestTile t.id
      t.held
  else s.onScu (Scu.fail s.now t.id)

/-- TILE_PROGRESS_TIMEOUT (R174). -/
def execTileProgressTimeout (t publisher page index : Nat) (s : State) : Answered :=
  let s := s.atTime t
  .next
    (match s.scu.tile { publisher := publisher, page := page, index := index } with
      | some x => if s.scu.watched x ∧ x.progress + 20000000 ≤ s.now then s.noProgress x else s
      | none => s)

/-- The picture of a display frame that starts now (R161). -/
def Scu.capture (c : Scu) : Picture :=
  { pageMap := c.pageMap, tiles := c.tiles, view0 := c.view0, view1 := c.view1 }

/-- DISPLAY_FRAME_START (R161). -/
def execDisplayFrameStart (t : Nat) (s : State) : Answered :=
  let s := s.atTime t
  .next (s.onScu fun c => { c with picture := if s.screen then some c.capture else none })

/-! ## SET PAGE MAP (R163) -/

/-- SET PAGE MAP, up to its read of the list (R161, R163, R203). -/
def execSetPageMap (s : State) : Answered :=
  .next
    (match s.taken .normal with
      | some (.setPageMap addr len) =>
          if !s.screen then s.result .normal .refusedState
          else if len % 8 ≠ 0 ∨ len / 8 = 0 ∨ 768 < len / 8 then s.result .normal .refusedValue
          else s.startRead .pageMapRead addr len
      | _ => s)

/-- The list read is checked whole and applied, or refused naming an assignment (R163, 10.3). -/
def State.takePageMap (n : Nat) (bytes : List Byte) (s : State) : State :=
  match parseAssignments bytes n with
  | .inr i => s.complete .normal .refusedValue i
  | .inl assignments => (assignments.foldl State.assign s).result .normal .done

/-- PAGE_MAP_READ_COMPLETE (R163). -/
def execPageMapReadComplete (t : Nat) (reply : DmaReply) (s : State) : Answered :=
  .next
    ((s.atTime t).withReply .pageMapRead .normal reply fun _ bytes s =>
      match s.working with
      | some (.setPageMap _ len) => s.takePageMap (len / 8) bytes
      | _ => s)

/-! ## PUBLISH TILES (R166, R167) -/

/-- PUBLISH TILES, up to its read of the list (R166, R203). -/
def execPublishTiles (s : State) : Answered :=
  .next
    (match s.taken .normal with
      | some (.publishTiles addr len) =>
          if s.cfg.isNone then s.result .normal .refusedState
          else if len % 16 ≠ 0 ∨ len / 16 = 0 ∨ 8 < len / 16 then s.result .normal .refusedValue
          else s.startRead .publishListRead addr len
      | _ => s)

/-- A publication begins: its group number, its invalidate to the ring and then to the own store, and its first tile
(R166, R167). -/
def State.publish (tiles : List PubTile) (s : State) : State :=
  let group := s.scu.group
  let count := tiles.length
  let listed := tiles.map fun t => (t.page, t.index, t.version)
  let s := s.onScu fun c => { c with group := (c.group + 1) % 256 }
  let s := s.offerScreen (wholeFrame .tileControl 0 (tileCtlPayload (.invalidate group count listed)))
  (s.onScu fun c =>
    { c.invalidate s.now s.ownStation group count listed with
      pub := some { group := group, count := count, tiles := tiles, reading := false } }).pubAdvance

/-- The list read is checked, and the publication begins (R166). -/
def State.takePublish (n : Nat) (bytes : List Byte) (s : State) : State :=
  match parsePublish bytes n with
  | none => s.result .normal .refusedValue
  | some tiles => s.publish tiles

/-- PUBLISH_LIST_READ_COMPLETE (R166, R167). -/
def execPublishListReadComplete (t : Nat) (reply : DmaReply) (s : State) : Answered :=
  .next
    ((s.atTime t).withReply .publishListRead .normal reply fun _ bytes s =>
      match s.working with
      | some (.publishTiles _ len) => s.takePublish (len / 16) bytes
      | _ => s)

/-- The pixels of a publication's next tile are read: the own store takes them, and the fragments are offered (R167,
R168). -/
def State.takeTile (bytes : List Byte) (s : State) : State :=
  match s.scu.pub with
  | none => s
  | some p =>
    match p.tiles with
    | [] => s
    | t :: rest =>
      let id : TileId := { publisher := s.ownStation, page := t.page, index := t.index }
      let s := s.onScu fun c =>
        { (fragmentsOf id t.version p.group p.count bytes).foldl (Scu.takeFragment s.now) c with
          pub := some { p with tiles := rest, reading := false } }
      (s.offerAll (tileFrames t p.group p.count bytes)).pubAdvance

/-- TILE_READ_COMPLETE (R167). -/
def execTileReadComplete (t : Nat) (reply : DmaReply) (s : State) : Answered :=
  .next ((s.atTime t).withReply .tileRead .normal reply fun _ bytes s => s.takeTile bytes)

/-! ## OPEN VIEW and CLOSE VIEW (R179, R183) -/

/-- The rectangle of an OPEN VIEW lies within the display (R179). -/
def rectangleFits (position w h : Nat) : Bool :=
  decide (1 ≤ w) && decide (w ≤ 8) && decide (1 ≤ h) && decide (h ≤ 6) && decide (position < 768) &&
    decide (position % 32 + w ≤ 32) && decide (position / 32 + h ≤ 24)

/-- A view slot that is opened: REQUESTED, its image background and its current row none (R179). -/
def ViewSlot.request (station cam k position w h : Nat) : ViewSlot :=
  { state := .requested, station := station, cam := cam, k := k, position := position, w := w, h := h
    image := blankImage w h, row := none }

/-- A position takes the content Inset of a slot, with the effects of R163 on a Tile it replaces (R179). -/
def Scu.putInset (i : Fin 2) (c : Scu) (pos : Nat) : Scu := (c.release (c.pageMap.getD pos .blank)).put pos (.inset i)

/-- A view slot is opened and its view request made (R179). -/
def State.openView (i : Fin 2) (v : ViewSlot) (s : State) : State :=
  (s.onScu fun c => v.positions.foldl (Scu.putInset i) (c.setView i v)).requestView i

/-- OPEN VIEW (R179). -/
def execOpenView (s : State) : Answered :=
  .next
    (match s.taken .normal with
      | some (.openView slot station cam k position w h) =>
          match fin2? slot with
          | none => s.result .normal .refusedValue
          | some i =>
            if !s.screen ∨ (s.scu.view i).state ≠ .closed then s.result .normal .refusedState
            else if station = 0 ∨ 31 < station ∨ 3 < cam ∨ k = 0 ∨ 64 < k then s.result .normal .refusedValue
            else if !rectangleFits position w h then s.result .normal .refusedValue
            else (s.openView i (ViewSlot.request station cam k position w h)).result .normal .done
      | _ => s)

/-- A position whose content is still Inset of a slot becomes Blank (R183). -/
def Scu.blankInset (i : Fin 2) (c : Scu) (pos : Nat) : Scu :=
  if c.pageMap.getD pos .blank = .inset i then c.put pos .blank else c

/-- A view slot's view stop is made (R183). -/
def State.stopView (i : Fin 2) (s : State) : State :=
  let v := s.scu.view i
  if !v.state.takes then s
  else if v.station = s.ownStation then s.takeViewStop s.ownStation i.val v.cam
  else s.offerScreen (wholeFrame .tileControl v.station (tileCtlPayload (.viewStop i.val v.cam)))

/-- A view slot is closed (R183). -/
def State.closeView (i : Fin 2) (s : State) : State :=
  let v := s.scu.view i
  (s.stopView i).onScu fun c => (v.positions.foldl (Scu.blankInset i) c).setView i { v with state := .closed }

/-- CLOSE VIEW (R183). -/
def execCloseView (s : State) : Answered :=
  .next
    (match s.taken .normal with
      | some (.closeView slot) =>
          match fin2? slot with
          | none => s.result .normal .refusedValue
          | some i =>
            if (s.scu.view i).state = .closed then s.result .normal .refusedState
            else (s.closeView i).result .normal .done
      | _ => s)

end Sys2Proof.Machine
end

