-- ==== Sys2Proof/Machine/ShaftCommands.lean ====
section
/-! DEFINITION. The steps of the line shaft: ticks and beats, step states, Shaft and Speed copies, SET SPEED and RELEASE STOP
(R44 to R69). -/

namespace Sys2Proof.Machine

/-! ## Copies (R54, R57) -/

/-- A copy is of a kind. -/
def Copy.isKind (k : Kind) (c : Copy) : Bool := (parseHeader c.header).kindCode == k.code

/-- SHAFT_COPY: the Shaft Unit takes the Shaft frame copy handed on first (R57). -/
def execShaftCopy (s : State) : Answered :=
  .next
    (match s.inSu with
      | [] => s
      | c :: rest => if c.isKind .shaft then State.takeShaft c { s with inSu := rest } else s)

/-- SPEED_COPY: the Shaft Unit takes the Speed frame copy handed on first (R54). -/
def execSpeedCopy (s : State) : Answered :=
  .next
    (match s.inSu with
      | [] => s
      | c :: rest => if c.isKind .speed then State.takeSpeed c { s with inSu := rest } else s)

/-! ## Ticks and beats (R44, R46, R50, R56, R61) -/

/-- A tick starts at local time `start`: the one before it ends, the arithmetic is done, and the blocks act (R46, R75, R100,
R107, R119). -/
def State.tickAt (start : Int) (s : State) : State :=
  let s := s.endTick.atTime start.toNat
  (s.onSu fun u => u.startTick start s.normalRate s.fastRate).tickBlocks

/-- TICK_START (R46). -/
def execTickStart (s : State) : Answered := .next (if s.su.tickDue then s.tickAt s.su.nextStart else s)

/-- The local time at which the next beat starts (R44, R71). -/
def Su.beatTime (u : Su) : Int := if u.beatZeroDue then u.tickEnd else u.beatNext

/-- BEAT_START (R50). -/
def execBeatStart (s : State) : Answered :=
  .next (if s.su.beatDue then (s.atTime s.su.beatTime.toNat).startBeat else s)

/-! ## Step states (R65 to R69) -/

/-- The settled count is 16, in FOLLOWING, or at an adopted station that is not a shaft member with cause 10 true
(R66, R69). -/
def State.settles (s : State) : Bool :=
  s.su.settled == 16 &&
    (s.su.step == .following || (!s.shaftMember && s.su.adopted && s.su.step == .shaftIdle && s.causeTrue 10 0))

/-- ENTER_IN_STEP: sixteen settled beats (R66, R69). -/
def execEnterInStep (s : State) : Answered :=
  .next
    (if s.settles then
      let s := if s.su.step = .following then s.changeStep fun u => { u with step := .inStep } else s
      s.reportFalse 10 0
    else s)

/-- A station in timing agreement leaves it (R67, R69). That causes 11 end before cause 10 is reported true is DESIGN CHOICE
(log 98). -/
def State.loseStep (s : State) : State :=
  if s.su.step.sends then ((s.changeStep fun u => { u with step := .adopting }).forgetViews).reportTrue 10 0
  else (s.changeStep fun u => { u with adopted := false }).reportTrue 10 0

/-- SHAFT_LOST_STEP: the fourth minority beat in a row (R67, R69). -/
def execShaftLostStep (s : State) : Answered :=
  .next (if s.agreeing ∧ s.su.minority = 4 then s.loseStep else s)

/-- ENTER_ALONE: the last beat start brought the alone count to 16, and the entry is not taken yet (R68; log 73). -/
def execEnterAlone (s : State) : Answered :=
  .next
    s.enterAlone

/-- LATENESS_CLEAR: sixteen beats without lateness (R51). -/
def execLatenessClear (s : State) : Answered :=
  .next (if s.su.calm = 16 ∧ s.causeTrue 12 0 then s.reportFalse 12 0 else s)

/-- A shaft member founds a line history now (R65). -/
def State.founds (s : State) : Bool :=
  s.shaftMember && s.mc.link.isMember && s.su.step == .adopting && s.su.founder == 0 && s.su.rosterSinceMember == 3 &&
    !s.su.heardQualifying && s.su.tickIdx == 0 && !s.su.inTick

/-- The founding, with the Shaft frame of beat 0 (R56, R65; log 12). -/
def State.found (s : State) : State :=
  let old := s.su.line.speed
  let s := ((s.onSu (Su.found s.ownStation)).lineReplaced old).resubmitStops
  let s := s.changeStep fun u => { u with step := .alone }
  s.offer (s.shaftFrame .alone)

/-- FOUND_HISTORY: the third roster-beat start after entering MEMBER without a qualifying frame (R65). -/
def execFoundHistory (s : State) : Answered := .next (if s.founds then s.found else s)

/-! ## SET SPEED and RELEASE STOP (R52, R53) -/

/-- The beat at which a command taken now applies: the current beat plus the lead (R52, R53). -/
def State.applyBeat (s : State) : Nat := (s.su.beat + s.lead) % two32

/-- An entry of the own station is installed and sent in a Speed frame, and the command number steps (R52 steps 4 and 5,
R53 step 4). -/
def State.command (e : Entry) (s : State) : State :=
  let founder := s.su.founder
  let s := (s.onSu fun u => { u with cmdNo := (u.cmdNo + 1) % 65536 }).installEntry e
  s.offer (wholeFrame .speed 0 (speedPayload founder (e.clamped s.maxSpeed)))

/-- SET SPEED (R52). -/
def execSetSpeed (s : State) : Answered :=
  .next
    (match s.taken .urgent with
      | some (.setSpeed target accel decel) =>
          if !s.speedAuthority || !s.holdsHistory then s.result .urgent .refusedState
          else if accel = 0 ∨ decel = 0 then s.result .urgent .refusedValue
          else
            (s.command (.set s.ownStation s.su.cmdNo target accel decel s.applyBeat)).result .urgent
              (if s.maxSpeed < target then .clamped else .done)
      | _ => s)

/-- There is a stop to release (R53 step 2). -/
def Su.hasStop (u : Su) : Bool := u.line.stop != .none || u.list.any Entry.isStop

/-- RELEASE STOP (R53). -/
def execReleaseStop (s : State) : Answered :=
  .next
    (match s.taken .urgent with
      | some .releaseStop =>
          if !s.speedAuthority || !s.holdsHistory || !s.su.hasStop then s.result .urgent .refusedState
          else if !s.gateOpen then s.result .urgent .refusedTrip
          else (s.command (.release s.ownStation s.su.cmdNo s.applyBeat)).result .urgent .done
      | _ => s)

end Sys2Proof.Machine
end

