-- ==== Sys2Proof/Machine/TripCommands.lean ====
section
/-! DEFINITION. The steps of fault trips: Trip copies, lapses, and the trip commands (R137, R139 to R143, R155). -/

namespace Sys2Proof.Machine

/-- An entry lapses: an ACTIVE one of another origin whose quiet count has reached 6 (R143). -/
def TripEntry.lapses (own : Nat) (e : TripEntry) : Bool := e.state == .active && e.key.origin != own && e.quiet == 6

/-- The lapse of an entry whose quiet count has reached 6 (R143). -/
def State.lapseTrip (k : TripKey) (s : State) : State :=
  if (s.tu.entry k).any (TripEntry.lapses s.ownStation) then s.clearTrip k else s

/-- A Trip frame copy taken as the raise, refresh or clear its action names (R139). A lapse that a roster-beat start called
for is done before a copy taken after that start (R143). -/
def State.takeTrip (c : Copy) (s : State) : State :=
  match parseTrip c.payload with
  | none => s
  | some (action, cause, detail, category, beat, founder) =>
    let key : TripKey := { origin := (parseHeader c.header).origin, cause := cause, detail := detail }
    let r : Raise :=
      { key := key, category := category, scope := .ring, beat := beat, founder := founder, header := c.header
        payload := c.payload }
    let s := s.lapseTrip key
    match action with
    | .raise => s.takeRaise r
    | .refresh => s.takeRefresh r
    | .clear => s.clearTrip key

/-- TRIP_COPY: the Trip Unit takes the Trip frame copy handed on first (R139). -/
def execTripCopy (s : State) : Answered :=
  .next
    (match s.inTu with
      | [] => s
      | c :: rest => State.takeTrip c { s with inTu := rest })

/-- TRIP_LAPSE (R143). -/
def execTripLapse (origin cause detail : Nat) (s : State) : Answered :=
  .next (s.lapseTrip { origin := origin, cause := cause, detail := detail })

/-- RAISE HOST TRIP (R137). -/
def execRaiseHostTrip (s : State) : Answered :=
  .next
    (match s.taken .urgent with
      | some (.raiseHostTrip code) =>
          if 255 < code then s.result .urgent .refusedValue
          else if s.causeTrue 19 code then s.result .urgent .refusedState
          else (s.reportTrue 19 code).result .urgent .done
      | _ => s)

/-- CLEAR HOST TRIP (R137). -/
def execClearHostTrip (s : State) : Answered :=
  .next
    (match s.taken .urgent with
      | some (.clearHostTrip code) =>
          if 255 < code then s.result .urgent .refusedValue
          else if s.causeTrue 19 code then (s.reportFalse 19 code).result .urgent .done
          else s.result .urgent .refusedState
      | _ => s)

/-- The Trip Unit after ACKNOWLEDGE TRIPS (R155 steps 1 to 4). -/
def Tu.acknowledge (u : Tu) : Tu :=
  { u with
    table := u.table.filter fun e => e.state == .active, first := none, more := false, firstTorqueOff := none
    firstStop := none, firstWarn := none, multiTorqueOff := false, lost := false }

/-- ACKNOWLEDGE TRIPS (R147, R155). -/
def execAcknowledgeTrips (s : State) : Answered :=
  .next
    (match s.taken .urgent with
      | some .acknowledgeTrips => ((s.onTu Tu.acknowledge).updateLocalStop).result .urgent .done
      | _ => s)

end Sys2Proof.Machine
end

