-- ==== Sys2Proof/Machine/Dispatch.lean ====
section
/-! DEFINITION. One arm per step of the part: each calls its one meaning. -/

namespace Sys2Proof.Machine

def exec (i : Instr) (s : State) : Host.Outcome State Fault Refusal :=
  match i with
  | .coldReset t => Sys2Proof.Machine.execColdReset t s
  | .warmInput t => Sys2Proof.Machine.execWarmInput t s
  | .hostLinkLoss t => Sys2Proof.Machine.execHostLinkLoss t s
  | .eStopAsserted t => Sys2Proof.Machine.execEStopAsserted t s
  | .eStopReleased t => Sys2Proof.Machine.execEStopReleased t s
  | .tripInputChange t input asserted => Sys2Proof.Machine.execTripInputChange t input asserted s
  | .panelStopKey t held => Sys2Proof.Machine.execPanelStopKey t held s
  | .touch t press x y => Sys2Proof.Machine.execTouch t press x y s
  | .lightLost t midHeader arrived => Sys2Proof.Machine.execLightLost t midHeader arrived s
  | .symbolLockLost t midHeader arrived => Sys2Proof.Machine.execSymbolLockLost t midHeader arrived s
  | .symbolLockGained t => Sys2Proof.Machine.execSymbolLockGained t s
  | .frameHeaderArrival arrival header => Sys2Proof.Machine.execFrameHeaderArrival arrival header s
  | .frameEndArrival t body ending => Sys2Proof.Machine.execFrameEndArrival t body ending s
  | .transmitBoundary t arriving => Sys2Proof.Machine.execTransmitBoundary t arriving s
  | .bulkWaitAdmit => Sys2Proof.Machine.execBulkWaitAdmit s
  | .returnWatchExpiry t => Sys2Proof.Machine.execReturnWatchExpiry t s
  | .testBlockReturn t bytes framed => Sys2Proof.Machine.execTestBlockReturn t bytes framed s
  | .lightCheckLockTimeout t => Sys2Proof.Machine.execLightCheckLockTimeout t s
  | .lightCheckAttemptEnd t => Sys2Proof.Machine.execLightCheckAttemptEnd t s
  | .insertionTimeout t => Sys2Proof.Machine.execInsertionTimeout t s
  | .leaveTimeout t => Sys2Proof.Machine.execLeaveTimeout t s
  | .drainComplete t => Sys2Proof.Machine.execDrainComplete t s
  | .helloCopy => Sys2Proof.Machine.execHelloCopy s
  | .shaftCopy => Sys2Proof.Machine.execShaftCopy s
  | .speedCopy => Sys2Proof.Machine.execSpeedCopy s
  | .tripCopy => Sys2Proof.Machine.execTripCopy s
  | .correctionCopy => Sys2Proof.Machine.execCorrectionCopy s
  | .tileInvalidate => Sys2Proof.Machine.execTileInvalidate s
  | .tileDataFragment => Sys2Proof.Machine.execTileDataFragment s
  | .tileRequestCopy => Sys2Proof.Machine.execTileRequestCopy s
  | .touchCopy => Sys2Proof.Machine.execTouchCopy s
  | .viewRequest => Sys2Proof.Machine.execViewRequest s
  | .viewStop => Sys2Proof.Machine.execViewStop s
  | .viewRefusal => Sys2Proof.Machine.execViewRefusal s
  | .viewLine => Sys2Proof.Machine.execViewLine s
  | .tickStart => Sys2Proof.Machine.execTickStart s
  | .triggerDue cam => Sys2Proof.Machine.execTriggerDue cam s
  | .cameraLine t cam number pixels => Sys2Proof.Machine.execCameraLine t cam number pixels s
  | .triggerTimeout t cam => Sys2Proof.Machine.execTriggerTimeout t cam s
  | .mapEntryReadComplete t cam reply => Sys2Proof.Machine.execMapEntryReadComplete t cam reply s
  | .stripWriteComplete t cam ok => Sys2Proof.Machine.execStripWriteComplete t cam ok s
  | .beatStart => Sys2Proof.Machine.execBeatStart s
  | .enterInStep => Sys2Proof.Machine.execEnterInStep s
  | .shaftLostStep => Sys2Proof.Machine.execShaftLostStep s
  | .enterAlone => Sys2Proof.Machine.execEnterAlone s
  | .latenessClear => Sys2Proof.Machine.execLatenessClear s
  | .rosterBeatStart => Sys2Proof.Machine.execRosterBeatStart s
  | .enterMember => Sys2Proof.Machine.execEnterMember s
  | .foundHistory => Sys2Proof.Machine.execFoundHistory s
  | .silenceRemoval station => Sys2Proof.Machine.execSilenceRemoval station s
  | .tripLapse origin cause detail => Sys2Proof.Machine.execTripLapse origin cause detail s
  | .duplicateQuiet => Sys2Proof.Machine.execDuplicateQuiet s
  | .driveAnswer t axis sequence ready torqueOn fault actual => Sys2Proof.Machine.execDriveAnswer t axis sequence ready torqueOn fault actual s
  | .answerWindowClose axis => Sys2Proof.Machine.execAnswerWindowClose axis s
  | .groupDeadline t publisher group => Sys2Proof.Machine.execGroupDeadline t publisher group s
  | .tileProgressTimeout t publisher page index => Sys2Proof.Machine.execTileProgressTimeout t publisher page index s
  | .displayFrameStart t => Sys2Proof.Machine.execDisplayFrameStart t s
  | .queueBaseWrite t q value => Sys2Proof.Machine.execQueueBaseWrite t q value s
  | .queueSizeWrite t q word => Sys2Proof.Machine.execQueueSizeWrite t q word s
  | .queueRunSet t q => Sys2Proof.Machine.execQueueRunSet t q s
  | .queueRunClear t q => Sys2Proof.Machine.execQueueRunClear t q s
  | .commandTailWrite t q value => Sys2Proof.Machine.execCommandTailWrite t q value s
  | .eventHeadWrite t value => Sys2Proof.Machine.execEventHeadWrite t value s
  | .windowWriteIgnored t offset value => Sys2Proof.Machine.execWindowWriteIgnored t offset value s
  | .descriptorFetch t q => Sys2Proof.Machine.execDescriptorFetch t q s
  | .descriptorReadComplete t q reply => Sys2Proof.Machine.execDescriptorReadComplete t q reply s
  | .writebackComplete t q ok => Sys2Proof.Machine.execWritebackComplete t q ok s
  | .setSpeed => Sys2Proof.Machine.execSetSpeed s
  | .releaseStop => Sys2Proof.Machine.execReleaseStop s
  | .raiseHostTrip => Sys2Proof.Machine.execRaiseHostTrip s
  | .clearHostTrip => Sys2Proof.Machine.execClearHostTrip s
  | .acknowledgeTrips => Sys2Proof.Machine.execAcknowledgeTrips s
  | .enableAxis => Sys2Proof.Machine.execEnableAxis s
  | .disableAxis => Sys2Proof.Machine.execDisableAxis s
  | .coupleAxis => Sys2Proof.Machine.execCoupleAxis s
  | .decoupleAxis => Sys2Proof.Machine.execDecoupleAxis s
  | .jogAxis => Sys2Proof.Machine.execJogAxis s
  | .trimAxis => Sys2Proof.Machine.execTrimAxis s
  | .configure => Sys2Proof.Machine.execConfigure s
  | .configReadComplete t reply => Sys2Proof.Machine.execConfigReadComplete t reply s
  | .join => Sys2Proof.Machine.execJoin s
  | .leave => Sys2Proof.Machine.execLeave s
  | .warmReset => Sys2Proof.Machine.execWarmReset s
  | .readRoster => Sys2Proof.Machine.execReadRoster s
  | .readTripTable => Sys2Proof.Machine.execReadTripTable s
  | .readLineState => Sys2Proof.Machine.execReadLineState s
  | .readCounters => Sys2Proof.Machine.execReadCounters s
  | .imageWriteComplete t ok => Sys2Proof.Machine.execImageWriteComplete t ok s
  | .giveStripBuffer => Sys2Proof.Machine.execGiveStripBuffer s
  | .invalidateMapCache => Sys2Proof.Machine.execInvalidateMapCache s
  | .loadMarkTable => Sys2Proof.Machine.execLoadMarkTable s
  | .markTableReadComplete t reply => Sys2Proof.Machine.execMarkTableReadComplete t reply s
  | .startRegister => Sys2Proof.Machine.execStartRegister s
  | .stopRegister => Sys2Proof.Machine.execStopRegister s
  | .rearmRegister => Sys2Proof.Machine.execRearmRegister s
  | .setPageMap => Sys2Proof.Machine.execSetPageMap s
  | .pageMapReadComplete t reply => Sys2Proof.Machine.execPageMapReadComplete t reply s
  | .publishTiles => Sys2Proof.Machine.execPublishTiles s
  | .publishListReadComplete t reply => Sys2Proof.Machine.execPublishListReadComplete t reply s
  | .tileReadComplete t reply => Sys2Proof.Machine.execTileReadComplete t reply s
  | .openView => Sys2Proof.Machine.execOpenView s
  | .closeView => Sys2Proof.Machine.execCloseView s
  | .eventWriteComplete t ok => Sys2Proof.Machine.execEventWriteComplete t ok s
  | .dmaTimeout t => Sys2Proof.Machine.execDmaTimeout t s

end Sys2Proof.Machine
end

