-- ==== Sys2Proof/Safety.lean ====
section
/-! DEFINITION. The terms in which claims about the part are made: what a report of a cause can touch, how a command is
answered and an event posted, and what counts as a safe state of the cabinet. -/

namespace Sys2Proof

/-! ## Configurations that are accepted (bounds that a field's width gives are left out) -/

/-- The configured fields of an axis lie in their ranges, and the axis passes the revolution check (R72, R74). -/
structure AxisCfg.Accepted (a : AxisCfg) : Prop where
  gear : 1 ≤ a.n ∧ 1 ≤ a.d ∧ 16777216 * a.n % a.d = 0 ∧ 16777216 * a.n / a.d % a.m = 0
  modulus : 2 ≤ a.m ∧ a.m ≤ 16777216
  rates : 1 ≤ a.catchUp ∧ 1 ≤ a.jogAccel ∧ 1 ≤ a.jogDecel ∧ 1 ≤ a.fastDecel
  speed : 1 ≤ a.maxSpeed ∧ a.maxSpeed ≤ 16777215
  trim : 1 ≤ a.trimStep ∧ a.trimStep ≤ 4095
  limits : 1 ≤ a.followLimit ∧ a.followLimit ≤ 8388608 ∧ 1 ≤ a.silentLimit ∧ a.silentLimit ≤ 15

/-- The configured fields of a camera lie in their ranges (R97, R117). -/
structure CamCfg.Accepted (c : CamCfg) : Prop where
  image : 64 ≤ c.width ∧ c.width ≤ 4096 ∧ 1 ≤ c.pitch
  strip : c.x0 ≤ c.x1 ∧ c.x1 < c.width ∧ 1 ≤ c.decimation ∧ c.decimation ≤ 64 ∧ 16 ≤ c.height ∧ c.height ≤ 1024
  web : c.w0 ≤ c.w1 ∧ c.w1 < c.width
  map : c.mapBase % 8 = 0
  lane : c.m0 ≤ c.m1 ∧ c.m1 < c.width ∧ 1 ≤ c.minWeight
  counts : 1 ≤ c.missingLimit ∧ c.missingLimit ≤ 15 ∧ 1 ≤ c.toleranceCount ∧ c.toleranceCount ≤ 15
  speed : c.minSpeed ≤ 16777215

/-- The fields of a configuration lie in their ranges (R27, R70, R74, R97, R117). -/
structure Cfg.Accepted (c : Cfg) : Prop where
  station : 1 ≤ c.station ∧ c.station ≤ 31 ∧ 12 ≤ c.repeats
  timing : 5000 ≤ c.exclusion ∧ c.exclusion ≤ 100000 ∧ 2 ≤ c.lead ∧ c.lead ≤ 16
  speed : c.maxSpeed ≤ 16777215 ∧ 1 ≤ c.normalRate ∧ 1 ≤ c.fastRate
  axes : ∀ i a, c.axes.get i = some a → a.Accepted
  cams : ∀ i x, c.cams.get i = some x → x.Accepted

end Sys2Proof

namespace Sys2Proof.Machine

/-! ## What an operation can touch -/

/-- What posting events can change of the Command Port: the events awaiting their write, the event being written, the
transfers in flight behind those issued before, and the counts of lost events (R195). -/
structure Cmp.Posted (c d : Cmp) : Prop where
  fields : d =
    { c with
      event := { c.event with awaiting := d.event.awaiting, writing := d.event.writing }
      lostPending := d.lostPending, dma := d.dma, eventsLost := d.eventsLost }
  issued : c.dma <+: d.dma

/-- What a report of a cause can change, taken as a whole (R134, R140, R142, R146, R148, R150): the lanes that take its
Trip frame, the pending change list with its lateness, axes that lose torque, the local stop level, the Trip Unit, and the
events posted. A first-trip record once filled stays (R153). -/
structure State.Reported (s t : State) : Prop where
  fields : t = { s with rp := t.rp, su := t.su, au := t.au, tu := t.tu, cmp := t.cmp }
  ring : t.rp =
    { s.rp with
      urgent := t.rp.urgent, bulk := t.rp.bulk, waitList := t.rp.waitList, held := t.rp.held
      urgentOverflow := t.rp.urgentOverflow }
  shaft : t.su =
    { s.su with
      list := t.su.list, calm := t.su.calm, lateThisBeat := t.su.lateThisBeat, lateChanges := t.su.lateChanges
      droppedEntries := t.su.droppedEntries }
  axes : t.au = { s.au with axes := t.au.axes, localStop := t.au.localStop }
  axis : ∀ i, t.axis i = s.axis i ∨ ((s.axis i).state.energised = true ∧ t.axis i = (s.axis i).toTorqueOff)
  first : s.tu.first.isSome = true → t.tu.first = s.tu.first
  held : t.tu.noticeHeld = s.tu.noticeHeld
  port : s.cmp.Posted t.cmp

/-! ## Answers and events -/

/-- The write-back that answers a command: one DMA write of the owner field, then of the result with its detail (R189,
10.3). -/
def writeback (q : CmdQueue) (base index : Nat) (r : Result) (detail now : Nat) : Transfer :=
  { purpose := .resultWriteback, unit := queueUnit q, addr := base + 64 * index, len := 7
    segs := [(base + 64 * index, [0]), (base + 64 * index + 6, byte r.code :: 0 :: le 4 detail)], issued := now
    strip := none }

/-- From `s` to `t` the command in flight in a queue was answered: its write-back is the last transfer issued, and the rest
of the queue is as it was. -/
def Answers (q : CmdQueue) (r : Result) (detail : Nat) (s t : State) : Prop :=
  ∃ f, (s.cmp.q q).inFlight = some f ∧ t.cmp.q q = { s.cmp.q q with inFlight := some { f with phase := .writing } } ∧
    t.cmp.dma.getLast? = some (writeback q (s.cmp.q q).base f.index r detail t.now)

/-- The Command Port with the command in flight in a queue answered, and nothing else done. -/
def Cmp.answered (q : CmdQueue) (r : Result) (detail now : Nat) (c : Cmp) : Cmp :=
  match (c.q q).inFlight with
  | none => c
  | some f =>
    { c with dma := c.dma ++ [writeback q (c.q q).base f.index r detail now] }.setQ q
      { c.q q with inFlight := some { f with phase := .writing } }

/-- The Command Port with a read of `len` bytes at `addr` issued for the command in flight in the normal queue, which waits for
it (R189). -/
def Cmp.reading (purpose : Purpose) (addr len now : Nat) (c : Cmp) : Cmp :=
  { c with
    dma := c.dma ++
      [{ purpose := purpose, unit := .normal, addr := addr, len := len, segs := [], issued := now, strip := none }]
    normal := { c.normal with inFlight := c.normal.inFlight.map fun f => { f with phase := .working } } }

/-- The Command Port with an image written for the command in flight in the normal queue, which waits for it (R193). -/
def Cmp.writing (addr : Nat) (image : List Byte) (now : Nat) (c : Cmp) : Cmp :=
  { c with
    dma := c.dma ++
      [{ purpose := .imageWrite, unit := .normal, addr := addr, len := image.length, segs := [(addr, image)]
         issued := now, strip := none }]
    normal := { c.normal with inFlight := c.normal.inFlight.map fun f => { f with phase := .working } } }

/-- The Command Port without the oldest transfer of a purpose and unit. -/
def Cmp.without (purpose : Purpose) (unit : DmaUnit) (c : Cmp) : Cmp :=
  { c with dma := c.dma.eraseP (Transfer.isOf purpose unit) }

/-- From `s` to `t` a DMA failure was entered: it filled the empty record, or set the more flag (R198). -/
def EntersDmaError (x : Transfer) (kind : DmaKind) (s t : State) : Prop :=
  match s.cmp.dmaErr with
  | none => t.cmp.dmaErr =
      some { purpose := x.purpose, kind := kind, addr := x.addr, unit := x.unit, beat := s.su.beat
             strip := x.strip.map (·.addr) }
  | some r => t.cmp.dmaErr = some r ∧ t.cmp.dmaMore = true

/-- At the moment `t` of the step `j` the transfer `x` fails with `kind`: it is the oldest in flight issued 1 ms ago, or the
one of its purpose and unit that can come back next, answered with an error completion (R197). -/
def FailsTransfer (t : Nat) (j : Instr) (kind : DmaKind) (x : Transfer) (s : State) : Prop :=
  (j = .dmaTimeout t ∧ kind = .timeout ∧
      s.cmp.dma.find? (fun y => decide (y.issued + 1000000 ≤ max s.now t)) = some x) ∨
    (kind = .errorCompletion ∧ s.cmp.ready x.purpose x.unit = some x ∧
      match x.purpose with
      | .descriptorRead => ∃ k, x.unit = queueUnit k ∧ j = .descriptorReadComplete t k .error
      | .resultWriteback => ∃ k, x.unit = queueUnit k ∧ j = .writebackComplete t k false
      | .configRead => x.unit = .normal ∧ j = .configReadComplete t .error
      | .markTableRead => x.unit = .normal ∧ j = .markTableReadComplete t .error
      | .pageMapRead => x.unit = .normal ∧ j = .pageMapReadComplete t .error
      | .publishListRead => x.unit = .normal ∧ j = .publishListReadComplete t .error
      | .tileRead => x.unit = .normal ∧ j = .tileReadComplete t .error
      | .imageWrite => x.unit = .normal ∧ j = .imageWriteComplete t false
      | .eventWrite => x.unit = .event ∧ j = .eventWriteComplete t false
      | .mapEntryRead => ∃ i, x.unit = .camera i ∧ j = .mapEntryReadComplete t i .error
      | .stripWrite => ∃ i, x.unit = .camera i ∧ j = .stripWriteComplete t i false)

/-- A setup write to a queue may be taken: both command queues are empty and stopped, and, for the event queue, its run flag is
clear and no event write is awaiting completion (R187). -/
def Cmp.MaySetUp (q : QueueId) (c : Cmp) : Prop :=
  (∀ k, (c.q k).head = (c.q k).tail ∧ (c.q k).inFlight = none ∧ (c.q k).run = false) ∧
    (q = .event → c.event.run = false ∧ c.event.writing = false)

/-- The event queue takes an event to await its write (R195). -/
def Cmp.takesEvent (c : Cmp) : Bool := c.event.run && decide (c.event.unread + c.event.awaiting.length < c.event.size - 1)

/-- From `s` to `t` one event was posted: it awaits its write, or is counted lost (R195). -/
def Posts (e : Event) (s t : State) : Prop :=
  if s.cmp.takesEvent then t.cmp.event.awaiting = s.cmp.event.awaiting ++ [e] ∧ t.cmp.eventsLost = s.cmp.eventsLost
  else t.cmp.event = s.cmp.event ∧ t.cmp.eventsLost = bump s.cmp.eventsLost

/-- The events awaiting their write and the count of lost ones are as they were: no event was posted. -/
def PostsNothing (s t : State) : Prop :=
  t.cmp.event.awaiting = s.cmp.event.awaiting ∧ t.cmp.eventsLost = s.cmp.eventsLost

/-- An invalidate's list names index `n` of page `p`, with version `v` wherever it names it. -/
abbrev Lists (tiles : List (Nat × Nat × Nat)) (p n v : Nat) : Prop :=
  (p, n, v) ∈ tiles ∧ ∀ y ∈ tiles, y.1 = p → y.2.1 = n → y.2.2 = v

/-! ## Joining the change list, leaving the ring -/

/-- An offered entry meets nothing in the pending change list: it is neither there nor the last applied change, no rival of
its beat is there, and the list has room (R49). -/
def Su.Fits (e : Entry) (u : Su) : Prop :=
  u.holds e = false ∧ u.list.find? (Entry.rival e) = none ∧ u.list.length < 8

/-- From `s` to `t` the station left the ring and stands in BYPASSED for `reason` (R10, R22, R23, R26, R36, R42, R60, R62,
R69). -/
structure State.LeftRing (reason : BypassReason) (s t : State) : Prop where
  link : t.mc.link = .bypassed ∧ t.mc.reason = reason
  roster : t.mc.roster = emptyRoster ((s.cfg.map (·.required)).getD 0)
  timers : t.mc.insTimer = none ∧ t.mc.leaveTimer = none ∧ t.mc.dupQuiet = 0
  lanes : t.rp.urgent = [] ∧ t.rp.bulk = [] ∧ t.rp.waitList = [] ∧ t.rp.held = [] ∧ t.rp.pass = [] ∧
    t.rp.tx = s.rp.tx.cutOff
  watch : t.rp.watch = [] ∧ t.rp.consecMissing = 0 ∧ t.rp.errWindow = 0
  shaft : t.su.step = .shaftIdle ∧ t.su.adopted = false ∧ t.su.line = s.su.line ∧ t.su.beat = s.su.beat
  causes : ∀ d, t.causeTrue 6 0 = false ∧ t.causeTrue 7 0 = false ∧ t.causeTrue 8 d = false ∧ t.causeTrue 9 0 = false ∧
    t.causeTrue 9 1 = false ∧ t.causeTrue 10 0 = false ∧ t.causeTrue 11 d = false ∧ t.causeTrue 12 0 = false
  viewers : t.scu.viewers = Quad.rep []
  kept : t.cfg = s.cfg ∧ t.cu = s.cu ∧ t.pending = s.pending ∧ t.pins = { s.pins with lock := t.pins.lock }

/-! ## Safe states -/

/-- An axis is energised only while the e-stop input is not asserted and no TorqueOff entry applies (R89, R90). -/
def State.torqueSafe (s : State) : Prop :=
  ∀ i : Fin 4, (s.au.axes.get i).state.energised = true → s.pins.eStop = false ∧ s.torqueOffHeld = false

/-- The line speed, its target, the speed of the tick in progress and the targets waiting in the list are within the
maximum line speed (R46, R49, R70). -/
def State.speedSafe (s : State) : Prop :=
  s.su.line.speed ≤ s.maxSpeed ∧ s.su.line.target ≤ s.maxSpeed ∧ s.su.next.speed ≤ s.maxSpeed ∧
    ∀ origin num target accel decel beat,
      Entry.set origin num target accel decel beat ∈ s.su.list → target ≤ s.maxSpeed

/-- A list of frames holds at most one Shaft frame. -/
abbrev oneShaft (l : List LaneFrame) : Prop := (l.filter LaneFrame.isShaft).length ≤ 1

/-- The lanes of the Ring Port and the offers that wait for them (R7 to R9): the bounds of R7, one waiting frame of the
Shaft class at most and none beside a Shaft frame in the bulk lane, and the bounds of the return watch (R20, R22). -/
structure State.LanesBounded (s : State) : Prop where
  urgent : s.rp.urgent.length ≤ 8 ∧ oneShaft s.rp.urgent
  bulk : s.rp.bulk.length ≤ 32 ∧ oneShaft s.rp.bulk
  wait : s.rp.waitList.Nodup ∧ oneShaft s.rp.held
  shaftWaits : s.rp.held.any LaneFrame.isShaft = true → 1 ∈ s.rp.waitList
  shaftAlone : 1 ∈ s.rp.waitList → s.rp.bulk.any LaneFrame.isShaft = false
  corrections : s.mu.sendList.length ≤ 8 ∧ ∀ f ∈ s.mu.sendList, f.kind = .correction
  watch : s.rp.watch.length ≤ 16 ∧ (s.rp.watch.map (·.sequence)).Nodup ∧ s.rp.consecMissing ≤ 3

/-- The pending change list holds at most eight entries, no identity or key twice (R48). -/
abbrev State.listBounded (s : State) : Prop := s.su.list.length ≤ 8 ∧ (s.su.list.map Entry.ident).Nodup

/-- The trip table holds at most 32 entries, no key twice, and the Axis Unit's local stop level is the one the table calls
for (R88, R138, R140, R147). -/
abbrev State.tripsBounded (s : State) : Prop :=
  s.tu.table.length ≤ 32 ∧ (s.tu.table.map (·.key)).Nodup ∧ s.au.localStop = s.localStopLevel

/-- Every configured axis passes the revolution check (R74); one in COUPLED has its accumulator and remainder at the values
of the direct formula for the angle from which the next tick goes on (R76), one in COUPLING its remainder (R80, R82). -/
def State.geared (s : State) : Prop :=
  ∀ i c, s.axisCfg i = some c →
    (1 ≤ c.d ∧ 16777216 * c.n % c.d = 0 ∧ 16777216 * c.n / c.d % c.m = 0) ∧
      ((s.axis i).state = .coupled →
        (s.axis i).g = directG c s.su.comingAngle (s.axis i).phase ∧ (s.axis i).rmd = directRmd c s.su.comingAngle) ∧
      ((s.axis i).state = .coupling → (s.axis i).rmd = directRmd c s.su.comingAngle)

/-- The stores of the Camera and Screen Units keep their bounds: write queues of 16 records (R110), a map cache of eight
places without two translations of one tag (R113), a tile store of 512 entries and eight fill slots of 16 parts without two
of one tile (R164, R169), viewer sets of eight entries without two of one key (R178), and 768 positions (R162). -/
structure State.StoresBounded (s : State) : Prop where
  queues : ∀ i, (s.cam i).queue.length ≤ 16
  cache : s.cu.cache.length = 8 ∧ s.cu.pointer < 8 ∧
    ((s.cu.cache.filterMap id).map fun x => (x.cam, x.page)).Nodup
  tiles : s.scu.tiles.length ≤ 512 ∧ (s.scu.tiles.map (·.id)).Nodup
  fills : s.scu.fills.length ≤ 8 ∧ (s.scu.fills.map (·.id)).Nodup ∧ ∀ f ∈ s.scu.fills, f.parts.length = 16
  viewers : ∀ i, (s.scu.viewers.get i).length ≤ 8 ∧
    ((s.scu.viewers.get i).map fun v => (v.station, v.slot)).Nodup
  positions : s.scu.pageMap.length = 768

/-! ## A configuration in effect -/

/-- From `s` to `u` a configuration has taken effect in every block (R74, R115, R133, R152, R184, R191): the roster's required
marks, the line within the maximum speed, the axes at their reset values, the cameras set afresh and the map cache empty with
their counters kept, every register loop off, and the screen empty; the causes these hold are false, and those of the rest of
the part are as they were. -/
structure State.Configured (c : Cfg) (s u : State) : Prop where
  config : u.cfg = some c ∧ u.pins = s.pins ∧ u.cmp.warmCount = s.cmp.warmCount
  members : u.mc =
    { s.mc with roster := s.mc.roster.mapIdx fun n r => { r with required := c.required.getLsbD (n + 1) } }
  line : u.su.line =
    { s.su.line with speed := min s.su.line.speed c.maxSpeed, target := min s.su.line.target c.maxSpeed }
  place : u.su.beat = s.su.beat ∧ u.su.step = s.su.step
  targets : ∀ origin num target accel decel beat, Entry.set origin num target accel decel beat ∈ u.su.list →
    target ≤ c.maxSpeed
  axes : ∀ i, u.axis i = Axis.reset (if (c.axes.get i).isSome = true then .torqueOff else .disabled)
  stop : u.au.localStop = u.localStopLevel
  cameras : u.cu =
    { s.cu with
      cams := Quad.rep .reset, sweep := none, lastSweep := none, cache := List.replicate 8 none, pointer := 0
      invalidate := false, draining := none }
  loops : ∀ i, (u.loop i).state = .off ∧ ((c.cams.get i).isNone = true → u.loop i = Loop.reset) ∧
    ((c.cams.get i).isSome = true → u.loop i = { s.loop i with
      state := .off
      entries := (s.loop i).entries.map fun e =>
        { e with acc := none, results := [], missing := 0, tolCount := 0, hold := false } })
  screen : u.scu =
    { Scu.reset with
      storeFull := s.scu.storeFull, fillIgnored := s.scu.fillIgnored, fillFailures := s.scu.fillFailures }
  first : s.tu.first.isSome = true → u.tu.first = s.tu.first
  quiet : ∀ k d, k ∈ [13, 14, 15, 16, 18] → u.causeTrue k d = false
  marks : ∀ (i : Fin 4) d, d / 8 = i.val → u.causeTrue 17 d = false
  others : ∀ k d, k ≤ 11 ∨ 19 ≤ k → u.causeTrue k d = s.causeTrue k d

/-! ## Mark tables that are accepted -/

/-- The loaded fields of entry `n` of a mark table lie in their ranges; of the reference only the window is checked
(R118). Bounds that a field's width gives are left out. -/
structure MarkEntry.Accepted (n : Nat) (e : MarkEntry) : Prop where
  window : 1 ≤ e.length ∧ e.length ≤ 16777216 ∧ e.start + e.length ≤ 4294967296
  mark : 1 ≤ n → 1 ≤ e.station ∧ e.station ≤ 31 ∧ e.axis ≤ 3 ∧ e.gain ≤ 16 ∧ e.deadband ≤ 16777215 ∧
    1 ≤ e.maxStep ∧ e.maxStep ≤ 16777216 ∧ e.tolerance ≤ 16777215

/-! ## Fields that fit their places in a payload (10.1) -/

/-- The fields of a pending entry fit its 16 bytes. -/
def Entry.Sendable : Entry → Prop
  | .set origin num target accel decel beat =>
      origin < 256 ∧ num < 65536 ∧ target < two32 ∧ accel < 65536 ∧ decel < 65536 ∧ beat < two32
  | .release origin num beat => origin < 256 ∧ num < 65536 ∧ beat < two32
  | .stop origin cause detail _ beat => origin < 256 ∧ cause ≤ 21 ∧ detail < 256 ∧ beat < two32

/-- The fields of a Shaft message fit its payload. -/
def ShaftMsg.Sendable (m : ShaftMsg) : Prop :=
  m.beat < two32 ∧ m.founder < 256 ∧ m.line.angle < two32 ∧ m.line.rev < 65536 ∧ m.line.speed < two32 ∧
    m.line.target < two32 ∧ m.line.accel < 65536 ∧ m.line.decel < 65536 ∧
    (∀ p, m.line.last = some p → 1 ≤ p.1 ∧ p.1 < 256 ∧ p.2 < 65536) ∧ m.entries.length ≤ 2 ∧
    ∀ e ∈ m.entries, e.Sendable

/-- The fields of a Tile control message fit its payload. -/
def TileCtl.Sendable : TileCtl → Prop
  | .invalidate group count tiles =>
      group < 256 ∧ count = tiles.length ∧ count < 256 ∧ ∀ t ∈ tiles, t.1 < 256 ∧ t.2.1 < 65536 ∧ t.2.2 < 65536
  | .request held page index => page < 256 ∧ index < 65536 ∧ ∀ v, held = some v → v < 65536
  | .touch _ page x index y => page < 256 ∧ x < 256 ∧ index < 65536 ∧ y < 256
  | .viewRequest slot cam k width => slot < 256 ∧ cam < 256 ∧ k < 256 ∧ width < 65536
  | .viewStop slot cam => slot < 256 ∧ cam < 256
  | .viewRefusal slot cam reason => slot < 256 ∧ cam < 256 ∧ 1 ≤ reason ∧ reason ≤ 2

/-- The fields of a header fit its 20 bytes. -/
def Header.Sendable (h : Header) : Prop :=
  h.kindCode < 16 ∧ h.cls < 8 ∧ h.origin < 256 ∧ h.dest < 256 ∧ h.sequence < 256 ∧ h.hop < 256 ∧ h.check < 256 ∧
    h.transit < 65536 ∧ h.launchDelay < 65536 ∧ h.fragIndex < 256 ∧ h.fragCount < 256 ∧ h.length < 65536

end Sys2Proof.Machine
end

