-- ==== Sys2Proof/Certificates/Slice0/Obligations.lean ====
section
/-! DEFINITION. The statements for the provers. In each, `s` is the state before a step and `u` the state after it, taken at
the moment `t` of the step where the step has one. -/

open Sys2Proof Sys2Proof.Machine

/-! ## The queue and the resets -/

/-- The step at the front of the queue is executed on the state with the queue's rest. On an empty queue the part idles, which
is the model's choice (log 2). -/
def Obligations.StepRunsFront : Prop :=
  (∀ (c : Instr) (rest : List Instr) (s : State), s.pending = c :: rest → step s = exec c { s with pending := rest }) ∧
    ∀ s : State, s.pending = [] → step s = .next s

/-- What the part holds right after power-on (R25, R43, R45, R71, R96, R113, R116, R133, R160, R185, R201). -/
def Obligations.ResetValues : Prop :=
  State.reset.mc.link = .dark ∧ State.reset.bypassOut = true ∧ State.reset.mc.joinStamp = 0 ∧ State.reset.mc.ticks = 0 ∧
    (∀ n, State.reset.isPresent n = false) ∧ State.reset.cfg = none ∧
    State.reset.rp.seq = 0 ∧ State.reset.rp.urgent = [] ∧ State.reset.rp.bulk = [] ∧ State.reset.rp.waitList = [] ∧
    State.reset.rp.pass = [] ∧ State.reset.rp.watch = [] ∧ State.reset.rp.tx = .idle ∧
    State.reset.su.step = .shaftIdle ∧ State.reset.su.founder = 0 ∧ State.reset.su.beat = 0 ∧ State.reset.su.list = [] ∧
    State.reset.su.line =
      { angle := 0, rev := 0, speed := 0, target := 0, accel := 1, decel := 1, stop := .none, last := none } ∧
    (∀ i, (State.reset.axis i).state = .disabled ∧ State.reset.torqueOffOut i = true) ∧
    (∀ i h, (((State.reset.cam i).buf h).partOwned = false) ∧ (State.reset.cam i).trigs = []) ∧
    (∀ i page, State.reset.cu.lookup i page = none) ∧
    (∀ i n, (State.reset.loop i).state = .off ∧ ((State.reset.loop i).entry n).enabled = false) ∧
    State.reset.tu.causes = [] ∧ State.reset.tu.table = [] ∧ State.reset.tu.first = none ∧
    State.reset.gateOpen = true ∧ State.reset.tu.noticeOut = false ∧
    (∀ pos, State.reset.scu.pageMap.getD pos .blank = .blank) ∧ State.reset.scu.tiles = [] ∧
    (∀ i, (State.reset.scu.view i).state = .closed) ∧
    (∀ q, State.reset.running q = false) ∧ State.reset.counters = List.replicate 24 0 ∧
    State.reset.cmp.dmaErr = none ∧ State.reset.cmp.warmCount = 0 ∧ State.reset.cmp.dma = []

/-- The state after power-on meets every invariant stated of the steps. -/
def Obligations.ResetMeetsInvariants : Prop :=
  State.reset.LanesBounded ∧ State.reset.listBounded ∧ State.reset.speedSafe ∧ State.reset.torqueSafe ∧
    State.reset.tripsBounded ∧ State.reset.geared ∧ State.reset.StoresBounded

/-- The two resets (R25, R43, R71, R96, R116, R133, R160, R185, R192, R201). Either reports the trip inputs that are asserted
at its end (R136); the warm reset keeps the configuration, the queue setup, the tick counter, the first-trip record and the
source identifiers, loses the trip table, and abandons events, transfers and the DMA error record. That the clock and the levels
of the inputs survive a reset is the model's inference (log 35), and so is that a frame being sent is cut off by it (log 61) and
that an own WARM RESET's write-back is not abandoned by the input (log 43). That a warm reset keeps the notice held back is the
model's choice (log 68), and so are the reset values that the data book does not give (log 44). -/
def Obligations.ResetSteps : Prop :=
  (∀ (t : Nat) (s : State), ∃ u, exec (.coldReset t) s = .next u ∧
    ((State.cold (max s.now t) { s.pins with lock := false } s.pending).onRp
      (fun _ => { Rp.reset with tx := s.rp.tx.cutOff })).Reported u ∧
    u.rp = { Rp.reset with tx := s.rp.tx.cutOff } ∧
    (∀ i, u.axis i = Axis.reset .disabled) ∧
    (s.pins.eStop = true → u.causeTrue 0 0 = true) ∧ (s.pins.guard = true → u.causeTrue 1 0 = true) ∧
    (∀ n, s.pins.ext.get n = true → u.causeTrue (n.val + 2) 0 = true) ∧
    (s.pins.stopKey = true → u.causeTrue 20 0 = true)) ∧
  ∀ (t : Nat) (s : State), ∃ u, exec (.warmInput t) s = .next u ∧
    u.pending = s.pending ∧ u.now = max s.now t ∧ u.pins = { s.pins with lock := false } ∧ u.cfg = s.cfg ∧
    u.rp = { Rp.reset with tx := s.rp.tx.cutOff } ∧ u.mc = Mc.reset s.mc.ticks ((s.cfg.map (·.required)).getD 0) ∧
    u.cu = Cu.reset ∧ u.mu = Mu.reset ∧ u.scu = Scu.reset ∧
    u.inMc = [] ∧ u.inSu = [] ∧ u.inTu = [] ∧ u.inAu = [] ∧ u.inScu = [] ∧
    u.su.beat = 0 ∧ u.su.line = Line.initial ∧ u.su.founder = 0 ∧ u.su.step = .shaftIdle ∧ u.su.adopted = false ∧
    (s.su.inTick = true → u.su.inTick = true ∧ u.su.tickEnd = s.su.tickEnd ∧ u.su.beatZeroDue = true) ∧
    (∀ i, u.axis i = Axis.reset (axisResetState (s.axisCfg i))) ∧
    (s.tu.first.isSome = true → u.tu.first = s.tu.first) ∧
    u.cmp.warmCount = (s.cmp.warmCount + 1) % 256 ∧
    (∀ q, u.cmp.q q =
      { s.cmp.q q with
        head := (s.cmp.q q).tail, fetching := false, waitTail := false, inFlight := (u.cmp.q q).inFlight }) ∧
    u.cmp.urgent.inFlight = none ∧ u.cmp.dmaErr = none ∧ u.cmp.dmaMore = false ∧
    (s.cmp.normal.warmWriting = false → u.cmp.normal.inFlight = none) ∧
    (s.pins.eStop = false → s.pins.guard = false → (∀ n, s.pins.ext.get n = false) → s.pins.stopKey = false →
      u.tu = { Tu.reset with
        first := s.tu.first, more := s.tu.more, firstTorqueOff := s.tu.firstTorqueOff, firstStop := s.tu.firstStop
        firstWarn := s.tu.firstWarn, multiTorqueOff := s.tu.multiTorqueOff, noticeHeld := s.tu.noticeHeld } ∧
      u.cmp.event.awaiting = [] ∧ u.cmp.event.writing = false ∧ u.cmp.lostPending = 0 ∧
      u.counters = List.replicate 24 0 ∧
      u.cmp.dma = if s.cmp.normal.warmWriting = true then s.cmp.dma.filter (Transfer.isOf .resultWriteback .normal) else []) ∧
    (u.cmp.event.base, u.cmp.event.size, u.cmp.event.run, u.cmp.event.head, u.cmp.event.tail) =
      (s.cmp.event.base, s.cmp.event.size, s.cmp.event.run, s.cmp.event.head, s.cmp.event.tail) ∧
    (s.pins.eStop = true → u.causeTrue 0 0 = true) ∧ (s.pins.guard = true → u.causeTrue 1 0 = true) ∧
    (∀ n, s.pins.ext.get n = true → u.causeTrue (n.val + 2) 0 = true) ∧
    (s.pins.stopKey = true → u.causeTrue 20 0 = true)

/-- The loss of the host link (R115, R159, R185, R199): cause 21 is true, the queues are not set up, transfers and events
waiting are gone, strip buffers are the host's, and the line, the roster and the configuration stay. That a gap is open on
every camera, with count 0 where none was, is an inference of the model (log 49), and that the selector stays its choice
(log 66). A configuration that waits for strip writes is abandoned with its command (log 25). -/
def Obligations.HostLinkLoss : Prop :=
  ∀ (t : Nat) (s : State), ∃ u, exec (.hostLinkLoss t) s = .next u ∧
    u.now = max s.now t ∧ u.pending = s.pending ∧ u.pins = s.pins ∧ u.cfg = s.cfg ∧ u.mc = s.mc ∧ u.mu = s.mu ∧
    u.causeTrue 21 0 = true ∧
    u.su = { s.su with
      list := u.su.list, calm := u.su.calm, lateThisBeat := u.su.lateThisBeat, lateChanges := u.su.lateChanges
      droppedEntries := u.su.droppedEntries } ∧
    u.cmp.urgent = CmdQ.reset ∧ u.cmp.normal = CmdQ.reset ∧ u.cmp.event = EvQ.reset ∧ u.cmp.dma = [] ∧
    u.cmp.dmaErr = s.cmp.dmaErr ∧ u.cmp.warmCount = s.cmp.warmCount ∧
    u.scu = { s.scu with pub := none } ∧
    u.tu.noticeOut = false ∧ u.tu.changesPending = true ∧ u.tu.noticeHeld = true ∧
    (s.tu.first.isSome = true → u.tu.first = s.tu.first) ∧
    u.cu = { s.cu with cams := u.cu.cams, draining := none } ∧ ∀ i, u.cam i =
      { s.cam i with
        even := .hostOwned, odd := .hostOwned, queue := [], inProgress := false, gap := some ((s.cam i).gap.getD 0) }

/-! ## The inputs of the cabinet -/

/-- The e-stop input, the trip inputs and the panel stop key (R90, R134, R136): a change of level is taken into the inputs and
reported as its cause; the e-stop takes torque from every axis; a level that does not change does nothing. For every own cause,
whichever block reports it: one that becomes true or false in MEMBER or LEAVING, not Masked and of Ring scope, has its RAISE or
CLEAR frame offered, and no frame is offered otherwise (R148, R150, R151). -/
def Obligations.CabinetInputs : Prop :=
  (∀ (s u : State) (c d : Nat), s.causeTrue c d = false → u = s.reportTrue c d →
    (s.mc.link.isMember = false → u.rp = s.rp) ∧
    ((c = 12 ∧ d = 0) ∨ u.causeTrue 12 0 = s.causeTrue 12 0 ∨ (s.causeEntry 12).1 = .masked ∨ (s.causeEntry 12).2 = .here →
      ((s.causeEntry c).1 = .masked ∨ (s.causeEntry c).2 = .here → u.rp = s.rp) ∧
      (s.mc.link.isMember = true → (s.causeEntry c).1 ≠ .masked → (s.causeEntry c).2 = .ring →
        u.rp = (s.offer (wholeFrame .trip 0 (tripPayload .raise ⟨s.ownStation, c, d⟩ (s.causeEntry c).1 .ring
          ((s.su.beat + 2) % two32) s.su.founder))).rp))) ∧
  (∀ (s u : State) (c d : Nat) (x : OwnCause), s.tu.causes.find? (fun y => y.cause == c && y.detail == d) = some x →
    u = s.reportFalse c d →
    (s.mc.link.isMember = false ∨ (s.causeEntry c).1 = .masked ∨ (s.causeEntry c).2 = .here → u.rp = s.rp) ∧
    (s.mc.link.isMember = true → (s.causeEntry c).1 ≠ .masked → (s.causeEntry c).2 = .ring →
      u.rp = (s.offer (wholeFrame .trip 0 (tripPayload .clear ⟨s.ownStation, c, d⟩ (s.causeEntry c).1 .ring x.beat
        x.founder))).rp)) ∧
  (∀ (t : Nat) (s : State), s.pins.eStop = false → ∃ u, exec (.eStopAsserted t) s = .next u ∧
    ({ s.atTime t with pins := { s.pins with eStop := true } }).Reported u ∧ u.causeTrue 0 0 = true ∧
    u.rp = (s.report 0 0 true).rp ∧
    ∀ i, (u.axis i).state.energised = false ∧ u.torqueOffOut i = true) ∧
  (∀ (t : Nat) (s : State), s.pins.eStop = true → exec (.eStopAsserted t) s = .next (s.atTime t)) ∧
  (∀ (t : Nat) (s : State), s.pins.eStop = true → ∃ u, exec (.eStopReleased t) s = .next u ∧
    ({ s.atTime t with pins := { s.pins with eStop := false } }).Reported u ∧ u.au.axes = s.au.axes ∧ u.su = s.su ∧
    u.rp = (s.report 0 0 false).rp ∧ ∀ c d, u.causeTrue c d = (s.causeTrue c d && !(c == 0 && d == 0))) ∧
  (∀ (t : Nat) (s : State), s.pins.eStop = false → exec (.eStopReleased t) s = .next (s.atTime t)) ∧
  (∀ (t : Nat) (input : TripInput) (b : Bool) (s : State), s.pins.trip input ≠ b →
    ∃ u, exec (.tripInputChange t input b) s = .next u ∧
      ({ s.atTime t with pins := s.pins.setTrip input b }).Reported u ∧ u.pins.trip input = b ∧
      u.causeTrue (tripInputCause input) 0 = b ∧ u.rp = (s.report (tripInputCause input) 0 b).rp) ∧
  (∀ (t : Nat) (input : TripInput) (b : Bool) (s : State), s.pins.trip input = b →
    exec (.tripInputChange t input b) s = .next (s.atTime t)) ∧
  (∀ (t : Nat) (b : Bool) (s : State), s.pins.stopKey ≠ b → ∃ u, exec (.panelStopKey t b) s = .next u ∧
    ({ s.atTime t with pins := { s.pins with stopKey := b } }).Reported u ∧ u.causeTrue 20 0 = b ∧
    u.rp = (s.report 20 0 b).rp) ∧
  ∀ (t : Nat) (b : Bool) (s : State), s.pins.stopKey = b → exec (.panelStopKey t b) s = .next (s.atTime t)

/-- A touch (R161, R176): without a screen it is not read; with one it is routed by the content at its position, to an event of
the own host or to a Touch frame for the tile's publisher, and a frame refused outside the ring becomes a local event with the
flag not delivered. That an inset position outside its slot's rectangle is routed as a position is an inference of the model
(log 38). -/
def Obligations.TouchRouted : Prop :=
  ∀ (t : Nat) (press : Bool) (x y : Nat) (s : State),
    (s.screen = false → exec (.touch t press x y) s = .next (s.atTime t)) ∧
    (s.screen = true → ∃ u, exec (.touch t press x y) s = .next u ∧
      u = { s.atTime t with scu := { s.scu with touchInCourse := press }, rp := u.rp, cmp := u.cmp } ∧
      (s.scu.pageMap.getD (y / 32 * 32 + x / 32) .blank = .blank →
        u.rp = s.rp ∧ Posts (.touch 0 press false false 0 (x % 32) (y % 32) (y / 32 * 32 + x / 32)) s u) ∧
      (∀ id, s.scu.pageMap.getD (y / 32 * 32 + x / 32) .blank = .tile id → id.publisher = s.ownStation →
        u.rp = s.rp ∧ Posts (.touch s.ownStation press false false id.page (x % 32) (y % 32) id.index) s u) ∧
      (∀ id, s.scu.pageMap.getD (y / 32 * 32 + x / 32) .blank = .tile id → id.publisher ≠ s.ownStation →
        s.mc.link.inRing = true →
        u.cmp = s.cmp ∧ u.rp = (s.offer (wholeFrame .tileControl id.publisher
          (tileCtlPayload (.touch press id.page (x % 32) id.index (y % 32))))).rp) ∧
      (∀ id, s.scu.pageMap.getD (y / 32 * 32 + x / 32) .blank = .tile id → id.publisher ≠ s.ownStation →
        id.page < 64 → id.index < 768 → s.mc.link.inRing = false →
        u.rp = s.rp ∧ Posts (.touch 0 press true false id.page (x % 32) (y % 32) id.index) s u) ∧
      (∀ i, s.scu.pageMap.getD (y / 32 * 32 + x / 32) .blank = .inset i →
        (s.scu.view i).shows (y / 32 * 32 + x / 32) = true →
        u.rp = s.rp ∧ Posts (.touch 0 press false true i.val (x - (s.scu.view i).position % 32 * 32)
          (y - (s.scu.view i).position / 32 * 32) 0) s u) ∧
      ∀ i, s.scu.pageMap.getD (y / 32 * 32 + x / 32) .blank = .inset i →
        (s.scu.view i).shows (y / 32 * 32 + x / 32) = false →
        u.rp = s.rp ∧ Posts (.touch 0 press false false 0 (x % 32) (y % 32) (y / 32 * 32 + x / 32)) s u)

/-! ## The ring -/

/-- Light and symbol lock (R1, R3, R15, R29, R31): losing either cuts the frame in reception and reports cause 6 in the ring;
gaining lock starts the blocks of a light check, ends INSERTING, or reports cause 6 false. A test block cut off by a loss of
lock is in error. The attempt number and the error count 0 in the event of INSERTING to LISTEN are the model's choice
(log 30). -/
def Obligations.LightAndLock : Prop :=
  (∀ (t : Nat) (mid : Bool) (arrived : List Byte) (s : State) (i : Instr) (p : Pins),
    (i = .lightLost t mid arrived ∧ s.pins.light = true ∧ p = { s.pins with light := false, lock := false }) ∨
      (i = .symbolLockLost t mid arrived ∧ s.pins.lock = true ∧ p = { s.pins with lock := false }) →
    ∃ u, exec i s = .next u ∧ u.pins = p ∧ u.now = max s.now t ∧
      u.mc = (if s.mc.link = .lightCheck ∧ s.pins.lock = true ∧ s.mc.check.lockAt ≠ none ∧
          s.mc.check.returned < s.repeats ∧ (mid = true ∨ arrived ≠ []) then
        { s.mc with check := { s.mc.check with
          returned := s.mc.check.returned + 1, errors := s.mc.check.errors + 1 } }
      else s.mc) ∧
      u.cfg = s.cfg ∧ u.cu = s.cu ∧ u.mu = s.mu ∧ u.scu = s.scu ∧
      u.inMc = s.inMc ∧ u.inSu = s.inSu ∧ u.inTu = s.inTu ∧ u.inAu = s.inAu ∧
      u.inScu = s.inScu ∧ u.rp.rx = none ∧ (s.mc.link.inRing = true → u.causeTrue 6 0 = true) ∧
      (∀ rx, s.rp.rx = some rx → rx.fate = .forwarded →
        u.rp.pass = (s.rp.closeForwarded arrived .abortDelim).pass ∧
        u.rp.tx = (s.rp.closeForwarded arrived .abortDelim).tx ∧ u.rp.receiverErrors = bump s.rp.receiverErrors) ∧
      (s.rp.rx = none → mid = false → ({ s.atTime t with pins := p, mc := u.mc }).Reported u)) ∧
  (∀ (t : Nat) (mid : Bool) (arrived : List Byte) (s : State), s.pins.light = false →
    exec (.lightLost t mid arrived) s = .next (s.atTime t)) ∧
  (∀ (t : Nat) (mid : Bool) (arrived : List Byte) (s : State), s.pins.lock = false →
    exec (.symbolLockLost t mid arrived) s = .next (s.atTime t)) ∧
  (∀ (t : Nat) (s : State), s.pins.lock = true → exec (.symbolLockGained t) s = .next (s.atTime t)) ∧
  ∀ (t : Nat) (s : State), s.pins.lock = false → ∃ u, exec (.symbolLockGained t) s = .next u ∧
    u.pins = { s.pins with light := true, lock := true } ∧ u.now = max s.now t ∧
    (s.mc.link = .lightCheck → s.mc.check.lockAt = none →
      u = { s.atTime t with
        pins := u.pins, mc := { s.mc with check := { s.mc.check with lockAt := some (max s.now t) } }
        rp := { s.rp with tx := if 0 < s.repeats then .test s.mc.attempt 0 else .idle } }) ∧
    (s.mc.link = .inserting →
      u = { s.atTime t with pins := u.pins, mc := u.mc, su := u.su, rp := u.rp, cmp := u.cmp } ∧
      u.mc = { s.mc with link := .listen, listen := 0, insTimer := none } ∧
      u.su = { s.su with heardQualifying := false } ∧ Posts (.linkChanged .listen .inserting .none 0 0) s u ∧
      u.rp = ({ s with mc := u.mc }.offer (wholeFrame .hello 0 (helloPayload
        { link := .listen, shaftMember := s.shaftMember, speedAuthority := s.speedAuthority, step := s.su.step
          founder := s.su.founder, stamp := s.mc.joinStamp }))).rp) ∧
    (s.mc.link.inRing = true → ({ s.atTime t with pins := u.pins }).Reported u ∧
      ∀ c d, u.causeTrue c d = (s.causeTrue c d && !(c == 6 && d == 0))) ∧
    (s.mc.link.isOut = true → u = { s.atTime t with pins := u.pins })

/-- A frame's header taken by receive handling (R11 to R13): an own-origin frame is stripped, an orphan is stripped and counted,
any other frame joins the pass buffer. What was in reception before is cut off. That the orphan test asks for a header check
that matches, and not for the length, is an inference of the model (log 82). -/
def Obligations.HeaderArrival : Prop :=
  ∀ (arrival : Nat) (header : List Byte) (s : State),
    (s.mc.link.receives = true → s.pins.lock = true →
      ∃ b u, b = (s.atTime (arrival + 168)).cutReception false [] ∧
        exec (.frameHeaderArrival arrival header) s = .next u ∧
        u = { b with rp := { b.rp with rx := u.rp.rx, pass := u.rp.pass, orphans := u.rp.orphans } } ∧
        ((parseHeader header).origin = s.ownStation →
          u.rp.rx = some ⟨header, arrival, .ownOrigin⟩ ∧ u.rp.pass = b.rp.pass ∧ u.rp.orphans = b.rp.orphans) ∧
        ((parseHeader header).origin ≠ s.ownStation → headerCheckOk header = true → (parseHeader header).hop = 31 →
          u.rp.rx = some ⟨header, arrival, .orphan⟩ ∧ u.rp.pass = b.rp.pass ∧ u.rp.orphans = bump b.rp.orphans) ∧
        ((parseHeader header).origin ≠ s.ownStation → (headerCheckOk header = false ∨ (parseHeader header).hop ≠ 31) →
          u.rp.rx = some ⟨header, arrival, .forwarded⟩ ∧ u.rp.orphans = b.rp.orphans ∧
          u.rp.pass = b.rp.pass ++ [⟨header, [], arrival, headerFailure header, none⟩])) ∧
    (s.mc.link.receives = false ∨ s.pins.lock = false →
      exec (.frameHeaderArrival arrival header) s = .next (s.atTime (arrival + 168)))

/-- The end of a frame in reception (R11, R12, R14 to R16, R21, R23): a forwarded frame is closed by the end delimiter and copied
to the block of its kind, or closed by the abort delimiter and counted; an own frame is a return or is counted as aborted or as a
receiver error. A receiver error steps its counter and the window, and the sixteenth of a window makes cause 9 true. That a forwarded frame with a header failure counts a receiver error though it ends with the abort delimiter is
the model's choice (log 16), and so is that an ending without a frame in reception is counted (log 15). -/
def Obligations.FrameEnd : Prop :=
  (∀ (t : Nat) (body : List Byte) (ending : FrameEnding) (s : State),
    s.mc.link.receives = false ∨ s.pins.lock = false →
    exec (.frameEndArrival t body ending) s = .next (s.atTime t)) ∧
  (∀ (t : Nat) (body : List Byte) (ending : FrameEnding) (s : State) (rx : Reception) (k : Kind),
    s.mc.link.receives = true → s.pins.lock = true → s.rp.rx = some rx → rx.fate = .forwarded →
    tailGood rx.header body ending = true → kindOfCode (parseHeader rx.header).kindCode = some k →
    ∃ v, v = { s.atTime t with rp := { s.rp with rx := none }.closeForwarded body .endDelim } ∧
      exec (.frameEndArrival t body ending) s = .next
        (if ((parseHeader rx.header).dest = 0 ∨ (parseHeader rx.header).dest = s.ownStation) ∧
            s.mc.link.copies k = true then
          v.handCopy k ⟨rx.header, body.take (parseHeader rx.header).length, rx.arrival⟩
        else v)) ∧
  (∀ (t : Nat) (body : List Byte) (s : State) (rx : Reception),
    s.mc.link.receives = true → s.pins.lock = true → s.rp.rx = some rx → rx.fate = .forwarded →
    headerFailure rx.header = false →
    exec (.frameEndArrival t body .abortDelim) s = .next { s.atTime t with
      rp := { { s.rp with rx := none }.closeForwarded body .abortDelim with aborted := bump s.rp.aborted } }) ∧
  (∀ (t : Nat) (body : List Byte) (ending : FrameEnding) (s : State) (rx : Reception) (v : State),
    s.mc.link.receives = true → s.pins.lock = true → s.rp.rx = some rx → rx.fate = .forwarded →
    tailGood rx.header body ending = false → headerFailure rx.header = true ∨ ending ≠ .abortDelim →
    v = { s.atTime t with rp := { { s.rp with rx := none }.closeForwarded body .abortDelim with
      receiverErrors := bump s.rp.receiverErrors, errWindow := s.rp.errWindow + 1 } } →
    ∃ u, exec (.frameEndArrival t body ending) s = .next u ∧ v.Reported u ∧ (s.rp.errWindow < 15 → u = v) ∧
      (15 ≤ s.rp.errWindow → u.causeTrue 9 0 = true)) ∧
  (∀ (t : Nat) (body : List Byte) (s : State) (rx : Reception),
    s.mc.link.receives = true → s.pins.lock = true → s.rp.rx = some rx → rx.fate = .ownOrigin →
    tailGood rx.header body .endDelim = true →
    ∃ u, exec (.frameEndArrival t body .endDelim) s = .next u ∧ u.rp.rx = none ∧ u.rp.pass = s.rp.pass ∧
      (s.laneOf (parseHeader rx.header).cls = .bulk → u.rp = { s.rp with rx := none }) ∧
      (s.laneOf (parseHeader rx.header).cls = .urgent → s.rp.watches (parseHeader rx.header).sequence = true →
        u.rp.watch = dropWatch (parseHeader rx.header).sequence s.rp.watch ∧ u.rp.consecMissing = 0 ∧
        u.rp.unmatched = s.rp.unmatched ∧ u.causeTrue 7 0 = false) ∧
      (s.laneOf (parseHeader rx.header).cls = .urgent → s.rp.watches (parseHeader rx.header).sequence = false →
        u.rp = { s.rp with rx := none, unmatched := bump s.rp.unmatched }) ∧
      ((parseHeader rx.header).kindCode = Kind.hello.code →
        u.inMc = s.inMc ++ [⟨rx.header, body.take (parseHeader rx.header).length, rx.arrival⟩]) ∧
      ((parseHeader rx.header).kindCode ≠ Kind.hello.code → u.inMc = s.inMc)) ∧
  (∀ (t : Nat) (body : List Byte) (s : State) (rx : Reception),
    s.mc.link.receives = true → s.pins.lock = true → s.rp.rx = some rx → rx.fate = .ownOrigin →
    exec (.frameEndArrival t body .abortDelim) s =
      .next { s.atTime t with rp := { s.rp with rx := none, aborted := bump s.rp.aborted } }) ∧
  (∀ (t : Nat) (body : List Byte) (ending : FrameEnding) (s : State) (rx : Reception) (v : State),
    s.mc.link.receives = true → s.pins.lock = true → s.rp.rx = some rx → rx.fate = .ownOrigin →
    ending ≠ .abortDelim → tailGood rx.header body ending = false →
    v = { s.atTime t with rp := { s.rp with
      rx := none, receiverErrors := bump s.rp.receiverErrors, errWindow := s.rp.errWindow + 1 } } →
    ∃ u, exec (.frameEndArrival t body ending) s = .next u ∧ v.Reported u ∧ (s.rp.errWindow < 15 → u = v) ∧
      (15 ≤ s.rp.errWindow → u.causeTrue 9 0 = true)) ∧
  (∀ (t : Nat) (body : List Byte) (ending : FrameEnding) (s : State) (rx : Reception),
    s.mc.link.receives = true → s.pins.lock = true → s.rp.rx = some rx → rx.fate = .orphan →
    exec (.frameEndArrival t body ending) s = .next { s.atTime t with rp := { s.rp with rx := none } }) ∧
  ∀ (t : Nat) (body : List Byte) (ending : FrameEnding) (s v : State),
    s.mc.link.receives = true → s.pins.lock = true → s.rp.rx = none →
    v = { s.atTime t with rp := { s.rp with
      receiverErrors := bump s.rp.receiverErrors, errWindow := s.rp.errWindow + 1 } } →
    ∃ u, exec (.frameEndArrival t body ending) s = .next u ∧
      (ending = .abortDelim → u = { s.atTime t with rp := { s.rp with aborted := bump s.rp.aborted } }) ∧
      (ending ≠ .abortDelim → v.Reported u ∧ (s.rp.errWindow < 15 → u = v) ∧
        (15 ≤ s.rp.errWindow → u.causeTrue 9 0 = true))

/-- The transmitter at a frame boundary (R2, R13, R17, R19, R20, R29): in a light check the test block of the moment; else a
waiting urgent frame goes out while the pass buffer holds at most 744 bytes, else a frame of the pass buffer with its hop count
and transit rewritten, else a bulk frame when the buffer is empty, else idle fill. A frame launched takes its launch times as R19
gives them. -/
def Obligations.TransmitChoice : Prop :=
  (∀ (f : LaneFrame) (now : Nat),
    (f.kind ≠ .shaft → launchTimes f now = (0, 0)) ∧
    (f.kind = .shaft → (now : Int) - f.beatStart ≤ 65535 → launchTimes f now = (((now : Int) - f.beatStart).toNat, 0)) ∧
    (f.kind = .shaft → 65535 < (now : Int) - f.beatStart → launchTimes f now = (65535, 65535))) ∧
  ∀ (t arriving : Nat) (s : State),
    (s.rp.atBoundary = false → exec (.transmitBoundary t arriving) s = .next (s.atTime t)) ∧
    (s.rp.atBoundary = true →
      (∀ f rest, s.mc.link.inRing = true → s.rp.urgent = f :: rest → s.rp.fillLevel arriving ≤ 744 →
        ∃ u header, header = launchHeader f s.ownStation s.rp.seq (launchTimes f (max s.now t)).2
            (launchTimes f (max s.now t)).1 ∧
          exec (.transmitBoundary t arriving) s = .next u ∧
          u.rp.tx = .own .urgent f.kind header f.payload (le 4 (frameCrc header f.payload)) ∧
          u.rp.seq = (s.rp.seq + 1) % 256 ∧ u.rp.pass = s.rp.pass ∧ u.rp.bulk = s.rp.bulk ∧ u.mc = s.mc ∧
          (s.rp.watches s.rp.seq = false → u.rp.urgent = rest ∧
            u = { s.atTime t with rp := { s.rp with
              tx := u.rp.tx, seq := u.rp.seq, urgent := rest
              watch := if s.rp.watch.length < 16 then s.rp.watch ++ [⟨s.rp.seq, max s.now t⟩] else s.rp.watch
              unwatched := if s.rp.watch.length < 16 then s.rp.unwatched else bump s.rp.unwatched } }) ∧
          (s.rp.watches s.rp.seq = true → s.rp.watch.length ≤ 16 → u.rp.returnMissing = bump s.rp.returnMissing ∧
            u.rp.watch = dropWatch s.rp.seq s.rp.watch ++ [⟨s.rp.seq, max s.now t⟩])) ∧
      (∀ p rest, s.rp.pass = p :: rest →
        (s.mc.link = .inserting ∨
          (s.mc.link.inRing = true ∧ (s.rp.urgent = [] ∨ 744 < s.rp.fillLevel arriving))) →
        ∃ header, header = (if p.headerFailed = true then rewriteHeader p.header 31 65535
            else rewriteHeader p.header ((parseHeader p.header).hop + 1)
              (min ((parseHeader p.header).transit + (max s.now t - p.arrival) + s.hopDelay) 65535)) ∧
          exec (.transmitBoundary t arriving) s = .next { s.atTime t with rp := { s.rp with
            pass := rest, tx := .forward { p with header := header } } }) ∧
      (∀ f rest, s.mc.link.inRing = true → s.rp.urgent = [] → s.rp.pass = [] → s.rp.bulk = f :: rest →
        s.rp.fillLevel arriving = 0 →
        ∃ header, header = launchHeader f s.ownStation s.rp.seq (launchTimes f (max s.now t)).2
            (launchTimes f (max s.now t)).1 ∧
          exec (.transmitBoundary t arriving) s = .next { s.atTime t with rp := { s.rp with
            bulk := rest, seq := (s.rp.seq + 1) % 256
            tx := .own .bulk f.kind header f.payload (le 4 (frameCrc header f.payload)) } }) ∧
      (∀ l, s.mc.link = .lightCheck → s.mc.check.lockAt = some l →
        exec (.transmitBoundary t arriving) s = .next { s.atTime t with rp := { s.rp with
          tx := if (max s.now t - l) / 592 < s.repeats ∧ (max s.now t - l) % 592 < 528 then
              .test s.mc.attempt ((max s.now t - l) / 592)
            else .idle } }) ∧
      ((s.mc.link.isOut = true ∨ (s.mc.link = .lightCheck ∧ s.mc.check.lockAt = none) ∨
          (s.rp.pass = [] ∧ (s.mc.link = .inserting ∨
            (s.mc.link.inRing = true ∧ ((s.rp.urgent = [] ∧ (s.rp.bulk = [] ∨ s.rp.fillLevel arriving ≠ 0)) ∨
              (s.rp.urgent ≠ [] ∧ 744 < s.rp.fillLevel arriving)))))) →
        exec (.transmitBoundary t arriving) s = .next { s.atTime t with rp := { s.rp with tx := .idle } }))

/-- Room in the bulk lane goes to the offer waiting longest (R9, R126), and the oldest entry of the return watch is removed as
missing when it is 2 ms old (R22). -/
def Obligations.WaitingAndWatch : Prop :=
  (∀ (s : State), s.rp.waitList = [] ∨ 32 ≤ s.rp.bulk.length → exec .bulkWaitAdmit s = .next s) ∧
  (∀ (s : State) (c : Nat) (rest : List Nat) (f : LaneFrame) (more : List LaneFrame),
    s.rp.bulk.length < 32 → s.rp.waitList = c :: rest → c ≠ 4 →
    (s.rp.held.filter fun x => x.cls == c) = f :: more →
    ∃ u, exec .bulkWaitAdmit s = .next u ∧ (c ≠ 1 ∨ more = [] → (s.rp.bulk ++ [f]) <+: u.rp.bulk) ∧
      (more = [] → s.scu.pub = none →
        u = { s with rp := { s.rp with
          bulk := s.rp.bulk ++ [f], waitList := rest, held := s.rp.held.filter fun x => x.cls != c } })) ∧
  (∀ (s : State) (rest : List Nat) (f : LaneFrame) (more : List LaneFrame),
    s.rp.bulk.length < 32 → s.rp.waitList = 4 :: rest → s.mu.sendList = f :: more →
    (∀ x ∈ more, x.kind = .correction) →
    ∃ u, exec .bulkWaitAdmit s = .next u ∧ (s.rp.bulk ++ [f]) <+: u.rp.bulk ∧ u.mu.sendList <:+ more ∧
      u = { s with rp := u.rp, mu := u.mu } ∧ (more = [] → u.rp.waitList = rest)) ∧
  (∀ (t : Nat) (s : State) (e : WatchEntry) (rest : List WatchEntry),
    s.rp.watch = e :: rest → e.launched + 2000000 ≤ max s.now t →
    ∃ u, exec (.returnWatchExpiry t) s = .next u ∧
      ({ s.atTime t with rp := { s.rp with
        watch := rest, returnMissing := bump s.rp.returnMissing
        consecMissing := min (s.rp.consecMissing + 1) 3 } }).Reported u ∧
      (2 ≤ s.rp.consecMissing → u.causeTrue 7 0 = true)) ∧
  (∀ (t : Nat) (s : State) (e : WatchEntry) (rest : List WatchEntry),
    s.rp.watch = e :: rest → max s.now t < e.launched + 2000000 →
    exec (.returnWatchExpiry t) s = .next (s.atTime t)) ∧
  ∀ (t : Nat) (s : State), s.rp.watch = [] → exec (.returnWatchExpiry t) s = .next (s.atTime t)

/-! ## Station membership -/

/-- The light check (R29, R30): a test block back is counted and compared; an attempt without lock ends with every block in
error; an attempt whose blocks are back or whose wait is over ends with its errors and the blocks not back. No error leads to
INSERTING; errors lead to a new attempt, or after the third to BYPASSED with reason link fault. A block that comes back more than
20 µs after the last one was sent is in error whatever it holds. -/
def Obligations.LightCheckOutcome : Prop :=
  (∀ (t : Nat) (bytes : List Byte) (framed : Bool) (s : State) (l : Nat),
    s.mc.link = .lightCheck → s.pins.lock = true → s.mc.check.lockAt = some l → s.mc.check.returned < s.repeats →
    exec (.testBlockReturn t bytes framed) s = .next { s.atTime t with mc := { s.mc with check := { s.mc.check with
      returned := s.mc.check.returned + 1
      errors := s.mc.check.errors +
        (if framed = true ∧ bytes = testBlock s.mc.attempt s.mc.check.returned ∧
            max s.now t ≤ l + checkTime s.repeats then 0 else 1) } } }) ∧
  (∀ (t : Nat) (bytes : List Byte) (framed : Bool) (s : State),
    s.mc.link ≠ .lightCheck ∨ s.pins.lock = false ∨ s.mc.check.lockAt = none ∨ s.repeats ≤ s.mc.check.returned →
    exec (.testBlockReturn t bytes framed) s = .next (s.atTime t)) ∧
  (∀ (t : Nat) (s : State), s.mc.link ≠ .lightCheck →
    exec (.lightCheckLockTimeout t) s = .next (s.atTime t) ∧ exec (.lightCheckAttemptEnd t) s = .next (s.atTime t)) ∧
  ∀ (t n : Nat) (s : State) (i : Instr), s.mc.link = .lightCheck → s.rp.rx = none →
    (i = .lightCheckLockTimeout t ∧ s.mc.check.lockAt = none ∧ s.mc.check.start + 1000000 ≤ max s.now t ∧
        n = s.repeats) ∨
      (i = .lightCheckAttemptEnd t ∧ (∃ l, s.mc.check.lockAt = some l ∧
          (s.mc.check.returned = s.repeats ∨ l + checkTime s.repeats ≤ max s.now t)) ∧
        n = s.mc.check.errors + (s.repeats - s.mc.check.returned)) →
    (n = 0 → ∃ u, exec i s = .next u ∧
      u = { s.atTime t with
        pins := { s.pins with lock := false }, cmp := u.cmp, rp := { s.rp with tx := .idle }
        mc := { s.mc with link := .inserting, insTimer := some (max s.now t + 10000000) } } ∧
      Posts (.linkChanged .inserting .lightCheck .none s.mc.attempt 0) s u) ∧
    (n ≠ 0 → s.mc.attempt < 3 → ∃ u, exec i s = .next u ∧
      u = { s.atTime t with
        cmp := u.cmp
        rp := { s.rp with
          tx := if s.pins.lock = true ∧ 0 < s.repeats then .test (s.mc.attempt + 1) 0 else .idle }
        mc := { s.mc with
          attempt := s.mc.attempt + 1
          check :=
            { start := max s.now t, lockAt := if s.pins.lock = true then some (max s.now t) else none, returned := 0
              errors := 0 } } } ∧
      Posts (.linkChanged .lightCheck .lightCheck .none s.mc.attempt n) s u) ∧
    (n ≠ 0 → 3 ≤ s.mc.attempt → ∃ u, exec i s = .next u ∧ u.now = max s.now t ∧ s.LeftRing .linkFault u)

/-- The ways from INSERTING and LEAVING to BYPASSED (R31, R38): the insertion timer, the leave timer, and a drain that is
complete. Each is without effect while its conditions are not met. -/
def Obligations.RingLeft : Prop :=
  (∀ (t d : Nat) (s : State), s.mc.link = .inserting → s.mc.insTimer = some d → d ≤ max s.now t →
    ∃ u, exec (.insertionTimeout t) s = .next u ∧ u.now = max s.now t ∧ s.LeftRing .noUpstreamLight u ∧
      u.pins.lock = false) ∧
  (∀ (t d : Nat) (s : State), s.mc.link = .leaving → s.mc.leaveTimer = some d → d ≤ max s.now t →
    ∃ u, exec (.leaveTimeout t) s = .next u ∧ u.now = max s.now t ∧ s.LeftRing .left u ∧ u.pins.lock = false) ∧
  (∀ (t : Nat) (s : State), s.mc.link = .leaving → s.rp.drained = true →
    ∃ u, exec (.drainComplete t) s = .next u ∧ u.now = max s.now t ∧ s.LeftRing .left u ∧ u.pins.lock = false) ∧
  (∀ (t : Nat) (s : State), (s.mc.link ≠ .inserting ∨ s.mc.insTimer = none ∨
      ∃ d, s.mc.insTimer = some d ∧ max s.now t < d) → exec (.insertionTimeout t) s = .next (s.atTime t)) ∧
  (∀ (t : Nat) (s : State), (s.mc.link ≠ .leaving ∨ s.mc.leaveTimer = none ∨
      ∃ d, s.mc.leaveTimer = some d ∧ max s.now t < d) → exec (.leaveTimeout t) s = .next (s.atTime t)) ∧
  ∀ (t : Nat) (s : State), s.mc.link ≠ .leaving ∨ s.rp.drained = false →
    exec (.drainComplete t) s = .next (s.atTime t)

/-- A Hello copy taken by the Membership Controller (R35, R36, R40, R41; a payload that R203 discards is only taken). What a
Hello that reports another link state does is an inference of the model (log 53). An entry whose silence has reached 4 is removed
before the Hello is handled, as the roster-beat start taken first calls for (R41). -/
def Obligations.HelloCopies : Prop :=
  (∀ s : State, s.inMc = [] → exec .helloCopy s = .next s) ∧
  (∀ (s : State) (c : Copy) (rest : List Copy), s.inMc = c :: rest → parseHello c.payload = none →
    exec .helloCopy s = .next { s with inMc := rest }) ∧
  (∀ (s : State) (c : Copy) (rest : List Copy) (m : HelloMsg), s.inMc = c :: rest → parseHello c.payload = some m →
    s.mc.link.inRing = false → exec .helloCopy s = .next { s with inMc := rest }) ∧
  (∀ (s : State) (c : Copy) (rest : List Copy) (m : HelloMsg) (n : Nat) (r : RosterSlot),
    s.inMc = c :: rest → parseHello c.payload = some m → n = (parseHeader c.header).origin → n ≠ s.ownStation →
    s.mc.link.inRing = true → s.slot n = some r →
    ∃ u, exec .helloCopy s = .next u ∧ u.inMc = rest ∧ u.mc.link = s.mc.link ∧ u.su.line = s.su.line ∧
      (∀ k, k ≠ n → u.slot k = s.slot k) ∧
      (r.present = false ∨ r.silence = 4 → m.link = .listen ∨ m.link = .member →
        u.slot n = some
          { present := true, link := m.link, shaftMember := m.shaftMember, speedAuthority := m.speedAuthority
            stamp := m.stamp, step := m.step, founder := m.founder, distance := (parseHeader c.header).hop + 1
            silence := 0, required := r.required, view := .unknown, exclusions := 0 } ∧ u.causeTrue 8 n = false) ∧
      (r.present = true → r.silence ≠ 4 → m.link = .listen ∨ m.link = .member → m.stamp = r.stamp →
        u.slot n = some { r with
          link := m.link, shaftMember := m.shaftMember, speedAuthority := m.speedAuthority, step := m.step
          founder := m.founder, distance := (parseHeader c.header).hop + 1, silence := 0 } ∧
        (m.link ≠ r.link ∨ m.shaftMember ≠ r.shaftMember ∨ m.speedAuthority ≠ r.speedAuthority →
          Posts (.rosterChanged n .changed) s u)) ∧
      (r.present = true → m.link = .listen → m.stamp ≠ r.stamp →
        u.slot n = some
          { present := true, link := .listen, shaftMember := m.shaftMember, speedAuthority := m.speedAuthority
            stamp := m.stamp, step := m.step, founder := m.founder, distance := (parseHeader c.header).hop + 1
            silence := 0, required := r.required, view := .unknown, exclusions := 0 }) ∧
      (r.present = true → r.silence ≠ 4 → m.link = .member → m.stamp ≠ r.stamp →
        u = { s with inMc := rest, mc := u.mc } ∧ u.slot n = some { r with silence := 0 }) ∧
      (r.present = true → m.link = .leaving → u.slot n = some (.absent r.required)) ∧
      (r.present = true → r.silence = 4 → m.link ≠ .listen → m.link ≠ .member → u.slot n = some (.absent r.required)) ∧
      (r.present = true → r.silence ≠ 4 → m.link ≠ .listen → m.link ≠ .member → m.link ≠ .leaving →
        u = { s with inMc := rest }) ∧
      (r.present = false → m.link ≠ .listen → m.link ≠ .member → u = { s with inMc := rest })) ∧
  (∀ (s : State) (c : Copy) (rest : List Copy) (m : HelloMsg),
    s.inMc = c :: rest → parseHello c.payload = some m → (parseHeader c.header).origin = s.ownStation →
    m.stamp = s.mc.joinStamp → s.mc.link.inRing = true →
    ∃ u, exec .helloCopy s = .next u ∧ u = { s with inMc := rest, mc := u.mc } ∧
      ∀ r, s.slot s.ownStation = some r →
        u.slot s.ownStation = some { r with distance := (parseHeader c.header).hop + 1 }) ∧
  (∀ (s : State) (c : Copy) (rest : List Copy) (m : HelloMsg),
    s.inMc = c :: rest → parseHello c.payload = some m → (parseHeader c.header).origin = s.ownStation →
    m.stamp ≠ s.mc.joinStamp →
    ∃ u, exec .helloCopy s = .next u ∧ (s.mc.link = .listen → u.inMc = rest ∧ s.LeftRing .duplicateNumber u) ∧
      (s.mc.link = .member → m.link = .member ∨ m.link = .leaving →
        u.causeTrue 9 1 = true ∧ u.mc = { s.mc with dupQuiet := 0, dupHeard := true }) ∧
      (s.mc.link = .leaving → u = { s with inMc := rest }))

/-- A roster-beat start (R23, R32, R34, R36, R41, R143, R149, R183): silences and quiet counts step in the ring, the
receiver-error window is emptied, and a station in LISTEN counts the start, as one in MEMBER or LEAVING does for a founding (R65).
It offers the Hello, a REFRESH frame for every own cause that is sent, with its refresh count stepped, and the view requests anew.
The order of these frames, with the CLEAR of cause 9 before them, is the model's choice (log 56). -/
def Obligations.RosterBeat : Prop :=
  (∀ s : State, s.su.rosterDue = false → exec .rosterBeatStart s = .next s) ∧
  (∀ (s v : State) (sent : List OwnCause) (trip : TripAction → OwnCause → LaneFrame) (clears hellos asks : List LaneFrame),
    s.su.rosterDue = true → v = { s with rp := { s.rp with errWindow := 0 } } →
    sent = s.tu.causes.filter (fun k => (s.causeEntry k.cause).1 != .masked && (s.causeEntry k.cause).2 == .ring &&
      !(s.rp.errWindow == 0 && k.cause == 9 && k.detail == 0)) →
    trip = (fun a k => wholeFrame .trip 0 (tripPayload a ⟨s.ownStation, k.cause, k.detail⟩ (s.causeEntry k.cause).1 .ring k.beat
      k.founder)) →
    clears = (if s.rp.errWindow = 0 ∧ (s.causeEntry 9).1 ≠ .masked ∧ (s.causeEntry 9).2 = .ring then
      ((s.tu.causes.find? fun k => k.cause == 9 && k.detail == 0).map (trip .clear)).toList else []) →
    hellos = [wholeFrame .hello 0 (helloPayload
      { link := s.mc.link, shaftMember := s.shaftMember, speedAuthority := s.speedAuthority, step := s.su.step
        founder := s.su.founder, stamp := s.mc.joinStamp })] →
    asks = ([0, 1] : List (Fin 2)).filterMap (fun i =>
      if ((s.scu.view i).state = .requested ∨ (s.scu.view i).state = .opened) ∧ (s.scu.view i).station ≠ s.ownStation then
        some (wholeFrame .tileControl (s.scu.view i).station
          (tileCtlPayload (.viewRequest i.val (s.scu.view i).cam (s.scu.view i).k (32 * (s.scu.view i).w))))
      else none) →
    ∃ u, exec .rosterBeatStart s = .next u ∧
      (s.mc.link = .member →
        u.rp = ((clears ++ hellos ++ sent.map (trip .refresh) ++ asks).foldl (fun x f => x.offer f) v).rp) ∧
      (s.mc.link = .leaving → u.rp = ((clears ++ sent.map (trip .refresh)).foldl (fun x f => x.offer f) v).rp) ∧
      (s.mc.link = .listen → s.mc.listen + 1 < 3 → u.rp = (hellos.foldl (fun x f => x.offer f) v).rp) ∧
      (s.mc.link = .listen → 3 ≤ s.mc.listen + 1 → u.rp = v.rp) ∧
      (s.mc.link.inRing = false → u.rp = v.rp) ∧
      ∀ k e n, s.tu.entry k = some e → k.origin = s.ownStation →
        ¬(s.rp.errWindow = 0 ∧ k.cause = 9 ∧ k.detail = 0) →
        n = (sent.filter fun x => x.cause == k.cause && x.detail == k.detail).length →
        u.tu.entry k = some (if s.mc.link.isMember = true ∧ 0 < n then { e with refresh := min (e.refresh + n) 255 } else e)) ∧
  ∀ s : State, s.su.rosterDue = true → ∃ u, exec .rosterBeatStart s = .next u ∧
    u.su.rosterDue = false ∧ u.mc.link = s.mc.link ∧ u.rp.errWindow = 0 ∧ u.now = s.now ∧ u.cfg = s.cfg ∧
    u.su.line = s.su.line ∧ u.au.axes = s.au.axes ∧
    (s.rp.errWindow = 0 → u.causeTrue 9 0 = false) ∧
    (s.mc.link = .listen → u.mc.listen = min (s.mc.listen + 1) 3) ∧
    (s.mc.link.isMember = true → u.su.rosterSinceMember = min (s.su.rosterSinceMember + 1) 3) ∧
    (s.mc.link = .member → s.causeTrue 9 1 = true →
      u.mc.dupQuiet = (if s.mc.dupHeard = true then 0 else min (s.mc.dupQuiet + 1) 4)) ∧
    (s.mc.link.inRing = true → ∀ n r, s.slot n = some r →
      u.slot n = some (if r.present = true ∧ n ≠ s.ownStation then { r with silence := min (r.silence + 1) 4 } else r)) ∧
    (s.mc.link.inRing = true → ∀ k e, s.tu.entry k = some e → k.origin ≠ s.ownStation → e.state = .active →
      u.tu.entry k = some { e with quiet := min (e.quiet + 1) 6 })

/-- Entering MEMBER with the third roster beat of LISTEN (R32, R33, R62, R65), with a RAISE frame for every own cause that is
sent, composed anew, and the Hello (R34, R151); the removal of a peer silent for four roster beats (R41, R42, R145), and the end of
the duplicate watch (R36). That the missing required stations are reported in rising order is the model's choice (log 95), and so is
that the Hello comes last (log 14). -/
def Obligations.MembersComeAndGo : Prop :=
  (∀ s : State, s.mc.link ≠ .listen ∨ s.mc.listen ≠ 3 → exec .enterMember s = .next s) ∧
  (∀ s : State, s.mc.link = .listen → s.mc.listen = 3 → ∃ u, exec .enterMember s = .next u ∧
    u.mc.link = .member ∧ u.su.adopted = false ∧ u.su.line = s.su.line ∧ u.cfg = s.cfg ∧
    (s.shaftMember = true → u.su.step = .adopting ∧ u.su.founder = 0) ∧
    (s.shaftMember = false → u.su.step = s.su.step ∧ u.mc.roster = s.mc.roster) ∧
    ∀ n, 1 ≤ n → n ≤ 31 → ((s.cfg.map Cfg.required).getD 0).getLsbD n = true → n ≠ s.ownStation →
      s.isPresent n = false → u.causeTrue 8 n = true) ∧
  (∀ (s v : State) (b g : Nat) (lost : List Nat) (frame : Nat → Nat → LaneFrame),
    s.mc.link = .listen → s.mc.listen = 3 → (∀ d, s.causeTrue 11 d = false) →
    v = { s with mc := { s.mc with link := .member } } → b = (s.su.beat + 2) % two32 →
    g = (if s.shaftMember = true then 0 else s.su.founder) →
    lost = ((List.range 31).map (· + 1)).filter (fun n => ((s.cfg.map Cfg.required).getD 0).getLsbD n && n != s.ownStation &&
      !s.isPresent n && !s.causeTrue 8 n) →
    frame = (fun c d => wholeFrame .trip 0 (tripPayload .raise ⟨s.ownStation, c, d⟩ (s.causeEntry c).1 .ring b g)) →
    ∃ u, exec .enterMember s = .next u ∧
      (∀ k ∈ s.tu.causes, (s.causeEntry k.cause).1 ≠ .masked → (s.causeEntry k.cause).2 = .ring →
        { k with beat := b, founder := g } ∈ u.tu.causes) ∧
      (u.causeTrue 12 0 = s.causeTrue 12 0 ∨ (s.causeEntry 12).1 = .masked ∨ (s.causeEntry 12).2 = .here →
        u.rp = (((s.tu.causes.filter fun k => (s.causeEntry k.cause).1 != .masked && (s.causeEntry k.cause).2 == .ring).map
            (fun k => frame k.cause k.detail) ++
          (if (s.causeEntry 8).1 ≠ .masked ∧ (s.causeEntry 8).2 = .ring then lost.map (frame 8) else []) ++
          [wholeFrame .hello 0 (helloPayload
            { link := .member, shaftMember := s.shaftMember, speedAuthority := s.speedAuthority
              step := if s.shaftMember = true then .adopting else s.su.step, founder := g
              stamp := s.mc.joinStamp })]).foldl (fun x f => x.offer f) v).rp)) ∧
  (∀ (s : State) (n : Nat), (s.slot n = none ∨ s.mc.link.inRing = false ∨
      ∃ r, s.slot n = some r ∧ (r.present = false ∨ r.silence ≠ 4)) → exec (.silenceRemoval n) s = .next s) ∧
  (∀ (s : State) (n : Nat) (r : RosterSlot), s.slot n = some r → r.present = true → r.silence = 4 →
    s.mc.link.inRing = true → n ≠ s.ownStation → ∃ u, exec (.silenceRemoval n) s = .next u ∧
      u.slot n = some (.absent r.required) ∧ (∀ k, k ≠ n → u.slot k = s.slot k) ∧ u.mc.link = s.mc.link ∧
      (∀ x ∈ u.su.reports, x.peer ≠ n) ∧ (∀ e ∈ u.tu.table, e.key.origin = n → e.state ≠ .active) ∧
      (∀ i, ∀ v ∈ u.scu.viewers.get i, v.station ≠ n) ∧ u.causeTrue 11 n = false ∧
      (r.required = true → s.mc.link.isMember = true → u.causeTrue 8 n = true)) ∧
  (∀ s : State, s.mc.dupQuiet ≠ 4 ∨ s.causeTrue 9 1 = false → exec .duplicateQuiet s = .next s) ∧
  ∀ s : State, s.mc.dupQuiet = 4 → s.causeTrue 9 1 = true → ∃ u, exec .duplicateQuiet s = .next u ∧
    s.Reported u ∧ u.au.axes = s.au.axes ∧ ∀ c d, u.causeTrue c d = (s.causeTrue c d && !(c == 9 && d == 1))

/-- JOIN and LEAVE (R28, R37), with their refusals. That the event of a JOIN carries attempt 1 and error count 0, and the event
of a LEAVE attempt 0 and error count 0, is the model's choice (log 30). -/
def Obligations.JoinAndLeave : Prop :=
  (∀ s : State, s.taken .normal = some .join → s.mc.link.isOut = true → s.cfg.isSome = true →
    ∃ u, exec .join s = .next u ∧ Answers .normal .done 0 s u ∧ Posts (.linkChanged .lightCheck s.mc.link .none 1 0) s u ∧
      u = { s with
        cmp := u.cmp
        rp := { s.rp with tx := if s.pins.lock = true ∧ 0 < s.repeats then .test 1 0 else .idle }
        mc := { s.mc with
          link := .lightCheck, joinStamp := s.mc.ticks, attempt := 1, reason := .none
          check :=
            { start := s.now, lockAt := if s.pins.lock = true then some s.now else none, returned := 0
              errors := 0 } } }) ∧
  (∀ s : State, s.taken .normal = some .join → s.mc.link.isOut = false ∨ s.cfg = none →
    exec .join s = .next { s with cmp := s.cmp.answered .normal .refusedState 0 s.now }) ∧
  (∀ s : State, s.taken .normal = some .leave → s.mc.link = .member → (∀ i, (s.axis i).state.energised = false) →
    ∃ u, exec .leave s = .next u ∧ Answers .normal .done 0 s u ∧ u.mc.link = .leaving ∧
      u.mc.leaveTimer = some (s.now + 10000000) ∧ u.mc.roster = s.mc.roster ∧ u.su = s.su ∧ u.au = s.au ∧
      u.tu = s.tu ∧ u.cu = s.cu ∧ u.cfg = s.cfg ∧
      ∀ v, v = { s with
          mc := { s.mc with link := .leaving }, rp := { s.rp with bulk := [], waitList := [], held := [] } } →
        s.rp.waitList = [] → s.rp.held = [] → s.mu.sendList = [] →
        Posts (.linkChanged .leaving .member .none 0 0) s u ∧
        u.rp = (v.offer (wholeFrame .hello 0 (helloPayload
          { link := .leaving, shaftMember := s.shaftMember, speedAuthority := s.speedAuthority, step := s.su.step
            founder := s.su.founder, stamp := s.mc.joinStamp }))).rp) ∧
  ∀ s : State, s.taken .normal = some .leave → (s.mc.link ≠ .member ∨ ∃ i, (s.axis i).state.energised = true) →
    exec .leave s = .next { s with cmp := s.cmp.answered .normal .refusedState 0 s.now }

/-! ## The line shaft -/

/-- A tick start (R28, R44, R46): the tick in progress ends and the arithmetic of the next one is done from the line state it
leaves. Under a stop mode the speed falls by the configured rate and never rises. That the line state takes the values of a
tick when the next tick or beat starts is an inference of the model (log 8). -/
def Obligations.TickArithmetic : Prop :=
  (∀ s : State, s.su.tickDue = false → exec .tickStart s = .next s) ∧
  ∀ (s : State) (l : Line), s.su.tickDue = true →
    l = (if s.su.inTick = true then
      { s.su.line with speed := s.su.next.speed, angle := s.su.next.angle, rev := s.su.next.rev } else s.su.line) →
    ∃ u, exec .tickStart s = .next u ∧
      u.su = { s.su with
        line := l, next := u.su.next, inTick := true, tickStart := s.su.nextStart
        tickEnd := s.su.nextStart + s.su.tickLens.getD s.su.tickIdx 125000, tickIdx := s.su.tickIdx + 1
        list := u.su.list, calm := u.su.calm, lateThisBeat := u.su.lateThisBeat, lateChanges := u.su.lateChanges
        droppedEntries := u.su.droppedEntries } ∧
      u.mc = { s.mc with ticks := if s.su.inTick = true then (s.mc.ticks + 1) % 4294967296 else s.mc.ticks } ∧
      u.now = max s.now s.su.nextStart.toNat ∧ u.cfg = s.cfg ∧ u.pins = s.pins ∧ u.scu = s.scu ∧
      (l.stop = .none → l.speed < l.target → u.su.next.speed = min (l.speed + l.accel) l.target) ∧
      (l.stop = .none → l.target < l.speed → u.su.next.speed = max (l.speed - l.decel) l.target) ∧
      (l.stop = .none → l.speed = l.target → u.su.next.speed = l.speed) ∧
      (l.stop = .normal → u.su.next.speed = l.speed - s.normalRate) ∧
      (l.stop = .fast → u.su.next.speed = l.speed - s.fastRate) ∧
      (l.angle + u.su.next.speed < 4294967296 →
        u.su.next.angle = l.angle + u.su.next.speed ∧ u.su.next.rev = l.rev ∧ u.su.next.revStep = false) ∧
      (4294967296 ≤ l.angle + u.su.next.speed →
        u.su.next.angle = l.angle + u.su.next.speed - 4294967296 ∧ u.su.next.rev = (l.rev + 1) % 65536 ∧
          u.su.next.revStep = true)

/-- A beat start (R44, R45, R50, R61, R66 to R68, R71): the beat number steps, the entries of the new beat are applied in their
order and leave the list, the snapshot is taken, the tick lengths are fixed from the report set, the counts step, the set is
emptied, and a station that stays in FOLLOWING, IN_STEP or ALONE offers its Shaft frame (R56). That the entries of one beat are applied RELEASE first, then SET, then STOP is an inference of the model (log 46), and
so are the step state kept at the beat start, with the frame's step state the one it leads to, and the nominal ticks at the fourth
minority beat (log 12). The start of the beat before beat 0 is its choice (log 26), and so is that an alone count at 16 stays there
and makes the entry into ALONE due anew (log 73). -/
def Obligations.BeatStarts : Prop :=
  (∀ s : State, s.su.beatDue = false → exec .beatStart s = .next s) ∧
  ∀ (s : State) (l : Line) (b : Nat), s.su.beatDue = true →
    l = (if s.su.inTick = true then
      { s.su.line with speed := s.su.next.speed, angle := s.su.next.angle, rev := s.su.next.rev } else s.su.line) →
    b = (if s.su.beatZeroDue = true then 0 else (s.su.beat + 1) % 4294967296) →
    ∃ u, exec .beatStart s = .next u ∧
      u.su.beat = b ∧ u.su.line = (applyOrder (s.su.list.filter fun e => e.beat == b)).foldl Line.apply l ∧
      (u.su.list = s.su.list.filter fun e => e.beat != b) ∧ u.su.snapCur = u.su.line ∧ u.su.snapPrev = s.su.snapCur ∧
      u.su.snapCurFounder = s.su.founder ∧ u.su.snapPrevFounder = s.su.snapCurFounder ∧
      u.su.beatPrev = (if s.su.beatZeroDue = true then s.su.beatPrev else s.su.beatCur) ∧
      u.su.beatCur = (if s.su.beatZeroDue = true then s.su.tickEnd else s.su.beatNext) ∧
      u.su.tickLens = (if s.agreeing = true ∧ ¬(minorityBeat s.su.reports = true ∧ 3 ≤ s.su.minority) then
        slewTicks (midpoint (validOffsets s.su.reports)) else List.replicate 8 125000) ∧
      u.su.beatNext = u.su.beatCur + u.su.tickLens.sum ∧ u.su.tickIdx = 0 ∧ u.su.inTick = false ∧
      u.su.reports = [] ∧ u.su.rosterDue = (b % 8 == 0) ∧ u.su.step = s.su.step ∧ u.su.founder = s.su.founder ∧
      (s.su.step = .following →
        u.su.settled = if settledBeat s.su.reports = true then min (s.su.settled + 1) 16 else 0) ∧
      (s.agreeing = true → u.su.minority = if minorityBeat s.su.reports = true then min (s.su.minority + 1) 4 else 0) ∧
      (s.su.step = .following ∨ s.su.step = .inStep →
        u.su.alone = if validOffsets s.su.reports = [] then min (s.su.alone + 1) 16 else 0) ∧
      (u.su.aloneDue = true ↔
        (s.su.step = .following ∨ s.su.step = .inStep) ∧ validOffsets s.su.reports = [] ∧ 15 ≤ s.su.alone) ∧
      (s.su.step.sends = false ∨ (minorityBeat s.su.reports = true ∧ 3 ≤ s.su.minority) → u.rp = s.rp) ∧
      (∀ g, s.su.step.sends = true → ¬(minorityBeat s.su.reports = true ∧ 3 ≤ s.su.minority) →
        g = (if s.su.step = .following ∧ u.su.settled = 16 then .inStep
          else if u.su.aloneDue = true then .alone else s.su.step) →
        u.rp = (s.offer { kind := .shaft, dest := 0, fragIndex := 0, fragCount := 1, beatStart := u.su.beatCur
                          payload := shaftPayload ⟨b, u.su.line, g, s.su.founder, u.su.list.take 2⟩ }).rp) ∧
      u.cfg = s.cfg ∧ u.pins = s.pins ∧ u.tu = s.tu ∧ u.scu = s.scu

/-- The changes of step state by count (R51, R60, R66 to R69) and the founding of a line history (R55, R56, R65, R84). That a
founding leaves the counts 0 and the report set empty is the model's choice (log 27), and that it offers the Shaft frame of
beat 0 an inference (log 12). ENTER ALONE takes the entry that a beat start called for once (log 73), and does nothing after a
VALID report of the beat, which took that entry with it (R68; log 4). -/
def Obligations.StepTransitions : Prop :=
  (∀ s : State, s.settles = false → exec .enterInStep s = .next s) ∧
  (∀ s : State, s.su.settled = 16 → s.su.step = .following → ∃ u, exec .enterInStep s = .next u ∧
    u.su = { s.su with step := .inStep } ∧ u.causeTrue 10 0 = false ∧ u.mc = s.mc ∧ u.au.axes = s.au.axes) ∧
  (∀ s : State, s.su.settled = 16 → s.shaftMember = false → s.su.adopted = true → s.su.step = .shaftIdle →
    s.causeTrue 10 0 = true → ∃ u, exec .enterInStep s = .next u ∧ u.su = s.su ∧ u.causeTrue 10 0 = false) ∧
  (∀ s : State, s.agreeing = false ∨ s.su.minority ≠ 4 → exec .shaftLostStep s = .next s) ∧
  (∀ s : State, s.su.step.sends = true → s.su.minority = 4 → ∃ u, exec .shaftLostStep s = .next u ∧
    u.su.step = .adopting ∧ u.su.line = s.su.line ∧ u.su.founder = s.su.founder ∧ u.causeTrue 10 0 = true ∧
    (∀ d, u.causeTrue 11 d = false) ∧
    u.mc = { s.mc with roster := s.mc.roster.map fun r => { r with view := .unknown, exclusions := 0 } }) ∧
  (∀ s : State, s.su.step.sends = false → s.shaftMember = false → s.su.adopted = true → s.su.minority = 4 →
    ∃ u, exec .shaftLostStep s = .next u ∧ u.su.adopted = false ∧ u.su.step = s.su.step ∧ u.causeTrue 10 0 = true) ∧
  (∀ s : State, s.su.step = .following ∨ s.su.step = .inStep → s.su.aloneDue = true →
    ∃ u, exec .enterAlone s = .next u ∧
      u = { s with su := { s.su with step := .alone, aloneDue := false }, cmp := u.cmp } ∧
      Posts (.stepChanged .alone s.su.step s.su.founder s.su.adopted) s u) ∧
  (∀ s : State, (s.su.step ≠ .following ∧ s.su.step ≠ .inStep) ∨ s.su.aloneDue = false →
    exec .enterAlone s = .next s) ∧
  (∀ s : State, s.su.calm = 16 → s.causeTrue 12 0 = true → ∃ u, exec .latenessClear s = .next u ∧ s.Reported u ∧
    ∀ c d, u.causeTrue c d = (s.causeTrue c d && !(c == 12 && d == 0))) ∧
  (∀ s : State, s.su.calm ≠ 16 ∨ s.causeTrue 12 0 = false → exec .latenessClear s = .next s) ∧
  (∀ s : State, s.founds = false → exec .foundHistory s = .next s) ∧
  ∀ s : State, s.founds = true → ∃ u, exec .foundHistory s = .next u ∧
    u.su.beat = 0 ∧ u.su.line = Line.initial ∧ u.su.snapCur = Line.initial ∧ u.su.founder = s.ownStation ∧
    u.su.snapCurFounder = s.ownStation ∧
    u.su.step = .alone ∧ u.su.reports = [] ∧ u.su.cmdNo = s.su.cmdNo ∧
    (∀ e ∈ u.su.list, e.isStop = true ∧ e.beat = 1) ∧
    (∀ i c, s.axisCfg i = some c → (s.axis i).state.onLine = true →
      u.axis i = (s.axis i).decouple c s.su.line.speed) ∧
    (∀ i, (s.axis i).state.onLine = false → u.axis i = s.axis i) ∧
    u.mc = s.mc ∧ u.tu = s.tu ∧
    (s.laneOf 1 = .urgent → s.rp.urgent.length < 8 → ∃ f ∈ u.rp.urgent, f.kind = .shaft)

/-- A Shaft frame copy taken by the Shaft Unit (R57 to R60, R63 to R65, R68, R69; a payload that R203 discards is only taken):
measured, classified and its later entries offered by a station that sends Shaft frames and by an adopted one that is no shaft
member; adopted by one in ADOPTING with founder 0, or without a history, when it qualifies, and by one that held a history when
both are at rest besides; noted in LISTEN. A VALID report takes a station whose entry into ALONE is due through ALONE to FOLLOWING,
once for that entry (R68; logs 4 and 73). That carried entries of one identity give one entry is the model's choice (log 31), and
so is that an adoption empties the peer report set (log 84). -/
def Obligations.ShaftCopies : Prop :=
  (∀ s : State, (s.inSu = [] ∨ ∃ c rest, s.inSu = c :: rest ∧ c.isKind .shaft = false) →
    exec .shaftCopy s = .next s) ∧
  (∀ (s : State) (c : Copy) (rest : List Copy), s.inSu = c :: rest → c.isKind .shaft = true →
    (parseShaft c.payload = none ∨
      ((s.su.step.sends = true ∨ (s.su.step = .shaftIdle ∧ s.mc.link ≠ .listen ∧ s.su.adopted = true)) ∧
        s.isShaftPeer (parseHeader c.header).origin = false) ∨
      (s.su.step = .shaftIdle ∧ s.mc.link ≠ .listen ∧ (s.mc.link.isMember = false ∨ s.shaftMember = true))) →
    exec .shaftCopy s = .next { s with inSu := rest }) ∧
  (∀ u : Su, u.ownBeat u.beat = some (u.beatCur, some u.snapCur) ∧ u.ownBeat u.nextBeat = some (u.beatNext, none) ∧
    ∀ b, ((b + 1) % two32 = u.beat → u.ownBeat b = some (u.beatPrev, some u.snapPrev)) ∧
      (b ≠ u.beat → b ≠ u.nextBeat → (b + 1) % two32 ≠ u.beat → u.ownBeat b = none)) ∧
  (∀ (s : State) (c : Copy) (rest : List Copy) (m : ShaftMsg) (h : Header) (r : RosterSlot) (z : Int) (carried : Su),
    s.inSu = c :: rest → c.isKind .shaft = true → parseShaft c.payload = some m → h = parseHeader c.header →
    (s.su.step.sends = true ∨
      (s.su.step = .shaftIdle ∧ s.mc.link.isMember = true ∧ s.shaftMember = false ∧ s.su.adopted = true)) →
    s.slot h.origin = some r → r.present = true → r.shaftMember = true →
    z = (c.arrival : Int) - s.hopDelay - h.transit - h.launchDelay →
    carried = (m.entries.filter fun e => beatLater e.beat s.su.beat).foldl (fun x e => (x.install s.maxSpeed false e).1) s.su →
    (∀ e, m.entries = [e] → beatLater e.beat s.su.beat = true → s.su.Fits e →
      carried.list = insertRank s.su.beat (e.clamped s.maxSpeed) s.su.list) ∧
    ∃ u, exec .shaftCopy s = .next u ∧ u.inSu = rest ∧ u.su.line = s.su.line ∧ u.su.founder = s.su.founder ∧
      (∀ (own : Int) (snap : Option Line), m.founder = s.su.founder → s.su.ownBeat m.beat = some (own, snap) →
        h.transit ≠ 65535 → (z - own).natAbs ≤ s.exclusion → (∀ l, snap = some l → l.sameSnapshot m.line = true) →
        u.su.reports = (s.su.reports.filter fun x => x.peer != h.origin) ++ [⟨h.origin, .valid, z - own⟩] ∧
        u.slot h.origin = some { r with view := .valid, exclusions := 0 } ∧ u.causeTrue 11 h.origin = false ∧
        u.su.list = carried.list ∧ u.su.droppedEntries = carried.droppedEntries ∧
        u.su.step = (if s.su.step = .alone ∨ (s.su.step.sends = true ∧ s.su.aloneDue = true) then .following
          else s.su.step) ∧
        (s.su.step = .alone ∨ (s.su.step.sends = true ∧ s.su.aloneDue = true) →
          u.su.settled = 0 ∧ (s.su.step ≠ .alone → u.su.aloneDue = false))) ∧
      (∀ (x : Exclusion) (off : Int), m.founder = s.su.founder →
        ((x = .beatUnmatched ∧ s.su.ownBeat m.beat = none ∧ off = 0) ∨
          ∃ own snap, s.su.ownBeat m.beat = some (own, snap) ∧ off = z - own ∧
            ((x = .transitSaturated ∧ h.transit = 65535) ∨
              (x = .offsetBeyond ∧ h.transit ≠ 65535 ∧ s.exclusion < off.natAbs) ∨
              (x = .snapshotMismatch ∧ h.transit ≠ 65535 ∧ off.natAbs ≤ s.exclusion ∧
                ∃ l, snap = some l ∧ l.sameSnapshot m.line = false))) →
        u.su.reports = (s.su.reports.filter fun y => y.peer != h.origin) ++ [⟨h.origin, .excluded, off⟩] ∧
        u.su.beatUnmatched = (if x = .beatUnmatched then bump s.su.beatUnmatched else s.su.beatUnmatched) ∧
        u.su.transitSaturated = (if x = .transitSaturated then bump s.su.transitSaturated else s.su.transitSaturated) ∧
        u.su.offsetBeyond = (if x = .offsetBeyond then bump s.su.offsetBeyond else s.su.offsetBeyond) ∧
        u.su.snapshotMismatch = (if x = .snapshotMismatch then bump s.su.snapshotMismatch else s.su.snapshotMismatch) ∧
        u.su.step = s.su.step ∧ u.slot h.origin = some (r.judge .excluded) ∧
        (r.exclusions < 7 → u.su.list = carried.list) ∧ (7 ≤ r.exclusions → u.causeTrue 11 h.origin = true)) ∧
      (s.su.founder < m.founder → u.slot h.origin = some (r.judge .foreignHigh) ∧ u.su.step = s.su.step ∧
        (r.exclusions < 7 → u.su.list = s.su.list) ∧ (7 ≤ r.exclusions → u.causeTrue 11 h.origin = true)) ∧
      (m.founder < s.su.founder → u.slot h.origin = some (r.judge .foreignLow) ∧ u.su.step = s.su.step ∧
        u.su.list = s.su.list)) ∧
  (∀ (s : State) (c : Copy) (rest : List Copy) (m : ShaftMsg) (h : Header) (start : Int) (free : Bool),
    s.inSu = c :: rest → c.isKind .shaft = true → parseShaft c.payload = some m → h = parseHeader c.header →
    ((s.su.step = .adopting ∧ free = (s.su.founder == 0)) ∨
      (s.su.step = .shaftIdle ∧ s.mc.link.isMember = true ∧ s.shaftMember = false ∧ s.su.adopted = false ∧
        free = !s.su.heldHistory)) →
    start = (c.arrival : Int) - s.hopDelay - h.transit - h.launchDelay →
    (s.qualifies h.origin h.transit m = false ∨ (free = false ∧
        (m.line.speed ≠ 0 ∨ s.su.line.speed ≠ 0 ∨ ∃ i, (s.axis i).state.onLine = true)) →
      exec .shaftCopy s = .next { s with inSu := rest }) ∧
    (s.qualifies h.origin h.transit m = true → free = true ∨
        (m.line.speed = 0 ∧ s.su.line.speed = 0 ∧ ∀ i, (s.axis i).state.onLine = false) →
      ∃ u, exec .shaftCopy s = .next u ∧
      u.inSu = rest ∧ u.su.step = (if s.shaftMember = true then .following else s.su.step) ∧
      u.su.adopted = (s.su.adopted || !s.shaftMember) ∧ u.su.founder = m.founder ∧ u.su.beat = m.beat ∧
      u.su.snapCur = m.line ∧ u.su.snapCurFounder = m.founder ∧ u.su.beatCur = start ∧ u.su.reports = [] ∧
      u.su.settled = 0 ∧ u.su.heldHistory = true ∧
      u.su.line = m.line.ticks s.normalRate s.fastRate (ticksPassed start s.now) ∧
      (s.tu.table = [] → ∀ e ∈ m.entries, ∃ x ∈ u.su.list, x.ident = e.ident) ∧
      (∀ i k, s.axisCfg i = some k → (s.axis i).state.onLine = true →
        u.axis i = (s.axis i).decouple k s.su.line.speed) ∧
      u.mc = s.mc)) ∧
  ∀ (s : State) (c : Copy) (rest : List Copy) (m : ShaftMsg) (h : Header),
    s.inSu = c :: rest → c.isKind .shaft = true → parseShaft c.payload = some m → h = parseHeader c.header →
    s.su.step = .shaftIdle → s.mc.link = .listen →
    exec .shaftCopy s = .next { s with
      inSu := rest
      su := { s.su with heardQualifying := s.su.heardQualifying || s.qualifies h.origin h.transit m } }

/-- A Speed frame copy taken by the Shaft Unit (R49, R51, R54): an entry from a present station of speed authority with the own
founder joins the list, one already there does nothing, a late one applies at the next beat and is counted; of two rivals of one
beat the higher origin, then the newer command number stays, and of nine entries the one ranked lowest goes, each counted as
dropped; any other copy is counted as ignored. That of two command numbers 2^15 apart the offered entry goes is the model's choice
(log 72). -/
def Obligations.SpeedCopies : Prop :=
  (∀ s : State, (s.inSu = [] ∨ ∃ c rest, s.inSu = c :: rest ∧ c.isKind .speed = false) →
    exec .speedCopy s = .next s) ∧
  (∀ (s : State) (c : Copy) (rest : List Copy), s.inSu = c :: rest → c.isKind .speed = true →
    parseSpeed c.payload = none → exec .speedCopy s = .next { s with inSu := rest }) ∧
  ∀ (s : State) (c : Copy) (rest : List Copy) (founder : Nat) (e : Entry) (takes : Bool),
    s.inSu = c :: rest → c.isKind .speed = true → parseSpeed c.payload = some (founder, e) →
    takes = ((s.slot (parseHeader c.header).origin).any (fun r => r.present && r.speedAuthority) &&
      (s.holdsHistory || (s.su.step == .adopting && s.su.founder != 0)) && founder == s.su.founder &&
      s.mc.link.isMember) →
    (takes = false →
      exec .speedCopy s = .next { s with inSu := rest, su := { s.su with ignoredSpeed := bump s.su.ignoredSpeed } }) ∧
    (takes = true → s.su.holds e = true → exec .speedCopy s = .next { s with inSu := rest }) ∧
    (takes = true → s.su.Fits e → beatLater e.beat s.su.beat = true →
      exec .speedCopy s = .next { s with
        inSu := rest, su := { s.su with list := insertRank s.su.beat (e.clamped s.maxSpeed) s.su.list } }) ∧
    (takes = true → s.su.holds e = false → beatLater e.beat s.su.beat = true →
      ∀ o a n b k, s.su.list.find? (Entry.rival e) = some o → e.ident = [a, n] → o.ident = [b, k] →
      (¬(b < a ∨ (a = b ∧ newer 16 n k = true)) → exec .speedCopy s = .next { s with
        inSu := rest, su := { s.su with droppedEntries := bump s.su.droppedEntries } }) ∧
      (b < a ∨ (a = b ∧ newer 16 n k = true) → s.su.list.length ≤ 8 → exec .speedCopy s = .next { s with
        inSu := rest
        su := { s.su with
          list := insertRank s.su.beat (e.clamped s.maxSpeed) (s.su.list.erase o)
          droppedEntries := bump s.su.droppedEntries } })) ∧
    (takes = true → s.su.holds e = false → beatLater e.beat s.su.beat = true →
      s.su.list.find? (Entry.rival e) = none → 8 ≤ s.su.list.length → exec .speedCopy s = .next { s with
        inSu := rest
        su := { s.su with
          list := (insertRank s.su.beat (e.clamped s.maxSpeed) s.su.list).take 8
          droppedEntries := bump s.su.droppedEntries } }) ∧
    (takes = true → s.su.holds e = false → beatLater e.beat s.su.beat = false →
      ∃ u, exec .speedCopy s = .next u ∧ u.inSu = rest ∧ u.causeTrue 12 0 = true ∧ u.su.calm = 0 ∧
        u.su.lateThisBeat = true ∧ u.su.line = s.su.line)

/-- SET SPEED and RELEASE STOP (R52, R53), with their refusals in order. -/
def Obligations.SpeedCommands : Prop :=
  (∀ (s : State) (target accel decel : Nat), s.taken .urgent = some (.setSpeed target accel decel) →
    s.speedAuthority = true → s.holdsHistory = true → accel ≠ 0 → decel ≠ 0 →
    ∃ u e, exec .setSpeed s = .next u ∧
      e = Entry.set s.ownStation s.su.cmdNo target accel decel ((s.su.beat + s.lead) % 4294967296) ∧
      Answers .urgent (if s.maxSpeed < target then .clamped else .done) 0 s u ∧
      u.su.cmdNo = (s.su.cmdNo + 1) % 65536 ∧ u.su.line = s.su.line ∧
      (s.su.Fits e → beatLater e.beat s.su.beat = true → u = { s with
        su := { s.su with
          cmdNo := (s.su.cmdNo + 1) % 65536, list := insertRank s.su.beat (e.clamped s.maxSpeed) s.su.list }
        rp := (s.offer (wholeFrame .speed 0 (speedPayload s.su.founder (e.clamped s.maxSpeed)))).rp
        cmp := u.cmp })) ∧
  (∀ (s : State) (target accel decel : Nat), s.taken .urgent = some (.setSpeed target accel decel) →
    (s.speedAuthority = false ∨ s.holdsHistory = false →
      exec .setSpeed s = .next { s with cmp := s.cmp.answered .urgent .refusedState 0 s.now }) ∧
    (s.speedAuthority = true → s.holdsHistory = true → accel = 0 ∨ decel = 0 →
      exec .setSpeed s = .next { s with cmp := s.cmp.answered .urgent .refusedValue 0 s.now })) ∧
  (∀ (s : State), s.taken .urgent = some .releaseStop → s.speedAuthority = true → s.holdsHistory = true →
    s.su.line.stop ≠ .none ∨ s.su.list.any Entry.isStop = true → s.gateOpen = true →
    ∃ u e, exec .releaseStop s = .next u ∧
      e = Entry.release s.ownStation s.su.cmdNo ((s.su.beat + s.lead) % 4294967296) ∧
      Answers .urgent .done 0 s u ∧ u.su.cmdNo = (s.su.cmdNo + 1) % 65536 ∧ u.su.line = s.su.line ∧
      (s.su.Fits e → beatLater e.beat s.su.beat = true → u = { s with
        su := { s.su with cmdNo := (s.su.cmdNo + 1) % 65536, list := insertRank s.su.beat e s.su.list }
        rp := (s.offer (wholeFrame .speed 0 (speedPayload s.su.founder e))).rp, cmp := u.cmp })) ∧
  ∀ (s : State), s.taken .urgent = some .releaseStop →
    (s.speedAuthority = false ∨ s.holdsHistory = false ∨
        (s.su.line.stop = .none ∧ s.su.list.any Entry.isStop = false) →
      exec .releaseStop s = .next { s with cmp := s.cmp.answered .urgent .refusedState 0 s.now }) ∧
    (s.speedAuthority = true → s.holdsHistory = true →
      s.su.line.stop ≠ .none ∨ s.su.list.any Entry.isStop = true → s.gateOpen = false →
      exec .releaseStop s = .next { s with cmp := s.cmp.answered .urgent .refusedTrip 0 s.now })

/-! ## Axes and drive lines -/

/-- The drive lines. At a tick end an axis is decoupled at a revolution boundary or has come to rest (`a`); at a tick start it does
its arithmetic and sends a Setpoint message with a new sequence and an answer window of 50 µs (`b`): the jog ramp, the entry into
STOPPING and the run-down, the gearing with its trim step, and the way to the coupling target within the catch-up speed (R75, R76,
R79, R82, R83, R86, R88, R91). A register loop evaluated at that tick may then add to its trim, or take its torque. A drive's answer within its window is judged, and a window that closes without
one is counted (R91 to R94). That an answer is judged by the axis state when it is taken is an inference of the model (log 48),
that the first answer closes the window its choice (log 64). -/
def Obligations.DriveLine : Prop :=
  (∀ (s : State) (i : Fin 4) (c : AxisCfg) (a : Axis), s.su.tickDue = true → s.axisCfg i = some c →
    a = (if s.su.inTick = true ∧ (s.axis i).decoupleAtEnd = true ∧ (s.axis i).state.onLine = true then
        { s.axis i with
          state := .decoupled, p := 256 * (s.axis i).setpoint, v := min (s.su.next.speed * c.n / c.d) c.maxSpeed
          jogTarget := 0, trimPending := 0, trimApplied := 0, decouplePending := false, decoupleAtEnd := false }
      else if s.su.inTick = true ∧ (s.axis i).state = .stopping ∧ (s.axis i).v = 0 then
        { s.axis i with state := .decoupled, jogTarget := 0 }
      else s.axis i) →
    ∃ u q b, exec .tickStart s = .next u ∧ q = (if a.sentAny = true then (a.driveSeq + 1) % 256 else 0) ∧
      ((∀ k, (s.loop k).state = .off) → u.axis i = b) ∧
      (u.axis i = { b with trimPending := (u.axis i).trimPending } ∨
        (b.state.energised = true ∧ u.axis i = b.toTorqueOff)) ∧
      (a.state = .disabled → b = a) ∧
      (a.state = .torqueOff → ∀ x, x = ((a.last.map (·.actual)).getD 0) →
        b = { a with
          driveSeq := q, sentAny := true, setpoint := x, window := some ⟨x, u.now + 50000⟩ }) ∧
      (a.state = .decoupled → s.effectiveStop = .none → ∀ v p,
        v = (if a.v < a.jogTarget then min (a.v + c.jogAccel) a.jogTarget else max (a.v - c.jogDecel) a.jogTarget) →
        p = (a.p + v) % (256 * c.m) →
        b = { a with
          v := v, p := p, driveSeq := q, sentAny := true, setpoint := p / 256
          window := some ⟨p / 256, u.now + 50000⟩ }) ∧
      (a.state = .decoupled → s.effectiveStop ≠ .none → a.v = 0 → ∀ p, p = a.p % (256 * c.m) →
        b = { a with
          jogTarget := 0, p := p, driveSeq := q, sentAny := true, setpoint := p / 256
          window := some ⟨p / 256, u.now + 50000⟩ }) ∧
      ((a.state = .coupling ∧ s.effectiveStop ≠ .none) ∨ (a.state = .coupled ∧ s.au.localStop ≠ .none) ∨
          (a.state = .decoupled ∧ s.effectiveStop ≠ .none ∧ 0 < a.v) →
        ∀ v p, v = (if a.state = .decoupled then a.v else min (u.su.next.speed * c.n / c.d) c.maxSpeed) -
            (if s.effectiveStop = .fast then c.fastDecel else c.jogDecel) →
        p = (256 * a.setpoint + v) % (256 * c.m) →
        b = { a with
          state := .stopping, stopFast := s.effectiveStop == .fast, v := v, p := p, jogTarget := 0, trimPending := 0
          trimApplied := 0, decouplePending := false, decoupleAtEnd := false, driveSeq := q, sentAny := true
          setpoint := p / 256, window := some ⟨p / 256, u.now + 50000⟩ }) ∧
      (a.state = .stopping → ∀ f v p, f = (a.stopFast || s.effectiveStop == .fast) →
        v = a.v - (if f = true then c.fastDecel else c.jogDecel) → p = (a.p + v) % (256 * c.m) →
        b = { a with
          stopFast := f, v := v, p := p, driveSeq := q, sentAny := true, setpoint := p / 256
          window := some ⟨p / 256, u.now + 50000⟩ }) ∧
      (a.state = .coupled → s.au.localStop = .none → ∀ (d : Int) (sum x : Nat),
        d = max (-(c.trimStep : Int)) (min (c.trimStep : Int) a.trimPending) →
        sum = u.su.next.speed * c.n + a.rmd →
        x = (((((a.g + sum / (256 * c.d)) % c.m : Nat) : Int) + (a.trimApplied + d)) % (c.m : Int)).toNat →
        b = { a with
          g := (a.g + sum / (256 * c.d)) % c.m, rmd := sum % (256 * c.d), trimApplied := a.trimApplied + d
          trimPending := a.trimPending - d
          decoupleAtEnd := a.decoupleAtEnd || (u.su.next.revStep && a.decouplePending), driveSeq := q
          sentAny := true, setpoint := x, window := some ⟨x, u.now + 50000⟩ }) ∧
      (a.state = .coupling → s.effectiveStop = .none → ∀ sum goal dist x, sum = u.su.next.speed * c.n + a.rmd →
        goal = (u.su.next.angle * c.n / (256 * c.d) + a.phase) % c.m →
        dist = subMod goal (a.setpoint + sum / (256 * c.d)) c.m →
        x = (a.setpoint + sum / (256 * c.d) + min dist c.catchUp) % c.m →
        (c.window < dist → b = { a with
          rmd := sum % (256 * c.d), decoupleAtEnd := a.decoupleAtEnd || (u.su.next.revStep && a.decouplePending)
          driveSeq := q, sentAny := true, setpoint := x, window := some ⟨x, u.now + 50000⟩ }) ∧
        (dist ≤ c.window → b = { a with
          state := .coupled, g := goal, rmd := u.su.next.angle * c.n % (256 * c.d), trimPending := 0, trimApplied := 0
          decoupleAtEnd := a.decoupleAtEnd || (u.su.next.revStep && a.decouplePending), driveSeq := q, sentAny := true
          setpoint := goal
          window := some ⟨goal, u.now + 50000⟩ }))) ∧
  (∀ (t : Nat) (i : Fin 4) (q : Nat) (ready torqueOn fault : Bool) (actual : Nat) (s : State),
    ((s.axis i).window = none ∨ s.axisCfg i = none ∨ q ≠ (s.axis i).driveSeq ∨
      ∃ w, (s.axis i).window = some w ∧ w.closes < max s.now t) →
    exec (.driveAnswer t i q ready torqueOn fault actual) s = .next (s.atTime t)) ∧
  (∀ (t : Nat) (i : Fin 4) (q : Nat) (ready torqueOn fault : Bool) (actual : Nat) (s : State) (w : Window) (c : AxisCfg)
    (a : Axis),
    (s.axis i).window = some w → s.axisCfg i = some c → q = (s.axis i).driveSeq → max s.now t ≤ w.closes →
    a = { s.axis i with
      window := none, last := some ⟨ready, torqueOn, fault, actual % c.m⟩, answered := true, missed := 0 } →
    ∃ u, exec (.driveAnswer t i q ready torqueOn fault actual) s = .next u ∧ u.now = max s.now t ∧
      (u.axis i).last = a.last ∧ (u.axis i).answered = true ∧ (u.axis i).missed = 0 ∧ (u.axis i).window = none ∧
      (a.state.energised = false → u = { s.atTime t with au := { s.au with axes := s.au.axes.set i a } }) ∧
      (a.state.energised = true → fault = true → (u.axis i).state = .torqueOff ∧ u.causeTrue 14 i.val = true) ∧
      (a.state.energised = true → torqueOn = true → c.followLimit < followingError c w.setpoint actual →
        1 ≤ a.following → (u.axis i).state = .torqueOff ∧ u.causeTrue 13 i.val = true) ∧
      (a.state.energised = true → torqueOn = true → fault = false → c.followLimit < followingError c w.setpoint actual →
        a.following = 0 →
        u = { s.atTime t with au := { s.au with axes := s.au.axes.set i { a with following := 1 } } }) ∧
      (a.state.energised = true → torqueOn = true → fault = false → followingError c w.setpoint actual ≤ c.followLimit →
        u = { s.atTime t with au := { s.au with axes := s.au.axes.set i { a with following := 0 } } }) ∧
      (a.state.energised = true → torqueOn = false → fault = false → a.following < 2 →
        u = { s.atTime t with au := { s.au with axes := s.au.axes.set i a } })) ∧
  (∀ (i : Fin 4) (s : State), (s.axis i).window = none ∨ s.axisCfg i = none →
    exec (.answerWindowClose i) s = .next s) ∧
  ∀ (i : Fin 4) (s : State) (w : Window) (c : AxisCfg) (a : Axis),
    (s.axis i).window = some w → s.axisCfg i = some c →
    a = { s.axis i with window := none, answered := false, missed := min ((s.axis i).missed + 1) 15 } →
    ∃ u, exec (.answerWindowClose i) s = .next u ∧ u.now = max s.now w.closes ∧
      u.au.missedAnswers = bump s.au.missedAnswers ∧ (u.axis i).last = (s.axis i).last ∧
      (a.state.energised = true → c.silentLimit ≤ a.missed →
        u.axis i = a.toTorqueOff ∧ u.causeTrue 15 i.val = true) ∧
      (a.state.energised = false ∨ a.missed < c.silentLimit →
        u = { s.atTime w.closes with
          au := { s.au with axes := s.au.axes.set i a, missedAnswers := bump s.au.missedAnswers } })

/-- ENABLE AXIS and DISABLE AXIS of a present axis (R77, R78, R86, R95), with the refusals of ENABLE AXIS in order: an axis that
leaves COUPLED keeps the position reached in the jog accumulator. The actual position
0 in an event of an axis that has never had an answer is the model's choice (log 63). -/
def Obligations.TorqueCommands : Prop :=
  (∀ (s : State) (i : Fin 4) (c : AxisCfg), s.taken .urgent = some (.enableAxis i.val) → s.axisCfg i = some c →
    (s.axis i).state ≠ .disabled →
    (s.mc.link = .leaving ∨ (s.axis i).state ≠ .torqueOff →
      exec .enableAxis s = .next { s with cmp := s.cmp.answered .urgent .refusedState 0 s.now }) ∧
    (s.mc.link ≠ .leaving → (s.axis i).state = .torqueOff → s.pins.eStop = true ∨ s.torqueOffHeld = true →
      exec .enableAxis s = .next { s with cmp := s.cmp.answered .urgent .refusedTrip 0 s.now }) ∧
    (s.mc.link ≠ .leaving → (s.axis i).state = .torqueOff → s.pins.eStop = false → s.torqueOffHeld = false →
      (s.axis i).driveReady = false →
      exec .enableAxis s = .next { s with cmp := s.cmp.answered .urgent .refusedState 0 s.now }) ∧
    (∀ x, s.mc.link ≠ .leaving → (s.axis i).state = .torqueOff → s.pins.eStop = false → s.torqueOffHeld = false →
      (s.axis i).answered = true → (s.axis i).last = some x → x.ready = true → x.fault = false →
      ∃ u, exec .enableAxis s = .next u ∧ Answers .urgent .done 0 s u ∧ u.su = s.su ∧ u.mc = s.mc ∧
        u.axis i = { s.axis i with
          state := .decoupled, p := 256 * x.actual, v := 0, jogTarget := 0, trimPending := 0, trimApplied := 0
          following := 0 } ∧
        (∀ j, j ≠ i → u.axis j = s.axis j) ∧ u.torqueOffOut i = false ∧
        ∀ k d, u.causeTrue k d = (s.causeTrue k d && !((k == 13 || k == 14 || k == 15) && d == i.val)))) ∧
  ∀ (s : State) (i : Fin 4) (c : AxisCfg), s.taken .urgent = some (.disableAxis i.val) → s.axisCfg i = some c →
    (s.axis i).state ≠ .disabled →
    ∃ u, exec .disableAxis s = .next u ∧ Answers .urgent .done 0 s u ∧
      ((s.axis i).state.energised = true →
        u = { s with
          au := { s.au with axes := s.au.axes.set i { s.axis i with
            state := .torqueOff, p := if (s.axis i).state = .coupled then 256 * (s.axis i).setpoint else (s.axis i).p
            v := 0, jogTarget := 0, trimPending := 0, trimApplied := 0, decouplePending := false, decoupleAtEnd := false
            following := 0 } }
          cmp := u.cmp } ∧
        Posts (.axisChanged i .torqueOff (s.axis i).state .command (s.axis i).setpoint
          (((s.axis i).last.map (·.actual)).getD 0)) s u) ∧
      ((s.axis i).state.energised = false → u = { s with cmp := s.cmp.answered .urgent .done 0 s.now })

/-- COUPLE AXIS, DECOUPLE AXIS and JOG AXIS of a present axis (R79, R80, R83, R95), with their refusals in order. Which line
angle and line speed are meant, and that a mode above 1 is refused first, are inferences of the model (logs 9, 10 and 39); the
actual position 0 in an event of an axis that has never had an answer is its choice (log 63). -/
def Obligations.LineCommands : Prop :=
  (∀ (s : State) (i : Fin 4) (c : AxisCfg) (phase : Nat), s.taken .urgent = some (.coupleAxis i.val phase) →
    s.axisCfg i = some c → (s.axis i).state ≠ .disabled →
    ((s.axis i).state ≠ .decoupled →
      exec .coupleAxis s = .next { s with cmp := s.cmp.answered .urgent .refusedState 0 s.now }) ∧
    ((s.axis i).state = .decoupled → c.m ≤ phase →
      exec .coupleAxis s = .next { s with cmp := s.cmp.answered .urgent .refusedValue 0 s.now }) ∧
    ((s.axis i).state = .decoupled → phase < c.m → s.effectiveStop ≠ .none →
      exec .coupleAxis s = .next { s with cmp := s.cmp.answered .urgent .refusedTrip 0 s.now }) ∧
    ((s.axis i).state = .decoupled → phase < c.m → s.effectiveStop = .none →
      ∃ u, exec .coupleAxis s = .next u ∧ Answers .urgent .done 0 s u ∧
        u = { s with
          cmp := u.cmp
          au := { s.au with axes := s.au.axes.set i { s.axis i with
            state := .coupling, phase := phase, v := 0, jogTarget := 0
            rmd := s.su.comingAngle * c.n % (256 * c.d) } } } ∧
        Posts (.axisChanged i .coupling .decoupled .command (s.axis i).setpoint
          (((s.axis i).last.map (·.actual)).getD 0)) s u)) ∧
  (∀ (s : State) (i : Fin 4) (c : AxisCfg) (mode : Nat), s.taken .urgent = some (.decoupleAxis i.val mode) →
    s.axisCfg i = some c → (s.axis i).state ≠ .disabled →
    (1 < mode → exec .decoupleAxis s = .next { s with cmp := s.cmp.answered .urgent .refusedValue 0 s.now }) ∧
    (mode ≤ 1 → (s.axis i).state.onLine = false →
      exec .decoupleAxis s = .next { s with cmp := s.cmp.answered .urgent .refusedState 0 s.now }) ∧
    (mode = 0 → (s.axis i).state.onLine = true →
      ∃ u, exec .decoupleAxis s = .next u ∧ Answers .urgent .done 0 s u ∧
        u = { s with
          cmp := u.cmp
          au := { s.au with axes := s.au.axes.set i { s.axis i with
            state := .decoupled, p := 256 * (s.axis i).setpoint, jogTarget := 0
            v := min (s.su.line.speed * c.n / c.d) c.maxSpeed, trimPending := 0, trimApplied := 0
            decouplePending := false, decoupleAtEnd := false } } } ∧
        Posts (.axisChanged i .decoupled (s.axis i).state .command (s.axis i).setpoint
          (((s.axis i).last.map (·.actual)).getD 0)) s u) ∧
    (mode = 1 → (s.axis i).state.onLine = true →
      exec .decoupleAxis s = .next { s with
        au := { s.au with axes := s.au.axes.set i { s.axis i with decouplePending := true } }
        cmp := s.cmp.answered .urgent .done 0 s.now })) ∧
  ∀ (s : State) (i : Fin 4) (c : AxisCfg) (target : Nat), s.taken .urgent = some (.jogAxis i.val target) →
    s.axisCfg i = some c → (s.axis i).state ≠ .disabled →
    ((s.axis i).state ≠ .decoupled →
      exec .jogAxis s = .next { s with cmp := s.cmp.answered .urgent .refusedState 0 s.now }) ∧
    ((s.axis i).state = .decoupled → 0 < target → s.effectiveStop ≠ .none →
      exec .jogAxis s = .next { s with cmp := s.cmp.answered .urgent .refusedTrip 0 s.now }) ∧
    ((s.axis i).state = .decoupled → target = 0 ∨ s.effectiveStop = .none → exec .jogAxis s = .next { s with
      au := { s.au with axes := s.au.axes.set i { s.axis i with jogTarget := min target c.maxSpeed } }
      cmp := s.cmp.answered .urgent (if c.maxSpeed < target then .clamped else .done) 0 s.now })

/-- Trims (R85, R86): a Correction copy for a COUPLED axis adds the converted correction, rounded with halves away from zero, to
trim pending within its limit, any other is discarded and counted; TRIM AXIS of a present axis adds its amount, and says when
part of it was lost. -/
def Obligations.Trims : Prop :=
  (∀ s : State, s.inAu = [] → exec .correctionCopy s = .next s) ∧
  (∀ (s : State) (c : Copy) (rest : List Copy), s.inAu = c :: rest → parseCorrection c.payload = none →
    exec .correctionCopy s = .next { s with inAu := rest }) ∧
  (∀ (s : State) (c : Copy) (rest : List Copy) (i : Fin 4) (k : AxisCfg) (e : Int), s.inAu = c :: rest →
    parseCorrection c.payload = some (i.val, e) → s.axisCfg i = some k → (s.axis i).state = .coupled →
    ∃ (d : Int), exec .correctionCopy s = .next { s with
        inAu := rest
        au := { s.au with axes := s.au.axes.set i { s.axis i with
          trimPending := max (-1048576) (min 1048576 ((s.axis i).trimPending + d)) } } } ∧
      (1 ≤ k.d → 2 * (e * k.n - d * (256 * k.d)).natAbs ≤ 256 * k.d ∧
        (2 * (e * k.n - d * (256 * k.d)).natAbs = 256 * k.d → (e * k.n).natAbs < (d * (256 * k.d)).natAbs))) ∧
  (∀ (s : State) (c : Copy) (rest : List Copy) (n : Nat) (e : Int), s.inAu = c :: rest →
    parseCorrection c.payload = some (n, e) →
    (4 ≤ n ∨ ∃ i : Fin 4, i.val = n ∧ (s.axisCfg i = none ∨ (s.axis i).state ≠ .coupled)) →
    exec .correctionCopy s = .next { s with
      inAu := rest, au := { s.au with discardedCorrections := bump s.au.discardedCorrections } }) ∧
  ∀ (s : State) (i : Fin 4) (c : AxisCfg) (amount : Int), s.taken .urgent = some (.trimAxis i.val amount) →
    s.axisCfg i = some c → (s.axis i).state ≠ .disabled →
    ((s.axis i).state ≠ .coupled →
      exec .trimAxis s = .next { s with cmp := s.cmp.answered .urgent .refusedState 0 s.now }) ∧
    ((s.axis i).state = .coupled → exec .trimAxis s = .next { s with
      au := { s.au with axes := s.au.axes.set i { s.axis i with
        trimPending := max (-1048576) (min 1048576 ((s.axis i).trimPending + amount)) } }
      cmp := s.cmp.answered .urgent
        (if -1048576 ≤ (s.axis i).trimPending + amount ∧ (s.axis i).trimPending + amount ≤ 1048576 then .done
          else .clamped) 0 s.now })

/-- Every axis command refuses a number outside 0 to 3 with REFUSED_VALUE and an axis in DISABLED with REFUSED_STATE (R73), and
nothing else happens. -/
def Obligations.AxisNumbers : Prop :=
  ∀ (s : State) (i : Instr) (cmd : HostCmd) (n : Nat), s.taken .urgent = some cmd →
    (i = .enableAxis ∧ cmd = .enableAxis n) ∨ (i = .disableAxis ∧ cmd = .disableAxis n) ∨
      (i = .coupleAxis ∧ ∃ p, cmd = .coupleAxis n p) ∨ (i = .decoupleAxis ∧ ∃ m, m ≤ 1 ∧ cmd = .decoupleAxis n m) ∨
      (i = .jogAxis ∧ ∃ v, cmd = .jogAxis n v) ∨ (i = .trimAxis ∧ ∃ v, cmd = .trimAxis n v) →
    (4 ≤ n → exec i s = .next { s with cmp := s.cmp.answered .urgent .refusedValue 0 s.now }) ∧
    (∀ k : Fin 4, k.val = n → s.axisCfg k = none ∨ (s.axis k).state = .disabled →
      exec i s = .next { s with cmp := s.cmp.answered .urgent .refusedState 0 s.now })

/-! ## Cameras and strips -/

/-- Triggers (R99 to R101, R104): a trigger is due at the first due position from the cursor on that lies in the tick; one left of
the tick before, whose end is this tick's start, comes first. It is skipped within 2 us of the last one sent, else sent with the
tag of its position; the oldest trigger without a line is missing after 100 us. That one left may be taken after the tick start is
the model's choice (log 65). -/
def Obligations.Triggers : Prop :=
  (∀ (i : Fin 4) (s : State),
    (s.camCfg i = none ∨ ∃ c, s.camCfg i = some c ∧
      (∀ w, s.cu.lastSweep = some w → w.angle + w.speed ≤ (nextDue c (s.cam i).lastCursor).1) ∧
      ∀ w, s.cu.sweep = some w → w.angle + w.speed ≤ (nextDue c (s.cam i).cursor).1) → exec (.triggerDue i) s = .next s) ∧
  (∀ (i : Fin 4) (s : State) (c : CamCfg) (w : Sweep) (pos k now cursor : Nat) (left : Bool) (x : Cam),
    s.camCfg i = some c →
    (left = true → s.cu.lastSweep = some w ∧ cursor = (s.cam i).lastCursor ∧ x = { s.cam i with lastCursor := pos + 1 }) →
    (left = false → (∀ v, s.cu.lastSweep = some v → v.angle + v.speed ≤ (nextDue c (s.cam i).lastCursor).1) ∧
      s.cu.sweep = some w ∧ cursor = (s.cam i).cursor ∧ x = { s.cam i with cursor := pos + 1 }) →
    (pos, k) = nextDue c cursor → pos < w.angle + w.speed →
    now = max s.now (w.start + ((pos - w.angle) * w.length + w.speed - 1) / w.speed).toNat →
    (1 ≤ c.pitch → c.pitch < 65536 → c.phase < 4294967296 → cursor < 4294967296 + 16777216 →
      cursor ≤ pos ∧ pos % 4294967296 = c.phase + k * c.pitch ∧
      ∀ p j, cursor ≤ p → p % 4294967296 = c.phase + j * c.pitch → pos ≤ p) ∧
    (∀ l, (s.cam i).lastSent = some l → now < l + 2000 →
      exec (.triggerDue i) s = .next { s with
        now := now
        cu := { s.cu with
          skippedLines := bump s.cu.skippedLines
          cams := s.cu.cams.set i { x with owed := true } } }) ∧
    (((s.cam i).lastSent = none ∨ ∃ l, (s.cam i).lastSent = some l ∧ l + 2000 ≤ now) →
      exec (.triggerDue i) s = .next { s with
        now := now
        cu := { s.cu with cams := s.cu.cams.set i { x with
          owed := false, lastSent := some now, trigNo := ((s.cam i).trigNo + 1) % 256
          trigs := (s.cam i).trigs ++
            [{ number := (s.cam i).trigNo, sent := now
               tag :=
                { rev := if pos < 4294967296 then w.rev else (w.rev + 1) % 65536, index := k, angle := pos % 4294967296
                  skippedBefore := (s.cam i).owed, isPartial := false } }] } } })) ∧
  (∀ (t : Nat) (i : Fin 4) (s : State), ((s.cam i).trigs = [] ∨
      ∃ e rest, (s.cam i).trigs = e :: rest ∧ max s.now t < e.sent + 100000) →
    exec (.triggerTimeout t i) s = .next (s.atTime t)) ∧
  ∀ (t : Nat) (i : Fin 4) (s : State) (e : Trigger) (rest : List Trigger), (s.cam i).trigs = e :: rest →
    e.sent + 100000 ≤ max s.now t → ∃ u, exec (.triggerTimeout t i) s = .next u ∧
      ({ s.atTime t with cu := { s.cu with
        missingLines := bump s.cu.missingLines
        cams := s.cu.cams.set i { s.cam i with trigs := rest, missing := min ((s.cam i).missing + 1) 16 } } }).Reported u ∧
      (15 ≤ (s.cam i).missing → u.causeTrue 18 i.val = true)

/-- A camera line (R103, R105, R106, R109 to R111, R120): a line without its trigger is not taken; a good one leaves the trigger
list, adds its darkness to the open accumulators when it is whole, is judged by the web-break watch, and, when its index is chosen,
is accepted in the strip in progress, starts a strip, or is dropped. Each entry of the camera's viewer set that is due makes a
view line of it while no View line frame waits (R181). That no strip starts in a buffer in which one has begun, so that the line is
dropped, is an inference of the model (log 23). -/
def Obligations.CameraLines : Prop :=
  (∀ (t : Nat) (i : Fin 4) (n : Nat) (px : List Byte) (s : State),
    (s.camCfg i = none ∨ (s.cam i).trigs.find? (fun e => e.number == n) = none) →
    exec (.cameraLine t i n px) s = .next (s.atTime t)) ∧
  (∀ (t : Nat) (i : Fin 4) (n : Nat) (px : List Byte) (s : State) (c : CamCfg) (e : Trigger) (vs due : List Viewer)
    (line : Viewer → List Byte) (tag : LineTag) (marked : Scu),
    s.camCfg i = some c → (s.cam i).trigs.find? (fun e => e.number == n) = some e → s.causeTrue 18 i.val = false →
    vs = s.scu.viewers.get i → (vs.map fun v => (v.station, v.slot)).Nodup →
    due = vs.filter (fun v => match v.last with
      | none => true
      | some l => decide (l + 1000000 ≤ max s.now t)) →
    line = (fun v => (List.range (min (c.width / v.decimation) v.width)).map fun k =>
      byte (((((padTo c.width px).drop (k * v.decimation)).take v.decimation).map fun y => y.toNat).sum / v.decimation)) →
    tag = { e.tag with isPartial := px.length != c.width, index := 0 } →
    marked = { s.scu with viewers := s.scu.viewers.set i (vs.map fun v =>
      if v ∈ due then { v with last := some (max s.now t) } else v) } →
    ∃ u, exec (.cameraLine t i n px) s = .next u ∧
      (s.waits 7 = true ∨ due = [] → u.scu = s.scu ∧ (u.causeTrue 16 i.val = s.causeTrue 16 i.val → u.rp = s.rp)) ∧
      (s.waits 7 = false → (∀ v ∈ due, v.station ≠ s.ownStation) → u.causeTrue 16 i.val = s.causeTrue 16 i.val →
        u.waits 7 = false ∨ due.length = 1 → u.scu = marked ∧
        u.rp = ((due.flatMap fun v => viewLineFrames v.station v.slot i.val tag (line v)).foldl (fun y f => y.offer f) s).rp) ∧
      ∀ v, s.waits 7 = false → due = [v] → v.station = s.ownStation →
        u.scu = marked.takeViewLine
          { station := v.station, slot := v.slot, cam := i.val, tag := tag, column := 0, pixels := line v } ∧
        (u.causeTrue 16 i.val = s.causeTrue 16 i.val → u.rp = s.rp)) ∧
  ∀ (t : Nat) (i : Fin 4) (n : Nat) (px : List Byte) (s : State) (c : CamCfg) (e : Trigger) (x : Cam) (broken : Bool),
    s.camCfg i = some c → x = s.cam i → x.trigs.find? (fun e => e.number == n) = some e →
    broken = s.causeTrue 16 i.val →
    ∃ u, exec (.cameraLine t i n px) s = .next u ∧ u.now = max s.now t ∧ u.su.line = s.su.line ∧ u.mc = s.mc ∧
      (u.cam i).trigs = (x.trigs.eraseP fun e => e.number == n) ∧ (u.cam i).missing = 0 ∧ u.causeTrue 18 i.val = false ∧
      (u.causeTrue 16 i.val = if c.breakLength ≠ 0 ∧ webPresent c (padTo c.width px) = broken ∧
        c.breakLength ≤ x.webCount + 1 then !broken else broken) ∧
      (∀ j, j ≠ i → u.cam j = s.cam j) ∧ (px.length ≠ c.width → u.mu = s.mu) ∧
      (∀ d, px.length = c.width →
        d = (((px.drop c.m0).take (c.m1 - c.m0 + 1)).map fun b => 255 - b.toNat).sum / (c.m1 - c.m0 + 1) →
        u.mu = { s.mu with loops := s.mu.loops.set i { s.loop i with
          entries := (s.loop i).entries.map fun m => match m.acc with
            | some a =>
              if a.rev = e.tag.rev ∧ m.start ≤ e.tag.angle ∧ e.tag.angle < m.start + m.length ∧ c.markThreshold < d then
                { m with acc := some { a with
                    weight := a.weight + (d - c.markThreshold)
                    sum := a.sum + (d - c.markThreshold) * (e.tag.angle - m.start) } }
              else m
            | none => m } }) ∧
      (e.tag.index % c.decimation ≠ 0 →
        (u.cam i).even = x.even ∧ (u.cam i).odd = x.odd ∧ (u.cam i).queue = x.queue ∧ (u.cam i).gap = x.gap ∧
          u.cu.droppedLines = s.cu.droppedLines) ∧
      (e.tag.index % c.decimation = 0 → x.inProgress = true → 16 ≤ x.queue.length →
        (u.cam i).buf x.selector = { x.buf x.selector with overrun := true } ∧ (u.cam i).queue = x.queue ∧
          u.cu.droppedLines = bump s.cu.droppedLines) ∧
      (e.tag.index % c.decimation = 0 → x.inProgress = true → x.queue.length < 16 →
        (u.cam i).buf x.selector =
          { x.buf x.selector with
            lines := (x.buf x.selector).lines + 1, complete := decide (c.height ≤ (x.buf x.selector).lines + 1) } ∧
        (u.cam i).queue.length = x.queue.length + 1 ∧
        ((u.cam i).inProgress = decide ((x.buf x.selector).lines + 1 < c.height)) ∧
        (x.queue ≠ [] → ∃ r, (u.cam i).queue = x.queue ++ [r] ∧ r.half = x.selector ∧ r.reading = false ∧
          r.addr = (x.buf x.selector).addr + (x.buf x.selector).lines * (8 + (c.x1 - c.x0 + 1)) ∧
          r.todo.flatMap (·.bytes) =
            { e.tag with isPartial := px.length != c.width }.stored ++
              ((padTo c.width px).drop c.x0).take (c.x1 - c.x0 + 1))) ∧
      (e.tag.index % c.decimation = 0 → x.inProgress = false → x.startHalf = none →
        (u.cam i).gap = some (x.gap.getD 0 + 1) ∧ u.cu.droppedLines = bump s.cu.droppedLines ∧
          (u.cam i).queue = x.queue) ∧
      (∀ k, e.tag.index % c.decimation = 0 → x.inProgress = false → x.startHalf = some k → x.queue.length < 16 →
        (u.cam i).buf k =
          { x.buf k with
            begun := true, firstTag := some { e.tag with isPartial := px.length != c.width }, gap := x.gap
            lines := (x.buf k).lines + 1, complete := decide (c.height ≤ (x.buf k).lines + 1) } ∧
        (u.cam i).gap = none ∧ (u.cam i).queue.length = x.queue.length + 1)

/-- What comes back of a strip's transfers (R110, R112 to R115, R198): a valid map entry is held by the map cache, an invalid
one or a failure aborts the strip and is entered, and the last write of a strip's last record hands its buffer back. A transfer
whose strip was aborted or let go of aborts nothing more; the last write a configuration waits for is stated with CONFIGURE. The
handling of the transfers a configuration lets go of, and of an entry read of an aborted strip, is the model's inference (logs 25
and 57); which addresses a delivery error enters is its choice (logs 24 and 89), and so is that a read issued before the cache was emptied
still fills it (log 88). -/
def Obligations.StripTransfers : Prop :=
  (∀ (t : Nat) (i : Fin 4) (reply : DmaReply) (s : State), s.cmp.ready .mapEntryRead (.camera i) = none →
    exec (.mapEntryReadComplete t i reply) s = .next (s.atTime t)) ∧
  (∀ (t : Nat) (i : Fin 4) (ok : Bool) (s : State), s.cmp.ready .stripWrite (.camera i) = none →
    exec (.stripWriteComplete t i ok) s = .next (s.atTime t)) ∧
  (∀ (t : Nat) (i : Fin 4) (bytes : List Byte) (s : State) (x : Transfer) (h : Half) (a host : Nat) (v : Bool)
    (c : CamCfg),
    s.cmp.ready .mapEntryRead (.camera i) = some x → x.strip = some ⟨h, a, v⟩ → s.camCfg i = some c →
    mapEntryPage bytes = some host → s.cu.pointer < s.cu.cache.length →
    ∃ u, exec (.mapEntryReadComplete t i (.data bytes)) s = .next u ∧ u.cu.lookup i (a / 8192) = some host ∧
      u.cu.mapErrors = s.cu.mapErrors ∧ (u.cam i).even = (s.cam i).even ∧ (u.cam i).odd = (s.cam i).odd ∧
      (u.cam i).queue.length = (s.cam i).queue.length ∧ PostsNothing s u ∧
      (v = false → u.cu.cams = s.cu.cams ∧ u.cmp = s.cmp.without .mapEntryRead (.camera i)) ∧
      u = { s.atTime t with cu := u.cu, cmp := u.cmp }) ∧
  (∀ (t : Nat) (i : Fin 4) (s : State) (x : Transfer) (h : Half) (a : Nat) (c : CamCfg) (j : Instr) (kind : DmaKind),
    s.cu.draining = none → x.strip = some ⟨h, a, true⟩ → s.camCfg i = some c → ((s.cam i).buf h).aborted = false →
    (∃ bytes, j = .mapEntryReadComplete t i (.data bytes) ∧ mapEntryPage bytes = none ∧ kind = .invalidMapEntry ∧
        s.cmp.ready .mapEntryRead (.camera i) = some x) ∨
      (j = .mapEntryReadComplete t i .error ∧ kind = .errorCompletion ∧
        s.cmp.ready .mapEntryRead (.camera i) = some x) ∨
      (j = .stripWriteComplete t i false ∧ kind = .errorCompletion ∧
        s.cmp.ready .stripWrite (.camera i) = some x) →
    ∃ u, exec j s = .next u ∧ EntersDmaError x kind s u ∧ (∀ r ∈ (u.cam i).queue, r.half ≠ h) ∧
      u.cu.mapErrors = (if kind = .invalidMapEntry then bump s.cu.mapErrors else s.cu.mapErrors) ∧
      (u.writesInFlight i h = true → ((u.cam i).buf h).aborted = true ∧
        ((u.cam i).buf h).partOwned = ((s.cam i).buf h).partOwned) ∧
      (u.writesInFlight i h = false → ((s.cam i).buf h).partOwned = true → (u.cam i).buf h = .hostOwned) ∧
      u = { s.atTime t with cu := u.cu, cmp := u.cmp }) ∧
  (∀ (t : Nat) (i : Fin 4) (s : State) (x : Transfer) (h : Half) (a : Nat) (r : StripRec) (rest : List StripRec)
    (b : StripBuf),
    s.cu.draining = none → s.cmp.ready .stripWrite (.camera i) = some x →
    x.strip = some ⟨h, a, true⟩ → ((s.cam i).buf h).aborted = false → (s.cam i).queue = r :: rest → r.todo = [] →
    (s.cmp.without .stripWrite (.camera i)).dma.any (fun y => y.purpose == .stripWrite && y.servesStrip i r.half) = false →
    b = (s.cam i).buf r.half →
    ∃ u, exec (.stripWriteComplete t i true) s = .next u ∧ u = { s.atTime t with cu := u.cu, cmp := u.cmp } ∧
      (u.cam i).queue.length = rest.length ∧
      (b.complete = false ∨ rest.any (fun q => q.half == r.half) = true →
        (u.cam i).buf r.half = { b with written := b.written + 1 } ∧ PostsNothing s u) ∧
      (b.complete = true → rest.any (fun q => q.half == r.half) = false →
        (u.cam i).buf r.half = .hostOwned ∧
        Posts (.stripDone i r.half b.lines b.overrun b.mapErr b.dmaErr b.firstTag b.gap) s u)) ∧
  (∀ (t : Nat) (i : Fin 4) (s : State) (x : Transfer) (h : Half) (a : Nat) (c : CamCfg) (bytes : List Byte),
    x.strip = some ⟨h, a, false⟩ → s.camCfg i = some c → mapEntryPage bytes = none →
    s.cmp.ready .mapEntryRead (.camera i) = some x →
    ∃ u, exec (.mapEntryReadComplete t i (.data bytes)) s = .next u ∧ EntersDmaError x .invalidMapEntry s u ∧
      u = { s.atTime t with cu := { s.cu with mapErrors := bump s.cu.mapErrors }, cmp := u.cmp }) ∧
  (∀ (t : Nat) (i : Fin 4) (s : State) (x : Transfer) (h : Half) (a : Nat) (j : Instr) (ok : Bool) (p : Purpose),
    x.strip = some ⟨h, a, false⟩ → s.cmp.ready p (.camera i) = some x →
    (j = .mapEntryReadComplete t i .error ∧ ok = false ∧ p = .mapEntryRead) ∨
      (j = .stripWriteComplete t i ok ∧ p = .stripWrite ∧ (s.cu.draining = none ∨
        (s.cmp.without p (.camera i)).dma.any (fun y => y.purpose == .stripWrite) = true)) →
    ∃ u, exec j s = .next u ∧ (ok = false → EntersDmaError x .errorCompletion s u) ∧
      u = { s.atTime t with cmp := u.cmp } ∧ (ok = true → u.cmp = s.cmp.without p (.camera i))) ∧
  ∀ (t : Nat) (i : Fin 4) (s : State) (x : Transfer), s.cu.draining = none → x.strip = none →
    (∀ bytes, s.cmp.ready .mapEntryRead (.camera i) = some x →
      exec (.mapEntryReadComplete t i (.data bytes)) s =
        .next { s.atTime t with cmp := s.cmp.without .mapEntryRead (.camera i) }) ∧
    (s.cmp.ready .stripWrite (.camera i) = some x →
      exec (.stripWriteComplete t i true) s =
        .next { s.atTime t with cmp := s.cmp.without .stripWrite (.camera i) })

/-- GIVE STRIP BUFFER and INVALIDATE MAP CACHE (R108, R113, R203), with their refusals. That a buffer above 1 is refused before
the checks of the state is an inference of the model (log 39). -/
def Obligations.StripCommands : Prop :=
  (∀ s : State, s.taken .normal = some .invalidateMapCache → exec .invalidateMapCache s = .next { s with
    cu := { s.cu with invalidate := true }, cmp := s.cmp.answered .normal .done 0 s.now }) ∧
  (∀ (s : State) (n b addr size : Nat), s.taken .normal = some (.giveStripBuffer n b addr size) → 4 ≤ n ∨ 2 ≤ b →
    exec .giveStripBuffer s = .next { s with cmp := s.cmp.answered .normal .refusedValue 0 s.now }) ∧
  ∀ (s : State) (i : Fin 4) (h : Half) (addr size : Nat),
    s.taken .normal = some (.giveStripBuffer i.val h.code addr size) →
    (s.camCfg i = none ∨ ((s.cam i).buf h).partOwned = true →
      exec .giveStripBuffer s = .next { s with cmp := s.cmp.answered .normal .refusedState 0 s.now }) ∧
    (∀ c, s.camCfg i = some c → ((s.cam i).buf h).partOwned = false →
      (addr % 8192 ≠ 0 ∨ size < c.height * (8 + (c.x1 - c.x0 + 1)) ∨ 33554432 < addr + size) →
      exec .giveStripBuffer s = .next { s with cmp := s.cmp.answered .normal .refusedValue 0 s.now }) ∧
    (∀ c, s.camCfg i = some c → ((s.cam i).buf h).partOwned = false →
      addr % 8192 = 0 → c.height * (8 + (c.x1 - c.x0 + 1)) ≤ size → addr + size ≤ 33554432 →
      ∃ u, exec .giveStripBuffer s = .next u ∧
        u = { s with cu := { s.cu with cams := u.cu.cams }, cmp := s.cmp.answered .normal .done 0 s.now } ∧
        (u.cam i).buf h = { StripBuf.hostOwned with partOwned := true, addr := addr, size := size } ∧
        (u.cam i).buf h.other = (s.cam i).buf h.other ∧ (u.cam i).queue = (s.cam i).queue ∧
        (u.cam i).trigs = (s.cam i).trigs ∧ (u.cam i).inProgress = (s.cam i).inProgress ∧
        ∀ j, j ≠ i → u.cam j = s.cam j)

/-! ## Register control -/

/-- Register loops: LOAD MARK TABLE with the read of its table, START REGISTER and STOP REGISTER (R118, R127, R128; 10.3), with
their refusals; at a tick start the accumulators, the evaluation of a revolution and the comparison with the speed (R119, R122 to
R124, R128 to R130); and the judging of a found mark, with its tolerance watch and its correction (R124 to R127). A mark table is accepted when its
fields lie in the ranges of R118. That a loop entering OFF keeps no result is an inference of the model (log 52). -/
def Obligations.RegisterLoops : Prop :=
  (∀ (bytes : List Byte) (entries : List MarkEntry), checkMarkTable bytes = .inl entries ↔
    entries = (List.range 8).map (markEntryFields bytes) ∧
      ∀ n, n < 8 → rd bytes (32 * n) 1 ≤ 1 ∧ (markEntryFields bytes n).Accepted n) ∧
  (∀ s : State, s.su.tickDue = true → (∀ j, (s.loop j).state = .off) → ∃ u, exec .tickStart s = .next u ∧
    u.mu = { s.mu with
      cov1 := some ⟨u.su.line.angle, u.su.next.speed, u.su.line.rev⟩, cov2 := s.mu.cov1 }) ∧
  (∀ (s : State) (i : Fin 4) (c : CamCfg) (l : Loop), s.su.tickDue = true → s.camCfg i = some c → l = s.loop i →
    l.state ≠ .off → (∀ j, j ≠ i → (s.loop j).state = .off) →
    ∃ u now st, exec .tickStart s = .next u ∧ now = (⟨u.su.line.angle, u.su.next.speed, u.su.line.rev⟩ : Cov) ∧
      st = (if l.state = .active ∨ l.state = .paused then
        (if c.minSpeed ≤ u.su.next.speed then .active else .paused) else l.state) ∧
      u.mu.cov1 = some now ∧ u.mu.cov2 = s.mu.cov1 ∧ (∀ j, j ≠ i → u.loop j = s.loop j) ∧
      (∀ n, n < l.entries.length → (l.entry n).enabled = true →
        (∀ rev, now.finds (l.entry n).start = some rev → ((u.loop i).entry n).acc = some ⟨rev, 0, 0⟩) ∧
        (now.finds (l.entry n).start = none → (∃ b, s.mu.cov2 = some b ∧ (l.entry n).endIn b ≠ none) →
          ((u.loop i).entry n).acc = none) ∧
        (now.finds (l.entry n).start = none → (∀ b, s.mu.cov2 = some b → (l.entry n).endIn b = none) →
          ((u.loop i).entry n).acc = (l.entry n).acc)) ∧
      ((l.closes s.mu.cov2 = none ∨ ∃ rev, l.closes s.mu.cov2 = some rev ∧
          ((l.entry 0).tick c.minWeight s.mu.cov2 now).result rev = none) →
        (u.loop i).state = st ∧ (u.loop i).missing = l.missing ∧ (u.loop i).seek = l.seek) ∧
      ∀ rev r, l.closes s.mu.cov2 = some rev → ((l.entry 0).tick c.minWeight s.mu.cov2 now).result rev = some r →
        (l.state = .seeking → r.pos = none → (u.loop i).state = .seeking ∧ (u.loop i).seek = 0) ∧
        (l.state = .seeking → r.pos ≠ none → (u.loop i).seek = min (l.seek + 1) 2 ∧
          (u.loop i).state = if 1 ≤ l.seek then
            (if c.minSpeed ≤ u.su.next.speed then .active else .paused) else .seeking) ∧
        (l.state ≠ .seeking → r.pos = none → (u.loop i).missing = min (l.missing + 1) c.missingLimit ∧
          (u.loop i).state = if c.missingLimit ≤ l.missing + 1 then .hold else st) ∧
        (l.state ≠ .seeking → r.pos ≠ none → (u.loop i).missing = 0 ∧ (u.loop i).state = st ∧
          ∀ n x y, 1 ≤ n → n ≤ 7 → x = (l.entry n).tick c.minWeight s.mu.cov2 now → y = (u.loop i).entry n →
            (x.enabled = false ∨ x.result rev = none →
              y.missing = x.missing ∧ y.hold = x.hold ∧ y.tolCount = x.tolCount) ∧
            (∀ w, x.enabled = true → x.result rev = some w → w.pos = none →
              y.missing = min (x.missing + 1) c.missingLimit ∧ y.tolCount = x.tolCount ∧
              y.hold = (x.hold || decide (c.missingLimit ≤ x.missing + 1))) ∧
            (∀ w, x.enabled = true → x.result rev = some w → w.pos ≠ none → y.missing = 0 ∧ y.hold = x.hold))) ∧
  (∀ (s v : State) (i : Fin 4) (c : CamCfg) (rev ref n pos count : Nat) (x : MarkEntry) (e corr : Int) (isTrue : Bool)
    (m : Mu),
    v = State.judge i c rev ref s n → n < (s.loop i).entries.length → x = (s.loop i).entry n → x.enabled = true →
    x.result rev = some ⟨rev, some pos⟩ →
    -2147483648 ≤ e → e < 2147483648 → ((pos : Int) - ref - x.nominal - e) % 4294967296 = 0 →
    corr = (if e.natAbs ≤ x.deadband then 0 else
      max (-(x.maxStep : Int)) (min (x.maxStep : Int) (-(Int.tdiv (e * x.gain) 16)))) →
    isTrue = s.causeTrue 17 (i.val * 8 + n) →
    count = (if decide (x.tolerance < e.natAbs) = isTrue then 0 else x.tolCount + 1) →
    m = { s.mu with loops := s.mu.loops.set i { s.loop i with
      entries := (s.loop i).entries.set n { x with missing := 0, tolCount := count } } } →
    v.causeTrue 17 (i.val * 8 + n) = (if c.toleranceCount ≤ count then !isTrue else isTrue) ∧
    (v.loop i).entry n = { x with missing := 0, tolCount := if c.toleranceCount ≤ count then 0 else count } ∧
    (count < c.toleranceCount → corr = 0 ∨ (s.loop i).state ≠ .active ∨ x.hold = true → v = { s with mu := m }) ∧
    (∀ k a, count < c.toleranceCount → corr ≠ 0 → (s.loop i).state = .active → x.hold = false →
      x.station = s.ownStation → k.val = x.axis → s.axisCfg k = some a → (s.axis k).state = .coupled →
      v = { s with
        mu := m
        au := { s.au with axes := s.au.axes.set k { s.axis k with
          trimPending := max (-1048576) (min 1048576 ((s.axis k).trimPending + trimOf a corr)) } } }) ∧
    (count < c.toleranceCount → corr ≠ 0 → (s.loop i).state = .active → x.hold = false → x.station ≠ s.ownStation →
      s.mc.link.inRing = true → s.laneOf 4 = .urgent → s.rp.urgent.length < 8 → s.mu.sendList = [] →
      v = { s with
        mu := m
        rp := { s.rp with
          urgent := s.rp.urgent ++ [wholeFrame .correction x.station (correctionPayload x.axis corr)] } })) ∧
  (∀ (s : State) (j : Instr) (n a l : Nat),
    (j = .loadMarkTable ∧ s.taken .normal = some (.loadMarkTable n a l)) ∨
      (j = .startRegister ∧ s.taken .normal = some (.startRegister n)) ∨
      (j = .stopRegister ∧ s.taken .normal = some (.stopRegister n)) → 4 ≤ n →
    exec j s = .next { s with cmp := s.cmp.answered .normal .refusedValue 0 s.now }) ∧
  (∀ (s : State) (i : Fin 4) (a l : Nat), s.taken .normal = some (.loadMarkTable i.val a l) →
    (s.camCfg i = none ∨ (s.loop i).state ≠ .off →
      exec .loadMarkTable s = .next { s with cmp := s.cmp.answered .normal .refusedState 0 s.now }) ∧
    ((s.camCfg i).isSome = true → (s.loop i).state = .off → l < 256 →
      exec .loadMarkTable s = .next { s with cmp := s.cmp.answered .normal .refusedValue 0 s.now }) ∧
    ((s.camCfg i).isSome = true → (s.loop i).state = .off → 256 ≤ l →
      exec .loadMarkTable s = .next { s with cmp := s.cmp.reading .markTableRead a 256 s.now })) ∧
  (∀ (t : Nat) (s : State) (reply : DmaReply), s.cmp.ready .markTableRead .normal = none →
    exec (.markTableReadComplete t reply) s = .next (s.atTime t)) ∧
  (∀ (t : Nat) (bytes : List Byte) (s : State) (x : Transfer) (i : Fin 4) (a l : Nat),
    s.cmp.ready .markTableRead .normal = some x → s.working = some (.loadMarkTable i.val a l) →
    (∀ d, checkMarkTable bytes = .inr d → exec (.markTableReadComplete t (.data bytes)) s = .next { s.atTime t with
      cmp := (s.cmp.without .markTableRead .normal).answered .normal .refusedValue d (max s.now t) }) ∧
    (∀ entries, checkMarkTable bytes = .inl entries →
      exec (.markTableReadComplete t (.data bytes)) s = .next { s.atTime t with
        mu := { s.mu with loops := s.mu.loops.set i { s.loop i with entries := entries } }
        cmp := (s.cmp.without .markTableRead .normal).answered .normal .done 0 (max s.now t) })) ∧
  (∀ (s : State) (i : Fin 4), s.taken .normal = some (.startRegister i.val) →
    (s.camCfg i = none ∨ (s.loop i).state ≠ .off ∨ ((s.loop i).entry 0).enabled = false →
      exec .startRegister s = .next { s with cmp := s.cmp.answered .normal .refusedState 0 s.now }) ∧
    ((s.camCfg i).isSome = true → (s.loop i).state = .off → ((s.loop i).entry 0).enabled = true →
      ∃ u, exec .startRegister s = .next u ∧ Answers .normal .done 0 s u ∧
        u.loop i =
          { state := .seeking, missing := 0, seek := 0
            entries := (s.loop i).entries.map fun e => { e with missing := 0, hold := false, tolCount := 0 } } ∧
        (∀ d, d / 8 = i.val → u.causeTrue 17 d = false) ∧ (∀ j, j ≠ i → u.loop j = s.loop j) ∧ u.su = s.su)) ∧
  ∀ (s : State) (i : Fin 4), s.taken .normal = some (.stopRegister i.val) →
    ((s.loop i).state = .off → exec .stopRegister s = .next { s with cmp := s.cmp.answered .normal .done 0 s.now }) ∧
    ((s.loop i).state ≠ .off → ∃ u, exec .stopRegister s = .next u ∧ Answers .normal .done 0 s u ∧
      u.loop i = { s.loop i with
        state := .off, entries := (s.loop i).entries.map fun e => { e with acc := none, results := [], tolCount := 0 } } ∧
      (∀ d, d / 8 = i.val → u.causeTrue 17 d = false) ∧ (∀ j, j ≠ i → u.loop j = s.loop j) ∧ u.su = s.su)

/-- REARM REGISTER (R131). -/
def Obligations.RearmRegister : Prop :=
  (∀ (s : State) (n : Nat), s.taken .normal = some (.rearmRegister n) → 4 ≤ n →
    exec .rearmRegister s = .next { s with cmp := s.cmp.answered .normal .refusedValue 0 s.now }) ∧
  (∀ (s : State) (i : Fin 4), s.taken .normal = some (.rearmRegister i.val) →
    (s.loop i).state = .off ∨ (s.loop i).state = .seeking →
    exec .rearmRegister s = .next { s with cmp := s.cmp.answered .normal .refusedState 0 s.now }) ∧
  (∀ (s : State) (i : Fin 4), s.taken .normal = some (.rearmRegister i.val) →
    (s.loop i).state = .active ∨ (s.loop i).state = .paused →
    ∃ u, exec .rearmRegister s = .next u ∧ Answers .normal .done 0 s u ∧
      u = { s with
        cmp := u.cmp
        mu := { s.mu with loops := s.mu.loops.set i { s.loop i with
          entries := (s.loop i).entries.map fun e => { e with missing := 0, hold := false } } } } ∧
      ((s.loop i).entries.any (·.hold) = true →
        Posts (.loopChanged i (s.loop i).state (s.loop i).state .rearm none
          ((s.loop i).entries.map fun _ => false)) s u) ∧
      ((s.loop i).entries.any (·.hold) = false → PostsNothing s u)) ∧
  ∀ (s : State) (i : Fin 4), s.taken .normal = some (.rearmRegister i.val) → (s.loop i).state = .hold →
    ∃ u, exec .rearmRegister s = .next u ∧ Answers .normal .done 0 s u ∧
      u.loop i =
        { state := .seeking, missing := 0, seek := 0
          entries := (s.loop i).entries.map fun e => { e with missing := 0, hold := false, tolCount := 0 } } ∧
      (∀ d, d / 8 = i.val → u.causeTrue 17 d = false) ∧ (∀ j, j ≠ i → u.loop j = s.loop j)

/-- The result of an accumulator that closes (R121): found from the minimum weight on, at the window start plus X / W rounded to
the nearest integer with a value exactly halfway rounded down; missing below it. -/
def Obligations.MarkPosition : Prop :=
  ∀ (minWeight : Nat) (e : MarkEntry) (a : Acc), e.acc = some a → 1 ≤ minWeight →
    (e.close minWeight).acc = none ∧
    (a.weight < minWeight → (e.close minWeight).results = e.results ++ [⟨a.rev, none⟩]) ∧
    (minWeight ≤ a.weight → ∃ q, (e.close minWeight).results = e.results ++ [⟨a.rev, some (e.start + q)⟩] ∧
      2 * a.sum ≤ 2 * q * a.weight + a.weight ∧ 2 * q * a.weight < 2 * a.sum + a.weight)

/-! ## Trips -/

/-- A raise taken from the ring and a lapse (R139, R140, R143, R144, R146, R153, R154). A new key makes an entry while the table
has room, and sets trips lost when it has none; its effects are requested either way, and it sets the first-trip record and the
source identifiers, which then stay. A payload that R139 or R203 discards is only taken. After a loss of the host link changes are
held back while the event queue is not set up again (R159). That the raise is taken whole, so that the record and the identifiers
take its key first where its STOP becomes late and cause 12 is a new key too, is an inference of the model (log 13). -/
def Obligations.TripRaises : Prop :=
  (∀ s : State, s.inTu = [] → exec .tripCopy s = .next s) ∧
  (∀ (s : State) (c : Copy) (rest : List Copy), s.inTu = c :: rest → parseTrip c.payload = none →
    exec .tripCopy s = .next { s with inTu := rest }) ∧
  (∀ (s : State) (c : Copy) (rest : List Copy) (cause detail beat founder : Nat) (cat : Category) (k : TripKey),
    s.inTu = c :: rest → parseTrip c.payload = some (.raise, cause, detail, cat, beat, founder) →
    k = ⟨(parseHeader c.header).origin, cause, detail⟩ → k.origin ≠ s.ownStation →
    ∃ u, exec .tripCopy s = .next u ∧ ({ s with inTu := rest }).Reported u ∧
      (cat = .torqueOff → ∀ i, (u.axis i).state.energised = false) ∧
      (2 ≤ cat.code → s.su.list.length ≤ 6 → ∃ e ∈ u.su.list, e.ident = [k.origin, cause, detail]) ∧
      (cat = .warn → u.su = s.su ∧ u.au.axes = s.au.axes) ∧
      (s.tu.entry k = none → s.tu.table.length < 32 → u.tu.entry k = some
        { key := k, category := cat, scope := .ring, state := .active, firstSeen := s.su.beat, refresh := 0
          quiet := 0 }) ∧
      (s.tu.entry k = none → 32 ≤ s.tu.table.length → u.tu.lost = true ∧ u.tu.entry k = none) ∧
      (s.tu.entry k = none → s.tu.first = none → u.tu.first = some
        { key := k, category := cat, scope := .ring, beat := s.su.beat, angle := s.su.line.angle
          rev := s.su.line.rev, header := c.header, payload := c.payload }) ∧
      (s.tu.entry k = none → s.tu.first.isSome = true → u.tu.first = s.tu.first ∧ u.tu.more = true) ∧
      (s.tu.entry k = none →
        (cat = .torqueOff → u.tu.firstTorqueOff = some (s.tu.firstTorqueOff.getD k.origin) ∧
          (s.tu.firstTorqueOff.isSome = true → u.tu.multiTorqueOff = true)) ∧
        (cat = .normalStop ∨ cat = .fastStop → u.tu.firstStop = some (s.tu.firstStop.getD k.origin)) ∧
        (cat = .warn → u.tu.firstWarn = some (s.tu.firstWarn.getD k.origin))) ∧
      ((s.tu.firstTorqueOff.isSome = true → u.tu.firstTorqueOff = s.tu.firstTorqueOff) ∧
        (s.tu.firstStop.isSome = true → u.tu.firstStop = s.tu.firstStop) ∧
        (s.tu.firstWarn.isSome = true → u.tu.firstWarn = s.tu.firstWarn) ∧
        (s.tu.multiTorqueOff = true → u.tu.multiTorqueOff = true)) ∧
      (u.causeTrue 12 0 = s.causeTrue 12 0 →
        (cat ≠ .torqueOff ∨ (s.tu.entry k).isSome = true → u.tu.firstTorqueOff = s.tu.firstTorqueOff) ∧
        (cat = .warn ∨ cat = .torqueOff ∨ (s.tu.entry k).isSome = true → u.tu.firstStop = s.tu.firstStop) ∧
        (cat ≠ .warn ∨ (s.tu.entry k).isSome = true → u.tu.firstWarn = s.tu.firstWarn) ∧
        (cat ≠ .torqueOff ∨ s.tu.firstTorqueOff = none ∨ (s.tu.entry k).isSome = true →
          u.tu.multiTorqueOff = s.tu.multiTorqueOff) ∧
        ((s.tu.entry k).isSome = true → u.tu.first = s.tu.first ∧ u.tu.more = s.tu.more)) ∧
      (∀ e, s.tu.entry k = some e → u.tu.entry k = some
        { e with category := cat, scope := .ring, state := .active, refresh := 0, quiet := 0 })) ∧
  (∀ (s : State) (o c d : Nat), (s.tu.entry ⟨o, c, d⟩ = none ∨ ∃ e, s.tu.entry ⟨o, c, d⟩ = some e ∧
      (e.state ≠ .active ∨ e.key.origin = s.ownStation ∨ e.quiet ≠ 6)) → exec (.tripLapse o c d) s = .next s) ∧
  ∀ (s : State) (o c d : Nat) (e : TripEntry), s.tu.entry ⟨o, c, d⟩ = some e → e.state = .active →
    o ≠ s.ownStation → e.quiet = 6 → ∃ u, exec (.tripLapse o c d) s = .next u ∧ s.Reported u ∧
      u.tu.entry ⟨o, c, d⟩ = some { e with state := .cleared } ∧ u.su = s.su ∧ u.rp = s.rp ∧
      u.au = { s.au with localStop := u.localStopLevel } ∧
      (s.tu.noticeOut = false →
        (s.tu.noticeHeld = false ∨ (s.cmp.event.run = true ∧ (s.cmp.urgent.run = false ∨ s.cmp.normal.run = false))) →
        u.tu.noticeOut = true) ∧
      (s.tu.noticeOut = true ∨ (s.tu.noticeHeld = true ∧ s.cmp.event.run = false) → u.tu.changesPending = true)

/-- A refresh and a clear taken from the ring (R141, R142), with the notice of a clear (R157, R159). That an entry whose quiet count
has reached 6 lapses before a refresh taken after that roster-beat start, which then raises it again (R143), is the model's choice
(log 4). -/
def Obligations.RefreshAndClear : Prop :=
  (∀ (s : State) (c : Copy) (rest : List Copy) (cause detail beat founder : Nat) (cat : Category) (k : TripKey),
    s.inTu = c :: rest → parseTrip c.payload = some (.refresh, cause, detail, cat, beat, founder) →
    k = ⟨(parseHeader c.header).origin, cause, detail⟩ →
    (∀ e, s.tu.entry k = some e → e.state = .active → e.quiet = 6 → k.origin ≠ s.ownStation →
      exec .tripCopy s = .next (State.takeRaise
        { key := k, category := cat, scope := .ring, beat := beat, founder := founder, header := c.header
          payload := c.payload } (State.clearTrip k { s with inTu := rest }))) ∧
    (∀ e, s.tu.entry k = some e → e.state = .active → e.quiet ≠ 6 ∨ k.origin = s.ownStation →
      exec .tripCopy s = .next { s with
      inTu := rest
      tu := { s.tu with table := s.tu.table.map fun x =>
        if x.key = k then { x with refresh := min (x.refresh + 1) 255, quiet := 0 } else x } }) ∧
    ((s.tu.entry k = none ∨ ∃ e, s.tu.entry k = some e ∧ e.state ≠ .active) →
      exec .tripCopy s = .next (State.takeRaise
        { key := k, category := cat, scope := .ring, beat := beat, founder := founder, header := c.header
          payload := c.payload } { s with inTu := rest }))) ∧
  ∀ (s : State) (c : Copy) (rest : List Copy) (cause detail beat founder : Nat) (cat : Category) (k : TripKey),
    s.inTu = c :: rest → parseTrip c.payload = some (.clear, cause, detail, cat, beat, founder) →
    k = ⟨(parseHeader c.header).origin, cause, detail⟩ →
    ((s.tu.entry k = none ∨ ∃ e, s.tu.entry k = some e ∧ e.state = .cleared) →
      exec .tripCopy s = .next { s with inTu := rest }) ∧
    (∀ e, s.tu.entry k = some e → e.state ≠ .cleared → ∃ u, exec .tripCopy s = .next u ∧
      u = { s with inTu := rest, tu := u.tu, au := { s.au with localStop := u.localStopLevel }, cmp := u.cmp } ∧
      (u.tu.table = s.tu.table.map fun x => if x.key = k then { x with state := .cleared } else x) ∧
      (s.tu.noticeOut = true ∨ s.holdsNotice = true →
        u.tu = { s.tu with table := u.tu.table, changesPending := true } ∧ PostsNothing s u) ∧
      (s.tu.noticeOut = false → s.holdsNotice = false →
        u.tu = { s.tu with table := u.tu.table, noticeOut := true } ∧
        Posts (.tripNotice u.tu.table.length (u.tu.table.filter fun x => x.state == .active).length u.gateOpen
          u.tu.lost u.tu.more) s u))

/-- RAISE HOST TRIP, CLEAR HOST TRIP and ACKNOWLEDGE TRIPS (R137, R155); `CabinetInputs` gives the Trip frames of a cause that
becomes true or false. -/
def Obligations.TripCommands : Prop :=
  (∀ (s : State) (code : Nat), s.taken .urgent = some (.raiseHostTrip code) →
    (255 < code → exec .raiseHostTrip s = .next { s with cmp := s.cmp.answered .urgent .refusedValue 0 s.now }) ∧
    (code ≤ 255 → s.causeTrue 19 code = true →
      exec .raiseHostTrip s = .next { s with cmp := s.cmp.answered .urgent .refusedState 0 s.now }) ∧
    (code ≤ 255 → s.causeTrue 19 code = false → ∃ u, exec .raiseHostTrip s = .next u ∧
      Answers .urgent .done 0 s u ∧ u.causeTrue 19 code = true ∧ u.mc = s.mc ∧ u.su.line = s.su.line ∧
      u.rp = (s.reportTrue 19 code).rp ∧
      ((s.causeEntry 19).1 = .masked → u = { s with
        tu := { s.tu with causes := u.tu.causes }, cmp := s.cmp.answered .urgent .done 0 s.now }) ∧
      ((s.causeEntry 19).1 ≠ .masked → s.tu.entry ⟨s.ownStation, 19, code⟩ = none → s.tu.table.length < 32 →
        u.tu.entry ⟨s.ownStation, 19, code⟩ = some
          { key := ⟨s.ownStation, 19, code⟩, category := (s.causeEntry 19).1, scope := (s.causeEntry 19).2
            state := .active, firstSeen := s.su.beat, refresh := 0, quiet := 0 }))) ∧
  (∀ (s : State) (code : Nat), s.taken .urgent = some (.clearHostTrip code) →
    (255 < code → exec .clearHostTrip s = .next { s with cmp := s.cmp.answered .urgent .refusedValue 0 s.now }) ∧
    (code ≤ 255 → s.causeTrue 19 code = false →
      exec .clearHostTrip s = .next { s with cmp := s.cmp.answered .urgent .refusedState 0 s.now }) ∧
    (code ≤ 255 → s.causeTrue 19 code = true → ∃ u, exec .clearHostTrip s = .next u ∧
      Answers .urgent .done 0 s u ∧ u.mc = s.mc ∧ u.su = s.su ∧ u.au.axes = s.au.axes ∧
      u.rp = (s.reportFalse 19 code).rp ∧
      ∀ c d, u.causeTrue c d = (s.causeTrue c d && !(c == 19 && d == code)))) ∧
  (∀ (t code : Nat) (s : State), ∃ u, exec (.hostLinkLoss t) s = .next u ∧ u.causeTrue 19 code = s.causeTrue 19 code) ∧
  (∀ (t code : Nat) (s : State), (∃ u, exec (.warmInput t) s = .next u ∧ u.causeTrue 19 code = false) ∧
    ∃ u, exec (.coldReset t) s = .next u ∧ u.causeTrue 19 code = false) ∧
  ∀ s : State, s.taken .urgent = some .acknowledgeTrips → ∃ u, exec .acknowledgeTrips s = .next u ∧
    u = { s with
      au := { s.au with localStop := u.localStopLevel }, cmp := s.cmp.answered .urgent .done 0 s.now
      tu := { s.tu with
        table := s.tu.table.filter fun e => e.state == .active, first := none, more := false, firstTorqueOff := none
        firstStop := none, firstWarn := none, multiTorqueOff := false, lost := false } } ∧
    (u.gateOpen = !s.tu.table.any TripEntry.closesGate)

/-! ## Operator screens -/

/-- Copies about tiles taken by the Screen Unit (R170 to R173, R175, R177): an invalidate brings a VALID entry behind its
version to STALE, sets the awaited version of a waiting one behind it, and restarts a FAILED one; a fragment of a newer version is
placed in a fill slot, the last one of a tile without a group commits it, and the last one of a group commits the group; a request
and a touch become events. That the members left behind by one whose mark an invalidate replaces or clears are committed at once
when all are complete is an inference of the model (log 50), and so is that a complete slot is committed at once when its mark is
cleared. -/
def Obligations.TileCopies : Prop :=
  (∀ (s : State) (j : Instr), j = .tileInvalidate ∨ j = .tileDataFragment ∨ j = .tileRequestCopy ∨ j = .touchCopy →
    s.inScu = [] → exec j s = .next s) ∧
  (∀ (s : State) (c : Copy) (rest : List Copy) (group count : Nat) (tiles : List (Nat × Nat × Nat)),
    s.inScu = c :: rest → c.tileCtl = some (.invalidate group count tiles) →
    ∃ u, exec .tileInvalidate s = .next u ∧
      u = { s with inScu := rest, scu := { s.scu with tiles := u.scu.tiles, fills := u.scu.fills } } ∧
      u.scu.tiles.map (·.id) = s.scu.tiles.map (·.id) ∧ u.scu.fills.Sublist s.scu.fills ∧
      (∀ id, s.scu.filled id = false → u.scu.fillOf id = s.scu.fillOf id) ∧
      (∀ x, s.scu.tile x.id = some x → (x.id.publisher ≠ c.origin ∨ ∀ y ∈ tiles, (y.1, y.2.1) ≠ (x.id.page, x.id.index)) →
        s.scu.filled x.id = false ∨ ((s.scu.tiles.map (·.id)).Nodup ∧ x.inGroup c.origin group = false ∧
          ∀ z ∈ s.scu.tiles, ∀ y ∈ tiles, z.id = ⟨c.origin, y.1, y.2.1⟩ → ∀ m, z.mark = some m →
            x.inGroup c.origin m.group = false) →
        u.scu.tile x.id = some x ∧ u.scu.fillOf x.id = s.scu.fillOf x.id) ∧
      (∀ x v p n m, s.scu.tile x.id = some x → Lists tiles p n v → x.id = ⟨c.origin, p, n⟩ →
        x.state = .stale ∨ x.state = .wanted → newerThan v x.awaited = true → s.scu.filled x.id = false →
        x.mark = some m → count ≤ 1 ∨ group ≠ m.group → (s.scu.tiles.map (·.id)).Nodup →
        (∀ y ∈ s.scu.tiles, y.inGroup c.origin m.group = true → y.id ≠ x.id →
          s.scu.filled y.id = true ∧ ∀ z ∈ tiles, (z.1, z.2.1) ≠ (y.id.page, y.id.index)) →
        ∀ y f, y ∈ s.scu.tiles → y.inGroup c.origin m.group = true → y.id ≠ x.id → s.scu.fillOf y.id = some f →
          u.scu.fillOf y.id = none ∧ ∃ z, u.scu.tile y.id = some z ∧ z.mark = none ∧ z.held = some f.version ∧
            z.pixels = some (f.parts.flatMap fun w => w.getD [])) ∧
      (∀ x v p n f, s.scu.tile x.id = some x → Lists tiles p n v → x.id = ⟨c.origin, p, n⟩ →
        x.state = .stale ∨ x.state = .wanted → newerThan v x.awaited = true → x.mark ≠ none → count ≤ 1 →
        s.scu.fillOf x.id = some f → s.scu.filled x.id = true →
        u.scu.fillOf x.id = none ∧ ∃ z, u.scu.tile x.id = some z ∧ z.mark = none ∧ z.held = some f.version) ∧
      (∀ x v p n, s.scu.tile x.id = some x → Lists tiles p n v → x.id = ⟨c.origin, p, n⟩ → x.state = .valid →
        s.scu.filled x.id = false → newerThan v x.held = true → u.scu.tile x.id = some { x with
          state := .stale, awaited := some v, progress := s.now
          mark := if 1 < count then some ⟨group, s.now + 40000000⟩ else none }) ∧
      (∀ x v p n, s.scu.tile x.id = some x → Lists tiles p n v → x.id = ⟨c.origin, p, n⟩ → x.state = .valid →
        tiles = [(p, n, v)] ∨ s.scu.filled x.id = false → newerThan v x.held = false → u.scu.tile x.id = some x) ∧
      (∀ x v p n, s.scu.tile x.id = some x → Lists tiles p n v → x.id = ⟨c.origin, p, n⟩ →
        x.state = .stale ∨ x.state = .wanted →
        (newerThan v x.awaited = true → s.scu.filled x.id = false → u.scu.tile x.id = some { x with
          awaited := some v, progress := s.now
          mark := if 1 < count then some ⟨group, s.now + 40000000⟩ else none }) ∧
        (tiles = [(p, n, v)] ∨ s.scu.filled x.id = false → newerThan v x.awaited = false → u.scu.tile x.id = some x)) ∧
      (∀ x v p n, s.scu.tile x.id = some x → Lists tiles p n v → x.id = ⟨c.origin, p, n⟩ → x.state = .failed →
        (newerThan v x.held = true → s.scu.filled x.id = false → u.scu.tile x.id = some { x with
          state := if x.pixels.isSome then .stale else .wanted, requests := 0, awaited := some v, progress := s.now
          mark := if 1 < count then some ⟨group, s.now + 40000000⟩ else none }) ∧
        (tiles = [(p, n, v)] ∨ s.scu.filled x.id = false → newerThan v x.held = false → u.scu.tile x.id = some x))) ∧
  (∀ (s : State) (c : Copy) (rest : List Copy), s.inScu = c :: rest →
    (parseHeader c.header).kindCode = Kind.tileData.code →
    ((parseTileData c.origin (parseHeader c.header).fragIndex c.payload = none →
      exec .tileDataFragment s = .next { s with inScu := rest }) ∧
    (∀ f, parseTileData c.origin (parseHeader c.header).fragIndex c.payload = some f →
      ∃ u, exec .tileDataFragment s = .next u ∧ u = { s with inScu := rest, scu := u.scu } ∧
        u.scu.pageMap = s.scu.pageMap ∧ u.scu.tiles.map (·.id) = s.scu.tiles.map (·.id) ∧
        ((s.scu.tile f.id = none ∨ ∃ x, s.scu.tile f.id = some x ∧ newerThan f.version x.held = false) →
          u.scu = s.scu) ∧
        (∀ x, s.scu.tile f.id = some x → newerThan f.version x.held = true → s.scu.fillOf f.id = none →
          8 ≤ s.scu.fills.length → u.scu.fillIgnored = bump s.scu.fillIgnored ∧
          (x.mark = none ∨ newerThan f.version x.awaited = false → u.scu.fills = s.scu.fills)) ∧
        (∀ x, s.scu.tile f.id = some x → newerThan f.version x.held = true → s.scu.fillOf f.id = none →
          s.scu.fills.length < 8 →
          u.scu.fillOf f.id = some
            { id := f.id, version := f.version, group := f.group
              parts := (List.replicate 16 none).set f.index (some f.pixels) } ∧
          u.scu.fillIgnored = s.scu.fillIgnored) ∧
        (∀ x y, s.scu.tile f.id = some x → newerThan f.version x.held = true → s.scu.fillOf f.id = some y →
          y.version = f.version → y.group = f.group → x.state = .wanted → x.awaited = some f.version → x.mark = none →
          (y.parts.set f.index (some f.pixels)).all Option.isSome = true →
          u.scu.fillOf f.id = none ∧ u.scu.tile f.id = some { x with
            state := .valid, held := some f.version, awaited := none, mark := none, requests := 0, progress := s.now
            pixels := some ((y.parts.set f.index (some f.pixels)).flatMap fun z => z.getD []) }) ∧
        (∀ x y m, s.scu.tile f.id = some x → newerThan f.version x.held = true → s.scu.fillOf f.id = some y →
          y.version = f.version → y.group = f.group → x.state = .stale ∨ x.state = .wanted →
          x.awaited = some f.version → x.mark = some m →
          (y.parts.set f.index (some f.pixels)).all Option.isSome = true →
          ((∃ z ∈ s.scu.tiles, z.inGroup f.id.publisher m.group = true ∧ z.id ≠ f.id ∧ s.scu.filled z.id = false) →
            u.scu.fillOf f.id = some { y with parts := y.parts.set f.index (some f.pixels) } ∧
            u.scu.tile f.id = some { x with progress := s.now } ∧
            ∀ id, id ≠ f.id → u.scu.fillOf id = s.scu.fillOf id ∧ u.scu.tile id = s.scu.tile id) ∧
          ((∀ z ∈ s.scu.tiles, z.inGroup f.id.publisher m.group = true → z.id ≠ f.id → s.scu.filled z.id = true) →
            u.scu.fillOf f.id = none ∧ u.scu.tile f.id = some { x with
              state := .valid, held := some f.version, awaited := none, mark := none, requests := 0, progress := s.now
              pixels := some ((y.parts.set f.index (some f.pixels)).flatMap fun z => z.getD []) } ∧
            ((s.scu.tiles.map (·.id)).Nodup → ∀ z g, z ∈ s.scu.tiles →
              z.inGroup f.id.publisher m.group = true → z.id ≠ f.id → s.scu.fillOf z.id = some g →
              u.scu.fillOf z.id = none ∧ ∃ w, u.scu.tile z.id = some w ∧ w.mark = none ∧ w.held = some g.version ∧
                w.pixels = some (g.parts.flatMap fun q => q.getD []))))))) ∧
  (∀ (s : State) (c : Copy) (rest : List Copy) (held : Option Nat) (page index : Nat), s.inScu = c :: rest →
    c.tileCtl = some (.request held page index) → ∃ u, exec .tileRequestCopy s = .next u ∧
      u = { s with inScu := rest, cmp := u.cmp } ∧ Posts (.tileWanted c.origin page index held) s u) ∧
  ∀ (s : State) (c : Copy) (rest : List Copy) (press : Bool) (page x index y : Nat), s.inScu = c :: rest →
    c.tileCtl = some (.touch press page x index y) → ∃ u, exec .touchCopy s = .next u ∧
      u = { s with inScu := rest, cmp := u.cmp } ∧ Posts (.touch c.origin press false false page x y index) s u

/-- Copies about views taken by the Screen Unit (R178, R180, R182, R183): a view request enters, updates or is refused by the
viewer set of its camera; a view stop removes its key; a view refusal and a view line act on a view slot that awaits them. The
effective decimation is the model's reading of R180 (log 51). -/
def Obligations.ViewCopies : Prop :=
  (∀ (s : State) (j : Instr), j = .viewRequest ∨ j = .viewStop ∨ j = .viewRefusal ∨ j = .viewLine →
    s.inScu = [] → exec j s = .next s) ∧
  (∀ (s : State) (c : Copy) (rest : List Copy) (slot k width : Nat) (i : Fin 4) (cfg : CamCfg),
    s.inScu = c :: rest → c.tileCtl = some (.viewRequest slot i.val k width) → s.camCfg i = some cfg →
    ∃ u, exec .viewRequest s = .next u ∧ u.inScu = rest ∧
      (∀ j, j ≠ i → ∀ v ∈ u.scu.viewers.get j, v.hasKey c.origin slot = false) ∧
      (((s.scu.viewers.get i).any fun v => v.hasKey c.origin slot) = false → (s.scu.viewers.get i).length < 8 →
        u.scu.viewers.get i = s.scu.viewers.get i ++
          [{ station := c.origin, slot := slot, decimation := effectiveDecimation cfg.width k, width := width
             last := none }] ∧ u.rp = s.rp ∧ u.cmp = s.cmp) ∧
      (((s.scu.viewers.get i).any fun v => v.hasKey c.origin slot) = true →
        (u.scu.viewers.get i = (s.scu.viewers.get i).map fun v => if v.hasKey c.origin slot then
          { v with decimation := effectiveDecimation cfg.width k, width := width } else v) ∧
          u.rp = s.rp ∧ u.cmp = s.cmp) ∧
      (((s.scu.viewers.get i).any fun v => v.hasKey c.origin slot) = false → 8 ≤ (s.scu.viewers.get i).length →
        c.origin ≠ s.ownStation → u.scu.viewers.get i = s.scu.viewers.get i ∧
          (s.mc.link.inRing = true → u.rp = (s.offer (wholeFrame .tileControl c.origin
            (tileCtlPayload (.viewRefusal slot i.val 2)))).rp))) ∧
  (∀ (s : State) (c : Copy) (rest : List Copy) (slot cam k width : Nat), s.inScu = c :: rest →
    c.tileCtl = some (.viewRequest slot cam k width) → c.origin ≠ s.ownStation → s.mc.link.inRing = true →
    (4 ≤ cam ∨ ∃ i : Fin 4, i.val = cam ∧ s.camCfg i = none) → exec .viewRequest s = .next { s with
      inScu := rest
      rp := (s.offer (wholeFrame .tileControl c.origin (tileCtlPayload (.viewRefusal slot cam 1)))).rp }) ∧
  (∀ (s : State) (c : Copy) (rest : List Copy) (slot : Nat) (i : Fin 4), s.inScu = c :: rest →
    c.tileCtl = some (.viewStop slot i.val) → exec .viewStop s = .next { s with
      inScu := rest
      scu := { s.scu with
        viewers := s.scu.viewers.set i ((s.scu.viewers.get i).filter fun v => !v.hasKey c.origin slot) } }) ∧
  (∀ (s : State) (c : Copy) (rest : List Copy) (i : Fin 2) (cam reason : Nat) (v : ViewSlot), s.inScu = c :: rest →
    c.tileCtl = some (.viewRefusal i.val cam reason) → v = s.scu.view i →
    (v.state.takes = true → v.station = c.origin → ∃ u, exec .viewRefusal s = .next u ∧
      u = { s with
        inScu := rest, cmp := u.cmp
        scu := s.scu.setView i { v with state := .refused, image := blankImage v.w v.h } } ∧
      Posts (.viewRefused i.val c.origin cam reason) s u) ∧
    (v.state.takes = false ∨ v.station ≠ c.origin → exec .viewRefusal s = .next { s with inScu := rest })) ∧
  (∀ (s : State) (c : Copy) (rest : List Copy) (slot cam reason : Nat), s.inScu = c :: rest → 2 ≤ slot →
    c.tileCtl = some (.viewRefusal slot cam reason) → exec .viewRefusal s = .next { s with inScu := rest }) ∧
  (∀ (s : State) (c : Copy) (rest : List Copy), s.inScu = c :: rest →
    (parseHeader c.header).kindCode = Kind.viewLine.code →
    parseViewLine c.origin (parseHeader c.header).fragIndex c.payload = none →
    exec .viewLine s = .next { s with inScu := rest }) ∧
  ∀ (s : State) (c : Copy) (rest : List Copy) (m : ViewLineMsg) (i : Fin 2) (v : ViewSlot), s.inScu = c :: rest →
    (parseHeader c.header).kindCode = Kind.viewLine.code →
    parseViewLine c.origin (parseHeader c.header).fragIndex c.payload = some m → m.slot = i.val → v = s.scu.view i →
    ∃ u, exec .viewLine s = .next u ∧ u = { s with inScu := rest, scu := s.scu.setView i (u.scu.view i) } ∧
      (v.state.takes = false ∨ v.station ≠ c.origin ∨ v.cam ≠ m.cam → u.scu.view i = v) ∧
      (v.state.takes = true → v.station = c.origin → v.cam = m.cam →
        (u.scu.view i).state = .opened ∧ (u.scu.view i).row.map (·.2) = some m.tag ∧
        (v.row = none → (u.scu.view i).row = some (0, m.tag)) ∧
        (∀ n tag, v.row = some (n, tag) → tag ≠ m.tag → (u.scu.view i).row = some ((n + 1) % (32 * v.h), m.tag)) ∧
        (∀ n tag, v.row = some (n, tag) → tag = m.tag → (u.scu.view i).row = v.row ∧
          (u.scu.view i).image = v.image.modify n (writeRow m.column m.pixels)))

/-- The moments of the Screen Unit (R161, R172 to R174): a group's deadline commits the complete slots of its members together and
clears the marks of all of them, a tile without progress for 20 ms is asked for again or after three requests becomes FAILED, and a
display frame takes its picture. That the first member overdue ends its group is the model's choice (log 80), and that the members
left behind by a FAILED one are committed at once when all are complete its inference (log 50). -/
def Obligations.ScreenTimes : Prop :=
  (∀ (t p g : Nat) (s : State), s.scu.tiles.any (Tile.overdue (max s.now t) p g) = false →
    exec (.groupDeadline t p g) s = .next (s.atTime t)) ∧
  (∀ (t p g : Nat) (s : State), s.scu.tiles.any (Tile.overdue (max s.now t) p g) = true →
    ∃ u, exec (.groupDeadline t p g) s = .next u ∧
      u = { s.atTime t with scu := { s.scu with tiles := u.scu.tiles, fills := u.scu.fills } } ∧
      u.scu.tiles.map (·.id) = s.scu.tiles.map (·.id) ∧ (∀ x ∈ u.scu.tiles, x.inGroup p g = false) ∧
      (∀ x, (s.scu.tiles.map (·.id)).Nodup → s.scu.tile x.id = some x → x.inGroup p g = false → u.scu.tile x.id = some x) ∧
      (∀ x, s.scu.tile x.id = some x → x.inGroup p g = true → s.scu.filled x.id = false →
        u.scu.tile x.id = some { x with mark := none }) ∧
      (∀ x f, s.scu.tile x.id = some x → x.inGroup p g = true → s.scu.fillOf x.id = some f →
        (∀ part ∈ f.parts, part.isSome = true) → u.scu.fillOf x.id = none ∧
        (∀ v, x.awaited = some v → newer 16 v f.version = true → u.scu.tile x.id = some { x with
          state := .stale, held := some f.version, pixels := some (f.parts.flatMap fun z => z.getD []), mark := none
          requests := 0, progress := max s.now t }) ∧
        ((∀ v, x.awaited = some v → newer 16 v f.version = false) → u.scu.tile x.id = some { x with
          state := .valid, held := some f.version, awaited := none
          pixels := some (f.parts.flatMap fun z => z.getD []), mark := none, requests := 0
          progress := max s.now t }))) ∧
  (∀ (t p g n : Nat) (s : State), (s.scu.tile ⟨p, g, n⟩ = none ∨ ∃ x, s.scu.tile ⟨p, g, n⟩ = some x ∧
      (s.scu.watched x = false ∨ max s.now t < x.progress + 20000000)) →
    exec (.tileProgressTimeout t p g n) s = .next (s.atTime t)) ∧
  (∀ (t p g n : Nat) (s : State) (x : Tile), s.scu.tile ⟨p, g, n⟩ = some x → s.scu.watched x = true →
    x.progress + 20000000 ≤ max s.now t → ∃ u, exec (.tileProgressTimeout t p g n) s = .next u ∧
      (x.requests < 3 → u = { s.atTime t with scu := { s.scu with tiles := u.scu.tiles }, rp := u.rp, cmp := u.cmp } ∧
        u.scu.tile x.id = some { x with requests := x.requests + 1, progress := max s.now t } ∧
        (p = s.ownStation → u.rp = s.rp ∧ Posts (.tileWanted p g n x.held) s u) ∧
        (p ≠ s.ownStation → s.mc.link.inRing = true → u.cmp = s.cmp ∧
          u.rp = (s.offer (wholeFrame .tileControl p (tileCtlPayload (.request x.held g n)))).rp)) ∧
      (3 ≤ x.requests → u = { s.atTime t with scu := u.scu } ∧
        u.scu.tile x.id = some { x with state := .failed, mark := none } ∧ u.scu.fillOf x.id = none ∧
        u.scu.fillFailures = bump s.scu.fillFailures ∧
        (x.mark = none → u.scu.fills = s.scu.fills.filter fun y => y.id != x.id) ∧
        ∀ m, x.mark = some m → (s.scu.tiles.map (·.id)).Nodup →
          (∀ y ∈ s.scu.tiles, y.inGroup p m.group = true → y.id ≠ x.id → s.scu.filled y.id = true) →
          ∀ y f, y ∈ s.scu.tiles → y.inGroup p m.group = true → y.id ≠ x.id → s.scu.fillOf y.id = some f →
            u.scu.fillOf y.id = none ∧ ∃ z, u.scu.tile y.id = some z ∧ z.mark = none ∧ z.held = some f.version ∧
              z.pixels = some (f.parts.flatMap fun w => w.getD []))) ∧
  ∀ (t : Nat) (s : State),
    (s.screen = true → exec (.displayFrameStart t) s = .next { s.atTime t with scu := { s.scu with
      picture := some ⟨s.scu.pageMap, s.scu.tiles, s.scu.view0, s.scu.view1⟩ } }) ∧
    (s.screen = false → exec (.displayFrameStart t) s =
      .next { s.atTime t with scu := { s.scu with picture := none } })

/-- SET PAGE MAP and its read (R163, R203; 10.3): checked whole, then applied; an assignment of the blank or an inset content
takes its position, and one of a tile without an entry allocates one or counts a full store (R165). -/
def Obligations.PageMapCommand : Prop :=
  (∀ (s : State) (a l : Nat), s.taken .normal = some (.setPageMap a l) →
    (s.screen = false → exec .setPageMap s = .next { s with cmp := s.cmp.answered .normal .refusedState 0 s.now }) ∧
    (s.screen = true → l % 8 ≠ 0 ∨ l = 0 ∨ 6144 < l →
      exec .setPageMap s = .next { s with cmp := s.cmp.answered .normal .refusedValue 0 s.now }) ∧
    (s.screen = true → l % 8 = 0 → 8 ≤ l → l ≤ 6144 →
      exec .setPageMap s = .next { s with cmp := s.cmp.reading .pageMapRead a l s.now })) ∧
  (∀ (t : Nat) (reply : DmaReply) (s : State), s.cmp.ready .pageMapRead .normal = none →
    exec (.pageMapReadComplete t reply) s = .next (s.atTime t)) ∧
  ∀ (t a l : Nat) (bytes : List Byte) (s : State) (x : Transfer),
    s.cmp.ready .pageMapRead .normal = some x → s.working = some (.setPageMap a l) →
    (∀ n, parseAssignments bytes (l / 8) = .inr n → exec (.pageMapReadComplete t (.data bytes)) s =
      .next { s.atTime t with
        cmp := (s.cmp.without .pageMapRead .normal).answered .normal .refusedValue n (max s.now t) }) ∧
    (∀ assignments, parseAssignments bytes (l / 8) = .inl assignments →
      ∃ u, exec (.pageMapReadComplete t (.data bytes)) s = .next u ∧ Answers .normal .done 0 s u ∧
        u.scu.pageMap = assignments.foldl (fun m p => m.set p.1 p.2) s.scu.pageMap ∧ u.mc = s.mc ∧ u.su = s.su ∧
        u.now = max s.now t ∧
        (∀ p id, assignments = [(p, .tile id)] → s.scu.tile id = none → s.scu.tiles.length < 512 →
          p < s.scu.pageMap.length → ∃ y, u.scu.tile id = some y ∧ y.state = .wanted ∧ y.held = none ∧
            y.refs = (u.scu.pageMap.filter fun z => z == .tile id).length ∧ y.progress = max s.now t) ∧
        (∀ p id, assignments = [(p, .tile id)] → s.scu.tile id = none → 512 ≤ s.scu.tiles.length →
          (∀ y ∈ s.scu.tiles, 2 ≤ y.refs) → u.scu.storeFull = bump s.scu.storeFull))

/-- PUBLISH TILES with the reads of its list and of its tiles (R166 to R168, R203). A publication waits for its invalidate to
enter ahead of its data: where the invalidate stays behind another frame of its class, that is the model's choice (log 93). -/
def Obligations.Publishing : Prop :=
  (∀ (s : State) (a l : Nat), s.taken .normal = some (.publishTiles a l) →
    (s.cfg = none → exec .publishTiles s = .next { s with cmp := s.cmp.answered .normal .refusedState 0 s.now }) ∧
    (s.cfg.isSome = true → l % 16 ≠ 0 ∨ l = 0 ∨ 128 < l →
      exec .publishTiles s = .next { s with cmp := s.cmp.answered .normal .refusedValue 0 s.now }) ∧
    (s.cfg.isSome = true → l % 16 = 0 → 16 ≤ l → l ≤ 128 →
      exec .publishTiles s = .next { s with cmp := s.cmp.reading .publishListRead a l s.now })) ∧
  (∀ (t : Nat) (reply : DmaReply) (s : State),
    (s.cmp.ready .publishListRead .normal = none →
      exec (.publishListReadComplete t reply) s = .next (s.atTime t)) ∧
    (s.cmp.ready .tileRead .normal = none →
      exec (.tileReadComplete t reply) s = .next (s.atTime t))) ∧
  (∀ (t a l : Nat) (bytes : List Byte) (s : State) (x : Transfer),
    s.cmp.ready .publishListRead .normal = some x → s.working = some (.publishTiles a l) →
    (parsePublish bytes (l / 16) = none → exec (.publishListReadComplete t (.data bytes)) s = .next { s.atTime t with
      cmp := (s.cmp.without .publishListRead .normal).answered .normal .refusedValue 0 (max s.now t) }) ∧
    (∀ first rest, parsePublish bytes (l / 16) = some (first :: rest) →
      ∃ u, exec (.publishListReadComplete t (.data bytes)) s = .next u ∧
        u.scu.group = (s.scu.group + 1) % 256 ∧ u.scu.pageMap = s.scu.pageMap ∧
        u.scu.tiles.map (·.id) = s.scu.tiles.map (·.id) ∧
        u.scu.pub = some
          { group := s.scu.group, count := rest.length + 1, tiles := first :: rest, reading := !u.pubWaits } ∧
        (s.mc.link.inRing = true → u.rp = (s.offer (wholeFrame .tileControl 0 (tileCtlPayload (.invalidate s.scu.group
          (rest.length + 1) ((first :: rest).map fun y => (y.page, y.index, y.version)))))).rp) ∧
        (u.pubWaits = false → u.cmp.dma.getLast? = some
          { purpose := .tileRead, unit := .normal, addr := first.addr, len := 2048, segs := [], issued := max s.now t
            strip := none }))) ∧
  (∀ (t : Nat) (bytes : List Byte) (s : State) (x : Transfer), s.cmp.ready .tileRead .normal = some x →
    (s.scu.pub = none ∨ ∃ p, s.scu.pub = some p ∧ p.tiles = []) → exec (.tileReadComplete t (.data bytes)) s =
      .next { s.atTime t with cmp := s.cmp.without .tileRead .normal }) ∧
  ∀ (t : Nat) (bytes : List Byte) (s : State) (x : Transfer) (p : Publication) (first : PubTile) (rest : List PubTile),
    s.cmp.ready .tileRead .normal = some x → s.scu.pub = some p → p.tiles = first :: rest →
    ∃ u, exec (.tileReadComplete t (.data bytes)) s = .next u ∧ u.now = max s.now t ∧ u.mc = s.mc ∧
      (rest ≠ [] ∨ u.pubWaits = true →
        u.scu.pub = some { p with tiles := rest, reading := !u.pubWaits }) ∧
      (rest = [] → u.pubWaits = false → u.scu.pub = none ∧
        ∀ f, s.cmp.normal.inFlight = some f → Answers .normal .done 0 s u) ∧
      (s.mc.link.inRing = true → s.laneOf 6 = .bulk → s.rp.waitList = [] → s.rp.bulk.length + 16 ≤ 32 →
        u.rp.bulk = s.rp.bulk ++ (List.range 16).map fun n =>
          { kind := .tileData, dest := 0, fragIndex := n, fragCount := 16, beatStart := 0
            payload := tileDataPayload first.page p.group first.index first.version p.count
              ((bytes.drop (128 * n)).take 128) })

/-- OPEN VIEW and CLOSE VIEW (R179, R180, R183), with their refusals in order. A view of a camera of another station is asked of
it, one of the own station is handed to the own viewer sets. That a closed slot keeps its other fields is the model's choice
(log 59), and the effective decimation its reading of R180 (log 51). -/
def Obligations.ViewCommands : Prop :=
  (∀ (s : State) (n st cam k pos w h : Nat), s.taken .normal = some (.openView n st cam k pos w h) → 2 ≤ n →
    exec .openView s = .next { s with cmp := s.cmp.answered .normal .refusedValue 0 s.now }) ∧
  (∀ (s : State) (i : Fin 2) (st cam k pos w h : Nat), s.taken .normal = some (.openView i.val st cam k pos w h) →
    (s.screen = false ∨ (s.scu.view i).state ≠ .closed →
      exec .openView s = .next { s with cmp := s.cmp.answered .normal .refusedState 0 s.now }) ∧
    (s.screen = true → (s.scu.view i).state = .closed →
      (st = 0 ∨ 31 < st ∨ 3 < cam ∨ k = 0 ∨ 64 < k ∨ w = 0 ∨ 8 < w ∨ h = 0 ∨ 6 < h ∨ 768 ≤ pos ∨ 32 < pos % 32 + w ∨
        24 < pos / 32 + h) →
      exec .openView s = .next { s with cmp := s.cmp.answered .normal .refusedValue 0 s.now }) ∧
    (s.screen = true → (s.scu.view i).state = .closed → 1 ≤ st → st ≤ 31 → cam ≤ 3 → 1 ≤ k → k ≤ 64 → 1 ≤ w → w ≤ 8 →
      1 ≤ h → h ≤ 6 → pos < 768 → pos % 32 + w ≤ 32 → pos / 32 + h ≤ 24 →
      ∃ u v, exec .openView s = .next u ∧ Answers .normal .done 0 s u ∧
        u = { s with scu := u.scu, rp := u.rp, cmp := u.cmp } ∧
        v = ({ state := .requested, station := st, cam := cam, k := k, position := pos, w := w, h := h
               image := List.replicate (32 * h) (List.replicate (32 * w) 0), row := none } : ViewSlot) ∧
        (∀ x y, x < w → y < h → pos + 32 * y + x < s.scu.pageMap.length →
          u.scu.pageMap.getD (pos + 32 * y + x) .blank = .inset i) ∧
        (∀ p, (∀ x y, x < w → y < h → p ≠ pos + 32 * y + x) →
          u.scu.pageMap.getD p .blank = s.scu.pageMap.getD p .blank) ∧
        u.scu.pageMap.length = s.scu.pageMap.length ∧
        (st ≠ s.ownStation → u.scu.view i = v ∧ u.scu.viewers = s.scu.viewers ∧
          (s.mc.link.inRing = true → u.rp = (s.offer (wholeFrame .tileControl st
            (tileCtlPayload (.viewRequest i.val cam k (32 * w))))).rp)) ∧
        (st = s.ownStation → u.rp = s.rp ∧
          (∀ j : Fin 4, j.val = cam → s.camCfg j = none → u.scu.view i = { v with state := .refused } ∧
            u.scu.viewers = s.scu.viewers ∧ Posts (.viewRefused i.val st cam 1) s u) ∧
          ∀ (j : Fin 4) (cfg : CamCfg), j.val = cam → s.camCfg j = some cfg →
            (∀ m, m ≠ j → ∀ x ∈ u.scu.viewers.get m, x.hasKey st i.val = false) ∧
            ((s.scu.viewers.get j).any (fun x => x.hasKey st i.val) = false → (s.scu.viewers.get j).length < 8 →
              u.scu.view i = v ∧ u.scu.viewers.get j = s.scu.viewers.get j ++
                [{ station := st, slot := i.val, decimation := effectiveDecimation cfg.width k, width := 32 * w
                   last := none }]) ∧
            ((s.scu.viewers.get j).any (fun x => x.hasKey st i.val) = true →
              u.scu.view i = v ∧ (u.scu.viewers.get j = (s.scu.viewers.get j).map fun x => if x.hasKey st i.val then
                { x with decimation := effectiveDecimation cfg.width k, width := 32 * w } else x)) ∧
            ((s.scu.viewers.get j).any (fun x => x.hasKey st i.val) = false → 8 ≤ (s.scu.viewers.get j).length →
              u.scu.view i = { v with state := .refused } ∧ u.scu.viewers.get j = s.scu.viewers.get j ∧
                Posts (.viewRefused i.val st cam 2) s u)))) ∧
  (∀ (s : State) (n : Nat), s.taken .normal = some (.closeView n) → 2 ≤ n →
    exec .closeView s = .next { s with cmp := s.cmp.answered .normal .refusedValue 0 s.now }) ∧
  ∀ (s : State) (i : Fin 2), s.taken .normal = some (.closeView i.val) →
    ((s.scu.view i).state = .closed →
      exec .closeView s = .next { s with cmp := s.cmp.answered .normal .refusedState 0 s.now }) ∧
    ((s.scu.view i).state ≠ .closed → ∃ u, exec .closeView s = .next u ∧ Answers .normal .done 0 s u ∧
      u = { s with scu := u.scu, rp := u.rp, cmp := u.cmp } ∧ u.scu.view i = { s.scu.view i with state := .closed } ∧
      u.scu.tiles = s.scu.tiles ∧
      (∀ pos ∈ (s.scu.view i).positions, s.scu.pageMap.getD pos .blank = .inset i →
        u.scu.pageMap.getD pos .blank = .blank) ∧
      (∀ pos, pos ∉ (s.scu.view i).positions ∨ s.scu.pageMap.getD pos .blank ≠ .inset i →
        u.scu.pageMap.getD pos .blank = s.scu.pageMap.getD pos .blank) ∧
      ((s.scu.view i).state.takes = false → u.rp = s.rp ∧ u.scu.viewers = s.scu.viewers) ∧
      ((s.scu.view i).station ≠ s.ownStation → u.scu.viewers = s.scu.viewers) ∧
      (∀ j : Fin 4, (s.scu.view i).state.takes = true → (s.scu.view i).station = s.ownStation → j.val = (s.scu.view i).cam →
        u.rp = s.rp ∧ u.scu.viewers =
          s.scu.viewers.set j ((s.scu.viewers.get j).filter fun v => !v.hasKey s.ownStation i.val)) ∧
      ((s.scu.view i).state.takes = true → (s.scu.view i).station ≠ s.ownStation → s.mc.link.inRing = true →
        u.rp = (s.offer (wholeFrame .tileControl (s.scu.view i).station
          (tileCtlPayload (.viewStop i.val (s.scu.view i).cam)))).rp))

/-! ## The Command Port -/

/-- The setup words and run flags of the queues (R186, R187, R200): a setup write is taken only while both command queues are
empty and stopped, and one of the event queue only while that is stopped too; only a valid setup starts; the start that makes
the port ready after a loss of the host link reports cause 21 false and posts the notice that waits. That a size word changing
the number of entries also carries the run flag is an inference of the model (log 33); that the changes are then no longer pending
its choice (log 68), and so is that the notice is posted beside one that may be outstanding already (log 79). -/
def Obligations.QueueSetup : Prop :=
  (∀ base size, (setupValid (.cmd .urgent) base size = true ↔ 8 ≤ size ∧ size ≤ 64 ∧ base % 64 = 0) ∧
    (setupValid (.cmd .normal) base size = true ↔ 8 ≤ size ∧ size ≤ 256 ∧ base % 64 = 0) ∧
    (setupValid .event base size = true ↔ 16 ≤ size ∧ size ≤ 1024 ∧ base % 32 = 0)) ∧
  (∀ (t : Nat) (s : State) (q : QueueId),
    (s.cmp.MaySetUp q → ∀ base k, q = .cmd k → exec (.queueBaseWrite t q base) s = .next { s.atTime t with
      cmp := s.cmp.setQ k { s.cmp.q k with base := base, head := 0, tail := 0, waitTail := false } }) ∧
    (s.cmp.MaySetUp q → ∀ base, q = .event → exec (.queueBaseWrite t q base) s = .next { s.atTime t with
      cmp := { s.cmp with event := { s.cmp.event with base := base, head := 0, tail := 0 } } }) ∧
    (¬s.cmp.MaySetUp q → ∀ base, exec (.queueBaseWrite t q base) s = .next (s.atTime t)) ∧
    (s.cmp.MaySetUp q → ∀ word, word % 65536 ≠ (s.cmp.setup q).2.1 → word.testBit 31 = false ∨
        setupValid q (s.cmp.setup q).1 (word % 65536) = false →
      exec (.queueSizeWrite t q word) s =
        .next { s.atTime t with cmp := s.cmp.setSetup q (s.cmp.setup q).1 (word % 65536) }) ∧
    (s.cmp.MaySetUp q → ∀ word, word % 65536 ≠ (s.cmp.setup q).2.1 → word.testBit 31 = true →
      setupValid q (s.cmp.setup q).1 (word % 65536) = true → s.tu.noticeHeld = false →
      exec (.queueSizeWrite t q word) s = .next { s.atTime t with
        cmp := (s.cmp.setSetup q (s.cmp.setup q).1 (word % 65536)).setRun q true }) ∧
    (¬s.cmp.MaySetUp q → ∀ word, word % 65536 ≠ (s.cmp.setup q).2.1 → exec (.queueSizeWrite t q word) s = .next (s.atTime t))) ∧
  (∀ (t word : Nat) (q : QueueId) (s : State), word % 65536 = (s.cmp.setup q).2.1 →
    exec (.queueSizeWrite t q word) s =
      if word.testBit 31 = true then exec (.queueRunSet t q) s else exec (.queueRunClear t q) s) ∧
  (∀ (t : Nat) (q : QueueId) (s : State),
    exec (.queueRunClear t q) s = .next { s.atTime t with cmp := s.cmp.setRun q false }) ∧
  (∀ (t : Nat) (q : QueueId) (s : State),
    s.running q = true ∨ setupValid q (s.cmp.setup q).1 (s.cmp.setup q).2.1 = false →
    exec (.queueRunSet t q) s = .next (s.atTime t)) ∧
  (∀ (t : Nat) (q : QueueId) (s : State),
    s.running q = false → setupValid q (s.cmp.setup q).1 (s.cmp.setup q).2.1 = true →
    s.tu.noticeHeld = false ∨ (∃ p, p ≠ q ∧ s.running p = false) →
    exec (.queueRunSet t q) s = .next { s.atTime t with cmp := s.cmp.setRun q true }) ∧
  (∀ (t : Nat) (q : QueueId) (s v : State),
    s.running q = false → setupValid q (s.cmp.setup q).1 (s.cmp.setup q).2.1 = true → s.tu.noticeHeld = true →
    (∀ p, p ≠ q → s.running p = true) → v = { s.atTime t with cmp := s.cmp.setRun q true } →
    ∃ u, exec (.queueRunSet t q) s = .next u ∧ u.portReady = true ∧ u.tu.noticeHeld = false ∧ u.causeTrue 21 0 = false ∧
      (s.tu.changesPending = true → u.tu.noticeOut = true ∧ u.tu.changesPending = false ∧
        Posts (.tripNotice u.tu.table.length (u.tu.table.filter fun e => e.state == .active).length u.gateOpen u.tu.lost
          u.tu.more) v u)) ∧
  (∀ (t offset value : Nat) (s : State), exec (.windowWriteIgnored t offset value) s = .next (s.atTime t)) ∧
  ∀ (s : State) (offset : Nat), (offset ∉ [0x00, 0x08, 0x10, 0x18, 0x20, 0x28, 0x30, 0x38, 0x3C, 0x40, 0x44, 0x48] →
      s.windowRead offset = 0) ∧
    (s.cmp.urgent.size < 65536 → (s.windowRead 0x10).testBit 31 = s.cmp.urgent.run) ∧
    (s.cmp.normal.size < 65536 → (s.windowRead 0x20).testBit 31 = s.cmp.normal.run) ∧
    (s.cmp.event.size < 65536 → (s.windowRead 0x30).testBit 31 = s.cmp.event.run) ∧
    s.windowRead 0x38 = s.cmp.urgent.tail ∧ s.windowRead 0x3C = s.cmp.normal.tail ∧
    s.windowRead 0x40 = s.cmp.event.head ∧ s.windowRead 0x44 = s.cmp.event.tail

/-- Descriptors (R187 to R189, R192): a tail written, the descriptor at the head read, the command it holds taken or turned
away, and the write-back that ends it; a WARM RESET takes effect when its write-back has completed. That a read arriving at a
stopped queue is dropped is an inference of the model (log 32). -/
def Obligations.Descriptors : Prop :=
  (∀ (t value : Nat) (k : CmdQueue) (s : State),
    ((s.cmp.q k).run = true → value < (s.cmp.q k).size → exec (.commandTailWrite t k value) s = .next { s.atTime t with
      cmp := s.cmp.setQ k { s.cmp.q k with tail := value, waitTail := false } }) ∧
    ((s.cmp.q k).run = false ∨ (s.cmp.q k).size ≤ value →
      exec (.commandTailWrite t k value) s = .next (s.atTime t))) ∧
  (∀ (t : Nat) (k : CmdQueue) (s : State),
    ((s.cmp.q k).run = true → (s.cmp.q k).head ≠ (s.cmp.q k).tail → (s.cmp.q k).inFlight = none →
      (s.cmp.q k).fetching = false → (s.cmp.q k).waitTail = false →
      exec (.descriptorFetch t k) s = .next { s.atTime t with
        cmp := Cmp.setQ
          { s.cmp with dma := s.cmp.dma ++
            [{ purpose := .descriptorRead, unit := queueUnit k, addr := (s.cmp.q k).base + 64 * (s.cmp.q k).head
               len := 64, segs := [], issued := max s.now t, strip := none }] }
          k { s.cmp.q k with fetching := true } }) ∧
    ((s.cmp.q k).run = false ∨ (s.cmp.q k).head = (s.cmp.q k).tail ∨ (s.cmp.q k).inFlight ≠ none ∨
        (s.cmp.q k).fetching = true ∨ (s.cmp.q k).waitTail = true →
      exec (.descriptorFetch t k) s = .next (s.atTime t))) ∧
  (∀ (t : Nat) (k : CmdQueue) (reply : DmaReply) (s : State),
    s.cmp.ready .descriptorRead (queueUnit k) = none →
    exec (.descriptorReadComplete t k reply) s = .next (s.atTime t)) ∧
  (∀ (t : Nat) (k : CmdQueue) (d : List Byte) (s : State) (x : Transfer) (c : Cmp) (y : CmdQ),
    s.cmp.ready .descriptorRead (queueUnit k) = some x →
    c = s.cmp.without .descriptorRead (queueUnit k) → y = s.cmp.q k →
    (y.run = false → exec (.descriptorReadComplete t k (.data d)) s =
      .next { s.atTime t with cmp := c.setQ k { y with fetching := false } }) ∧
    (y.run = true → ownerPart d = false → exec (.descriptorReadComplete t k (.data d)) s =
      .next { s.atTime t with cmp := c.setQ k { y with fetching := false, waitTail := true } }) ∧
    (y.run = true → ownerPart d = true → ∀ taken, taken = c.setQ k
        { y with
          fetching := false, head := (y.head + 1) % y.size
          inFlight := some { index := y.head, cmd := decodeCommand d, phase := .taken } } →
      ((decodeCommand d).queue = some k →
        exec (.descriptorReadComplete t k (.data d)) s = .next { s.atTime t with cmp := taken }) ∧
      ((decodeCommand d).queue = none → exec (.descriptorReadComplete t k (.data d)) s =
        .next { s.atTime t with cmp := taken.answered k .unknown 0 (max s.now t) }) ∧
      ∀ j, (decodeCommand d).queue = some j → j ≠ k → exec (.descriptorReadComplete t k (.data d)) s =
        .next { s.atTime t with cmp := taken.answered k .refusedQueue 0 (max s.now t) })) ∧
  (∀ (t : Nat) (k : CmdQueue) (ok : Bool) (s : State),
    s.cmp.ready .resultWriteback (queueUnit k) = none →
    exec (.writebackComplete t k ok) s = .next (s.atTime t)) ∧
  (∀ (t : Nat) (k : CmdQueue) (s : State) (x : Transfer),
    s.cmp.ready .resultWriteback (queueUnit k) = some x →
    (k = .urgent ∨ ∀ f, (s.cmp.q k).inFlight = some f → f.cmd ≠ .warmReset) →
    exec (.writebackComplete t k true) s = .next { s.atTime t with
      cmp := (s.cmp.without .resultWriteback (queueUnit k)).setQ k { s.cmp.q k with inFlight := none } }) ∧
  ∀ (t : Nat) (s : State) (x : Transfer) (f : InFlight),
    s.cmp.ready .resultWriteback .normal = some x → s.cmp.normal.inFlight = some f →
    f.cmd = .warmReset →
    exec (.writebackComplete t .normal true) s = exec (.warmInput t) { s with
      cmp := (s.cmp.without .resultWriteback .normal).setQ .normal { s.cmp.normal with inFlight := none } }

/-- The event queue (R187, R195, R196): a head write moves the head forward over unread records only; a record written steps
the tail, takes the lost count it carried off the pending one, sends an interrupt when the queue held no unread record, and the
next record is written with the pending lost count, the beat and the angle of that moment. That the pending count falls when the
record's write completes is an inference of the model (log 55). -/
def Obligations.EventQueue : Prop :=
  (∀ (t value : Nat) (s : State) (y : EvQ), y = s.cmp.event →
    (y.run = true → value < y.size → (value + (y.size - y.head % y.size)) % y.size ≤ y.unread →
      exec (.eventHeadWrite t value) s = .next { s.atTime t with cmp := { s.cmp with event := { y with head := value } } }) ∧
    (y.run = false ∨ y.size ≤ value ∨ y.unread < (value + (y.size - y.head % y.size)) % y.size →
      exec (.eventHeadWrite t value) s = .next (s.atTime t))) ∧
  (∀ (t : Nat) (ok : Bool) (s : State), s.cmp.ready .eventWrite .event = none →
    exec (.eventWriteComplete t ok) s = .next (s.atTime t)) ∧
  ∀ (t : Nat) (s : State) (x : Transfer) (e : Event) (rest : List Event) (v : Cmp) (tail : Nat),
    s.cmp.ready .eventWrite .event = some x → s.cmp.event.awaiting = e :: rest →
    tail = (s.cmp.event.tail + 1) % s.cmp.event.size →
    v = { s.cmp.without .eventWrite .event with
      lostPending := s.cmp.lostPending - rd (x.segs.flatMap (·.2)) 2 2
      event := { s.cmp.event with tail := tail, awaiting := rest, writing := false }
      interrupts := if s.cmp.event.unread = 0 then s.cmp.interrupts + 1 else s.cmp.interrupts } →
    (rest = [] → exec (.eventWriteComplete t true) s = .next { s.atTime t with cmp := v }) ∧
    ∀ n more, rest = n :: more → exec (.eventWriteComplete t true) s = .next { s.atTime t with
      cmp := { v with
        event := { v.event with writing := true }
        dma := v.dma ++
          [{ purpose := .eventWrite, unit := .event, addr := s.cmp.event.base + 32 * tail
             len := (eventRecord n v.lostPending s.su.beat s.su.line.angle).length
             segs := [(s.cmp.event.base + 32 * tail, eventRecord n v.lostPending s.su.beat s.su.line.angle)]
             issued := max s.now t, strip := none }] } }

/-- CONFIGURE with its read, and WARM RESET up to its write-back (R74, R115, R133, R152, R184, R190 to R192): a block that passes
every check takes effect in every block at one moment. It passes when the configuration it holds is accepted (R27, R70, R74,
R97, R117), its flags of one byte are 0 or 1, and each byte of the cause map names a category (R135). With strip writes in flight
that moment is the end of the last one, and nothing but those writes changes before it: that DONE waits for them, and what the
transfers let go of do meanwhile, is the model's reading (log 25). That a loop entering OFF keeps no result is an inference too
(log 52). -/
def Obligations.Configuration : Prop :=
  (∀ (bytes : List Byte) (c : Cfg), checkConfig bytes = .inl c ↔
    c = configFields bytes ∧ c.Accepted ∧ rd bytes 448 1 ≤ 1 ∧
      (∀ n, n < 4 → rd bytes (64 + 32 * n) 1 ≤ 1 ∧ rd bytes (192 + 64 * n) 1 ≤ 1) ∧
      ∀ k, 1 ≤ k → k ≤ 21 → rd bytes (28 + k) 1 < 16 ∧ rd bytes (28 + k) 1 % 8 ≤ 4) ∧
  (∀ s : State, s.taken .normal = some .warmReset →
    exec .warmReset s = .next { s with cmp := s.cmp.answered .normal .done 0 s.now }) ∧
  (∀ (s : State) (a l : Nat), s.taken .normal = some (.configure a l) →
    (s.mc.link.isOut = false → exec .configure s = .next { s with cmp := s.cmp.answered .normal .refusedState 0 s.now }) ∧
    (s.mc.link.isOut = true → l < 512 →
      exec .configure s = .next { s with cmp := s.cmp.answered .normal .refusedValue 0 s.now }) ∧
    (s.mc.link.isOut = true → 512 ≤ l →
      exec .configure s = .next { s with cmp := s.cmp.reading .configRead a 512 s.now })) ∧
  (∀ (t : Nat) (reply : DmaReply) (s : State), s.cmp.ready .configRead .normal = none →
    exec (.configReadComplete t reply) s = .next (s.atTime t)) ∧
  (∀ (t : Nat) (bytes : List Byte) (s : State) (x : Transfer) (f : InFlight),
    s.cmp.ready .configRead .normal = some x → s.cmp.normal.inFlight = some f →
    (∀ d, checkConfig bytes = .inr d → exec (.configReadComplete t (.data bytes)) s = .next { s.atTime t with
      cmp := (s.cmp.without .configRead .normal).answered .normal .refusedValue d (max s.now t) }) ∧
    ∀ c, checkConfig bytes = .inl c →
      (s.cmp.dma.any (fun y => y.purpose == .stripWrite) = false →
        ∃ u, exec (.configReadComplete t (.data bytes)) s = .next u ∧ Answers .normal .done 0 s u ∧ u.now = max s.now t ∧
          s.Configured c u ∧ u.cmp.dmaErr = s.cmp.dmaErr) ∧
      (s.cmp.dma.any (fun y => y.purpose == .stripWrite) = true →
        exec (.configReadComplete t (.data bytes)) s = .next { s.atTime t with
          cu := { s.cu with draining := some c }
          cmp := { s.cmp with dma := (s.cmp.dma.eraseP (Transfer.isOf .configRead .normal)).map fun y =>
            if y.purpose = .stripWrite then { y with strip := y.strip.map fun w => { w with serves := false } }
            else if y.purpose = .mapEntryRead then { y with strip := none } else y } })) ∧
  ∀ (t : Nat) (i : Fin 4) (s : State) (x : Transfer) (c : Cfg) (h : Half) (a : Nat) (f : InFlight),
    s.cu.draining = some c → x.purpose = .stripWrite → x.unit = .camera i → x.strip = some ⟨h, a, false⟩ →
    s.cmp.dma.countP (fun y => y.purpose == .stripWrite) = 1 → s.cmp.normal.inFlight = some f →
    (s.cmp.ready .stripWrite (.camera i) = some x →
      ∃ u, exec (.stripWriteComplete t i true) s = .next u ∧ Answers .normal .done 0 s u ∧ u.now = max s.now t ∧
        s.Configured c u ∧ u.cmp.dmaErr = s.cmp.dmaErr) ∧
    ∀ j kind, FailsTransfer t j kind x s →
      ∃ u, exec j s = .next u ∧ Answers .normal .done 0 s u ∧ u.now = max s.now t ∧ s.Configured c u ∧
        EntersDmaError x kind s u

/-- READ ROSTER, READ TRIP TABLE, READ LINE STATE and READ COUNTERS with the writes of their images (R158, R193, R194): each
forms its image when it is taken, refuses a buffer it does not fit, and completes when it is written; the counters lose what
their image recorded, and an open notice is closed by the trip table. -/
def Obligations.ReadCommands : Prop :=
  (∀ s : State, s.rosterImage.length = 512 ∧ s.tripImage.length = 1280 ∧ s.lineImage.length = 200 ∧
    s.counterImage.length = 128) ∧
  (∀ (s : State) (i n : Nat), s.counters[i]? = some n → n < 4294967296 → rd s.counterImage (4 * i) 4 = n) ∧
  (∀ s : State, rd s.counterImage 96 1 = if s.cmp.dmaErr.isSome = true then 1 else 0) ∧
  (∀ (s : State) (j : Instr) (cmd : HostCmd) (a l : Nat) (image : List Byte),
    (j = .readRoster ∧ cmd = .readRoster a l ∧ image = s.rosterImage) ∨
      (j = .readTripTable ∧ cmd = .readTripTable a l ∧ image = s.tripImage) ∨
      (j = .readLineState ∧ cmd = .readLineState a l ∧ image = s.lineImage) ∨
      (j = .readCounters ∧ cmd = .readCounters a l ∧ image = s.counterImage) → s.taken .normal = some cmd →
    (l < image.length → exec j s = .next { s with cmp := s.cmp.answered .normal .refusedValue 0 s.now }) ∧
    (image.length ≤ l → exec j s = .next { s with cmp := s.cmp.writing a image s.now })) ∧
  (∀ (t : Nat) (ok : Bool) (s : State), s.cmp.ready .imageWrite .normal = none →
    exec (.imageWriteComplete t ok) s = .next (s.atTime t)) ∧
  (∀ (t : Nat) (s : State) (x : Transfer) (cmd : HostCmd) (a l : Nat),
    s.cmp.ready .imageWrite .normal = some x → s.working = some cmd →
    cmd = .readRoster a l ∨ cmd = .readLineState a l →
    exec (.imageWriteComplete t true) s = .next { s.atTime t with
      cmp := (s.cmp.without .imageWrite .normal).answered .normal .done 0 (max s.now t) }) ∧
  (∀ (t : Nat) (s : State) (x : Transfer) (a l : Nat) (v : State),
    s.cmp.ready .imageWrite .normal = some x → s.working = some (.readTripTable a l) →
    v = { s.atTime t with cmp := (s.cmp.without .imageWrite .normal).answered .normal .done 0 (max s.now t) } →
    (s.tu.noticeOut = false → exec (.imageWriteComplete t true) s = .next v) ∧
    (s.tu.noticeOut = true → s.tu.changesPending = false →
      exec (.imageWriteComplete t true) s = .next { v with tu := { s.tu with noticeOut := false } }) ∧
    (s.tu.noticeOut = true → s.tu.changesPending = true → ∃ u, exec (.imageWriteComplete t true) s = .next u ∧
      u = { v with tu := { s.tu with changesPending := false }, cmp := u.cmp } ∧ v.cmp.Posted u.cmp ∧
      Posts (.tripNotice s.tu.table.length (s.tu.table.filter fun e => e.state == .active).length s.gateOpen s.tu.lost
        s.tu.more) s u)) ∧
  ∀ (t : Nat) (s : State) (x : Transfer) (a l : Nat) (image : List Byte),
    s.cmp.ready .imageWrite .normal = some x → s.working = some (.readCounters a l) →
    x.segs = [(a, image)] →
    ∃ u, exec (.imageWriteComplete t true) s = .next u ∧ Answers .normal .done 0 s u ∧ u.mc = s.mc ∧ u.tu = s.tu ∧
      u.su.line = s.su.line ∧ u.counters.length = 24 ∧
      (∀ i n, s.counters[i]? = some n → u.counters[i]? =
        some (if rd image (4 * i) 4 = 4294967295 then 0 else n - rd image (4 * i) 4)) ∧
      (rd image 96 1 = 1 → u.cmp.dmaErr = none ∧ u.cmp.dmaMore = false) ∧
      (rd image 96 1 ≠ 1 → u.cmp.dmaErr = s.cmp.dmaErr ∧ u.cmp.dmaMore = s.cmp.dmaMore)

/-- Transfers that fail (R188, R189, R193, R195, R197, R198; 10.3): by the timeout of the oldest one in flight or by an error
completion. Writes complete in the order issued and no read passes one: a transfer can come back when no write issued before it,
and none before it of its own purpose and unit, is in flight. The failure is entered, and its owner handles it: a command fails, a command queue stops at its descriptor, an event
is lost, and a write-back ends its command all the same. -/
def Obligations.TransferFailures : Prop :=
  (∀ (c : Cmp) (p : Purpose) (k : DmaUnit) (x : Transfer), c.ready p k = some x ↔
    x.purpose = p ∧ x.unit = k ∧ ∃ before after, c.dma = before ++ x :: after ∧
      ∀ y ∈ before, (y.purpose ≠ p ∨ y.unit ≠ k) ∧
        y.purpose ∉ [.resultWriteback, .imageWrite, .stripWrite, .eventWrite]) ∧
  (∀ (t : Nat) (s : State), (∀ x ∈ s.cmp.dma, max s.now t < x.issued + 1000000) →
    exec (.dmaTimeout t) s = .next (s.atTime t)) ∧
  (∀ (t : Nat) (j : Instr) (kind : DmaKind) (s : State) (x : Transfer) (f : InFlight), FailsTransfer t j kind x s →
    s.cmp.normal.inFlight = some f → x.unit = .normal →
    (x.purpose ∈ [.configRead, .markTableRead, .pageMapRead, .publishListRead, .imageWrite, .tileRead] →
      ∃ u, exec j s = .next u ∧ EntersDmaError x kind s u ∧ Answers .normal .failed kind.code s u ∧
        u = { s.atTime t with
          cmp := u.cmp, scu := { s.scu with pub := if x.purpose = .tileRead then none else s.scu.pub } })) ∧
  (∀ (t : Nat) (j : Instr) (kind : DmaKind) (s : State) (x : Transfer) (k : CmdQueue), FailsTransfer t j kind x s →
    x.purpose = .descriptorRead → x.unit = queueUnit k →
    ∃ u, exec j s = .next u ∧ EntersDmaError x kind s u ∧ u = { s.atTime t with cmp := u.cmp } ∧
      u.cmp.q k = { s.cmp.q k with run := false, fetching := false } ∧ ∀ p, p ≠ k → u.cmp.q p = s.cmp.q p) ∧
  (∀ (t : Nat) (j : Instr) (kind : DmaKind) (s : State) (x : Transfer) (k : CmdQueue), FailsTransfer t j kind x s →
    x.purpose = .resultWriteback → x.unit = queueUnit k →
    (k = .urgent ∨ ∀ f, (s.cmp.q k).inFlight = some f → f.cmd ≠ .warmReset) →
    ∃ u, exec j s = .next u ∧ EntersDmaError x kind s u ∧ u = { s.atTime t with cmp := u.cmp } ∧
      u.cmp.q k = { s.cmp.q k with inFlight := none } ∧ ∀ p, p ≠ k → u.cmp.q p = s.cmp.q p) ∧
  ∀ (t : Nat) (j : Instr) (kind : DmaKind) (s : State) (x : Transfer) (e : Event) (rest : List Event),
    FailsTransfer t j kind x s → x.purpose = .eventWrite → x.unit = .event → s.cmp.event.awaiting = e :: rest →
    ∃ u, exec j s = .next u ∧ EntersDmaError x kind s u ∧ u = { s.atTime t with cmp := u.cmp } ∧
      u.cmp.event.tail = s.cmp.event.tail ∧
      (s.cmp.dmaErr.isSome = true →
        u.cmp.event.awaiting = rest ∧ u.cmp.eventsLost = bump s.cmp.eventsLost ∧
        u.cmp.lostPending = min (s.cmp.lostPending + 1) 65535)

/-! ## Over every step -/

/-- The first-trip record, once filled, is changed by no step but ACKNOWLEDGE TRIPS and a cold reset (R153, R160). -/
def Obligations.FirstTripFrozen : Prop :=
  ∀ (s u : State) (f : FirstTrip), s.tu.first = some f → s.pending.head? ≠ some .acknowledgeTrips →
    (∀ t, s.pending.head? ≠ some (.coldReset t)) → step s = .next u → u.tu.first = some f

/-- Every step keeps the lanes and the return watch within their bounds (R7 to R9, R20, R22). -/
def Obligations.LanesStayBounded : Prop :=
  ∀ s u : State, s.LanesBounded → step s = .next u → u.LanesBounded

/-- Every step keeps the pending change list and the trip table within their bounds, without an identity or key twice, and the
Axis Unit's local stop level at what the trip table calls for (R48, R88, R138, R147). -/
def Obligations.TablesStayBounded : Prop :=
  ∀ s u : State, s.listBounded → s.tripsBounded → step s = .next u → u.listBounded ∧ u.tripsBounded

/-- Every step keeps the line speed and every target within the maximum line speed (R46, R49, R63, R70). -/
def Obligations.SpeedStaysSafe : Prop :=
  ∀ s u : State, s.speedSafe → step s = .next u → u.speedSafe

/-- After every step an axis is energised only while the e-stop input is released and no TorqueOff entry applies (R77, R89,
R90, R147). -/
def Obligations.TorqueStaysSafe : Prop :=
  ∀ s u : State, s.torqueSafe → step s = .next u → u.torqueSafe

/-- Every step keeps a COUPLED axis at the values that the direct formula gives for the line angle (R74, R76, R80, R82). -/
def Obligations.GearsStayExact : Prop :=
  ∀ s u : State, s.geared → step s = .next u → u.geared

/-- Every step keeps the stores of the Camera and Screen Units within their bounds (R110, R113, R164, R169, R178). -/
def Obligations.StoresStayBounded : Prop :=
  ∀ s u : State, s.StoresBounded → step s = .next u → u.StoresBounded

/-! ## Frames on the fibre -/

/-- A frame as the part launches it passes the tail check of every station that hears it, and still does after a station has
rewritten its hop count and transit (R6, R13, R202). -/
def Obligations.FrameChecks : Prop :=
  (∀ (f : LaneFrame) (origin sequence transit delay : Nat) (header : List Byte),
    f.payload.length ≤ 256 → f.fragIndex < f.fragCount → f.fragCount < 256 →
    header = launchHeader f origin sequence transit delay →
    header.length = 20 ∧ tailGood header (f.payload ++ le 4 (frameCrc header f.payload)) .endDelim = true) ∧
  ∀ (header body : List Byte) (hop transit : Nat), header.length = 20 → tailGood header body .endDelim = true →
    (rewriteHeader header hop transit).length = 20 ∧ tailGood (rewriteHeader header hop transit) body .endDelim = true ∧
      (parseHeader (rewriteHeader header hop transit)).hop = hop % 256 ∧
      (parseHeader (rewriteHeader header hop transit)).transit = transit % 65536

/-- Every message is read from its bytes as it was written into them, with every field at every value its place takes (10.1). -/
def Obligations.WireCodec : Prop :=
  (∀ h : Header, h.Sendable → parseHeader (headerBytes h) = h) ∧
  (∀ e : Entry, e.Sendable → parseEntry (entryBytes e) = some e) ∧
  (∀ (action : TripAction) (k : TripKey) (category : Category) (beat founder : Nat), k.cause ≤ 21 → k.detail < 256 →
    category ≠ .masked → beat < two32 → founder < 256 →
    parseTrip (tripPayload action k category .ring beat founder) =
      some (action, k.cause, k.detail, category, beat, founder)) ∧
  (∀ m : ShaftMsg, m.Sendable → parseShaft (shaftPayload m) = some m) ∧
  (∀ (founder : Nat) (e : Entry), founder < 256 → e.Sendable →
    parseSpeed (speedPayload founder e) = some (founder, e)) ∧
  (∀ m : HelloMsg, m.founder < 256 → m.stamp < two32 → parseHello (helloPayload m) = some m) ∧
  (∀ (axis : Nat) (e : Int), axis < 256 → -2147483648 ≤ e → e < 2147483648 →
    parseCorrection (correctionPayload axis e) = some (axis, e)) ∧
  (∀ m : TileCtl, m.Sendable → parseTileCtl (tileCtlPayload m) = some m) ∧
  (∀ (publisher page group index version count n : Nat) (pixels : List Byte), page < 256 → group < 256 →
    index < 65536 → version < 65536 → count < 256 → n < 16 → pixels.length = 128 →
    parseTileData publisher n (tileDataPayload page group index version count pixels) =
      some
        { id := { publisher := publisher, page := page, index := index }, version := version, group := group
          count := count, index := n, pixels := pixels }) ∧
  ∀ (station slot cam n : Nat) (tag : LineTag) (pixels : List Byte), slot < 256 → cam < 256 → tag.rev < 65536 →
    tag.angle < two32 → 1 ≤ pixels.length → pixels.length ≤ 128 →
    parseViewLine station n (viewLinePayload slot cam tag pixels) =
      some
        { station := station, slot := slot, cam := cam, tag := { tag with index := 0 }, column := 128 * n
          pixels := pixels }
end

