-- ==== Sys2Proof/Laws/State.lean ====
section
/-! SUPPORT. What each named update of State leaves in each of its fields; every lemma holds by rfl. -/

namespace Sys2Proof.Machine

variable (s : State)

/-! ## onPins -/

@[simp] theorem State.onPins_pending (f : Pins → Pins) : (s.onPins f).pending = s.pending := rfl
@[simp] theorem State.onPins_now (f : Pins → Pins) : (s.onPins f).now = s.now := rfl
@[simp] theorem State.onPins_inMc (f : Pins → Pins) : (s.onPins f).inMc = s.inMc := rfl
@[simp] theorem State.onPins_inSu (f : Pins → Pins) : (s.onPins f).inSu = s.inSu := rfl
@[simp] theorem State.onPins_inTu (f : Pins → Pins) : (s.onPins f).inTu = s.inTu := rfl
@[simp] theorem State.onPins_inAu (f : Pins → Pins) : (s.onPins f).inAu = s.inAu := rfl
@[simp] theorem State.onPins_inScu (f : Pins → Pins) : (s.onPins f).inScu = s.inScu := rfl
@[simp] theorem State.onPins_pins (f : Pins → Pins) : (s.onPins f).pins = f s.pins := rfl
@[simp] theorem State.onPins_cfg (f : Pins → Pins) : (s.onPins f).cfg = s.cfg := rfl
@[simp] theorem State.onPins_rp (f : Pins → Pins) : (s.onPins f).rp = s.rp := rfl
@[simp] theorem State.onPins_mc (f : Pins → Pins) : (s.onPins f).mc = s.mc := rfl
@[simp] theorem State.onPins_su (f : Pins → Pins) : (s.onPins f).su = s.su := rfl
@[simp] theorem State.onPins_au (f : Pins → Pins) : (s.onPins f).au = s.au := rfl
@[simp] theorem State.onPins_cu (f : Pins → Pins) : (s.onPins f).cu = s.cu := rfl
@[simp] theorem State.onPins_mu (f : Pins → Pins) : (s.onPins f).mu = s.mu := rfl
@[simp] theorem State.onPins_tu (f : Pins → Pins) : (s.onPins f).tu = s.tu := rfl
@[simp] theorem State.onPins_scu (f : Pins → Pins) : (s.onPins f).scu = s.scu := rfl
@[simp] theorem State.onPins_cmp (f : Pins → Pins) : (s.onPins f).cmp = s.cmp := rfl

/-! ## onRp -/

@[simp] theorem State.onRp_pending (f : Rp → Rp) : (s.onRp f).pending = s.pending := rfl
@[simp] theorem State.onRp_now (f : Rp → Rp) : (s.onRp f).now = s.now := rfl
@[simp] theorem State.onRp_inMc (f : Rp → Rp) : (s.onRp f).inMc = s.inMc := rfl
@[simp] theorem State.onRp_inSu (f : Rp → Rp) : (s.onRp f).inSu = s.inSu := rfl
@[simp] theorem State.onRp_inTu (f : Rp → Rp) : (s.onRp f).inTu = s.inTu := rfl
@[simp] theorem State.onRp_inAu (f : Rp → Rp) : (s.onRp f).inAu = s.inAu := rfl
@[simp] theorem State.onRp_inScu (f : Rp → Rp) : (s.onRp f).inScu = s.inScu := rfl
@[simp] theorem State.onRp_pins (f : Rp → Rp) : (s.onRp f).pins = s.pins := rfl
@[simp] theorem State.onRp_cfg (f : Rp → Rp) : (s.onRp f).cfg = s.cfg := rfl
@[simp] theorem State.onRp_rp (f : Rp → Rp) : (s.onRp f).rp = f s.rp := rfl
@[simp] theorem State.onRp_mc (f : Rp → Rp) : (s.onRp f).mc = s.mc := rfl
@[simp] theorem State.onRp_su (f : Rp → Rp) : (s.onRp f).su = s.su := rfl
@[simp] theorem State.onRp_au (f : Rp → Rp) : (s.onRp f).au = s.au := rfl
@[simp] theorem State.onRp_cu (f : Rp → Rp) : (s.onRp f).cu = s.cu := rfl
@[simp] theorem State.onRp_mu (f : Rp → Rp) : (s.onRp f).mu = s.mu := rfl
@[simp] theorem State.onRp_tu (f : Rp → Rp) : (s.onRp f).tu = s.tu := rfl
@[simp] theorem State.onRp_scu (f : Rp → Rp) : (s.onRp f).scu = s.scu := rfl
@[simp] theorem State.onRp_cmp (f : Rp → Rp) : (s.onRp f).cmp = s.cmp := rfl

/-! ## onMc -/

@[simp] theorem State.onMc_pending (f : Mc → Mc) : (s.onMc f).pending = s.pending := rfl
@[simp] theorem State.onMc_now (f : Mc → Mc) : (s.onMc f).now = s.now := rfl
@[simp] theorem State.onMc_inMc (f : Mc → Mc) : (s.onMc f).inMc = s.inMc := rfl
@[simp] theorem State.onMc_inSu (f : Mc → Mc) : (s.onMc f).inSu = s.inSu := rfl
@[simp] theorem State.onMc_inTu (f : Mc → Mc) : (s.onMc f).inTu = s.inTu := rfl
@[simp] theorem State.onMc_inAu (f : Mc → Mc) : (s.onMc f).inAu = s.inAu := rfl
@[simp] theorem State.onMc_inScu (f : Mc → Mc) : (s.onMc f).inScu = s.inScu := rfl
@[simp] theorem State.onMc_pins (f : Mc → Mc) : (s.onMc f).pins = s.pins := rfl
@[simp] theorem State.onMc_cfg (f : Mc → Mc) : (s.onMc f).cfg = s.cfg := rfl
@[simp] theorem State.onMc_rp (f : Mc → Mc) : (s.onMc f).rp = s.rp := rfl
@[simp] theorem State.onMc_mc (f : Mc → Mc) : (s.onMc f).mc = f s.mc := rfl
@[simp] theorem State.onMc_su (f : Mc → Mc) : (s.onMc f).su = s.su := rfl
@[simp] theorem State.onMc_au (f : Mc → Mc) : (s.onMc f).au = s.au := rfl
@[simp] theorem State.onMc_cu (f : Mc → Mc) : (s.onMc f).cu = s.cu := rfl
@[simp] theorem State.onMc_mu (f : Mc → Mc) : (s.onMc f).mu = s.mu := rfl
@[simp] theorem State.onMc_tu (f : Mc → Mc) : (s.onMc f).tu = s.tu := rfl
@[simp] theorem State.onMc_scu (f : Mc → Mc) : (s.onMc f).scu = s.scu := rfl
@[simp] theorem State.onMc_cmp (f : Mc → Mc) : (s.onMc f).cmp = s.cmp := rfl

/-! ## onSu -/

@[simp] theorem State.onSu_pending (f : Su → Su) : (s.onSu f).pending = s.pending := rfl
@[simp] theorem State.onSu_now (f : Su → Su) : (s.onSu f).now = s.now := rfl
@[simp] theorem State.onSu_inMc (f : Su → Su) : (s.onSu f).inMc = s.inMc := rfl
@[simp] theorem State.onSu_inSu (f : Su → Su) : (s.onSu f).inSu = s.inSu := rfl
@[simp] theorem State.onSu_inTu (f : Su → Su) : (s.onSu f).inTu = s.inTu := rfl
@[simp] theorem State.onSu_inAu (f : Su → Su) : (s.onSu f).inAu = s.inAu := rfl
@[simp] theorem State.onSu_inScu (f : Su → Su) : (s.onSu f).inScu = s.inScu := rfl
@[simp] theorem State.onSu_pins (f : Su → Su) : (s.onSu f).pins = s.pins := rfl
@[simp] theorem State.onSu_cfg (f : Su → Su) : (s.onSu f).cfg = s.cfg := rfl
@[simp] theorem State.onSu_rp (f : Su → Su) : (s.onSu f).rp = s.rp := rfl
@[simp] theorem State.onSu_mc (f : Su → Su) : (s.onSu f).mc = s.mc := rfl
@[simp] theorem State.onSu_su (f : Su → Su) : (s.onSu f).su = f s.su := rfl
@[simp] theorem State.onSu_au (f : Su → Su) : (s.onSu f).au = s.au := rfl
@[simp] theorem State.onSu_cu (f : Su → Su) : (s.onSu f).cu = s.cu := rfl
@[simp] theorem State.onSu_mu (f : Su → Su) : (s.onSu f).mu = s.mu := rfl
@[simp] theorem State.onSu_tu (f : Su → Su) : (s.onSu f).tu = s.tu := rfl
@[simp] theorem State.onSu_scu (f : Su → Su) : (s.onSu f).scu = s.scu := rfl
@[simp] theorem State.onSu_cmp (f : Su → Su) : (s.onSu f).cmp = s.cmp := rfl

/-! ## onAu -/

@[simp] theorem State.onAu_pending (f : Au → Au) : (s.onAu f).pending = s.pending := rfl
@[simp] theorem State.onAu_now (f : Au → Au) : (s.onAu f).now = s.now := rfl
@[simp] theorem State.onAu_inMc (f : Au → Au) : (s.onAu f).inMc = s.inMc := rfl
@[simp] theorem State.onAu_inSu (f : Au → Au) : (s.onAu f).inSu = s.inSu := rfl
@[simp] theorem State.onAu_inTu (f : Au → Au) : (s.onAu f).inTu = s.inTu := rfl
@[simp] theorem State.onAu_inAu (f : Au → Au) : (s.onAu f).inAu = s.inAu := rfl
@[simp] theorem State.onAu_inScu (f : Au → Au) : (s.onAu f).inScu = s.inScu := rfl
@[simp] theorem State.onAu_pins (f : Au → Au) : (s.onAu f).pins = s.pins := rfl
@[simp] theorem State.onAu_cfg (f : Au → Au) : (s.onAu f).cfg = s.cfg := rfl
@[simp] theorem State.onAu_rp (f : Au → Au) : (s.onAu f).rp = s.rp := rfl
@[simp] theorem State.onAu_mc (f : Au → Au) : (s.onAu f).mc = s.mc := rfl
@[simp] theorem State.onAu_su (f : Au → Au) : (s.onAu f).su = s.su := rfl
@[simp] theorem State.onAu_au (f : Au → Au) : (s.onAu f).au = f s.au := rfl
@[simp] theorem State.onAu_cu (f : Au → Au) : (s.onAu f).cu = s.cu := rfl
@[simp] theorem State.onAu_mu (f : Au → Au) : (s.onAu f).mu = s.mu := rfl
@[simp] theorem State.onAu_tu (f : Au → Au) : (s.onAu f).tu = s.tu := rfl
@[simp] theorem State.onAu_scu (f : Au → Au) : (s.onAu f).scu = s.scu := rfl
@[simp] theorem State.onAu_cmp (f : Au → Au) : (s.onAu f).cmp = s.cmp := rfl

/-! ## onCu -/

@[simp] theorem State.onCu_pending (f : Cu → Cu) : (s.onCu f).pending = s.pending := rfl
@[simp] theorem State.onCu_now (f : Cu → Cu) : (s.onCu f).now = s.now := rfl
@[simp] theorem State.onCu_inMc (f : Cu → Cu) : (s.onCu f).inMc = s.inMc := rfl
@[simp] theorem State.onCu_inSu (f : Cu → Cu) : (s.onCu f).inSu = s.inSu := rfl
@[simp] theorem State.onCu_inTu (f : Cu → Cu) : (s.onCu f).inTu = s.inTu := rfl
@[simp] theorem State.onCu_inAu (f : Cu → Cu) : (s.onCu f).inAu = s.inAu := rfl
@[simp] theorem State.onCu_inScu (f : Cu → Cu) : (s.onCu f).inScu = s.inScu := rfl
@[simp] theorem State.onCu_pins (f : Cu → Cu) : (s.onCu f).pins = s.pins := rfl
@[simp] theorem State.onCu_cfg (f : Cu → Cu) : (s.onCu f).cfg = s.cfg := rfl
@[simp] theorem State.onCu_rp (f : Cu → Cu) : (s.onCu f).rp = s.rp := rfl
@[simp] theorem State.onCu_mc (f : Cu → Cu) : (s.onCu f).mc = s.mc := rfl
@[simp] theorem State.onCu_su (f : Cu → Cu) : (s.onCu f).su = s.su := rfl
@[simp] theorem State.onCu_au (f : Cu → Cu) : (s.onCu f).au = s.au := rfl
@[simp] theorem State.onCu_cu (f : Cu → Cu) : (s.onCu f).cu = f s.cu := rfl
@[simp] theorem State.onCu_mu (f : Cu → Cu) : (s.onCu f).mu = s.mu := rfl
@[simp] theorem State.onCu_tu (f : Cu → Cu) : (s.onCu f).tu = s.tu := rfl
@[simp] theorem State.onCu_scu (f : Cu → Cu) : (s.onCu f).scu = s.scu := rfl
@[simp] theorem State.onCu_cmp (f : Cu → Cu) : (s.onCu f).cmp = s.cmp := rfl

/-! ## onMu -/

@[simp] theorem State.onMu_pending (f : Mu → Mu) : (s.onMu f).pending = s.pending := rfl
@[simp] theorem State.onMu_now (f : Mu → Mu) : (s.onMu f).now = s.now := rfl
@[simp] theorem State.onMu_inMc (f : Mu → Mu) : (s.onMu f).inMc = s.inMc := rfl
@[simp] theorem State.onMu_inSu (f : Mu → Mu) : (s.onMu f).inSu = s.inSu := rfl
@[simp] theorem State.onMu_inTu (f : Mu → Mu) : (s.onMu f).inTu = s.inTu := rfl
@[simp] theorem State.onMu_inAu (f : Mu → Mu) : (s.onMu f).inAu = s.inAu := rfl
@[simp] theorem State.onMu_inScu (f : Mu → Mu) : (s.onMu f).inScu = s.inScu := rfl
@[simp] theorem State.onMu_pins (f : Mu → Mu) : (s.onMu f).pins = s.pins := rfl
@[simp] theorem State.onMu_cfg (f : Mu → Mu) : (s.onMu f).cfg = s.cfg := rfl
@[simp] theorem State.onMu_rp (f : Mu → Mu) : (s.onMu f).rp = s.rp := rfl
@[simp] theorem State.onMu_mc (f : Mu → Mu) : (s.onMu f).mc = s.mc := rfl
@[simp] theorem State.onMu_su (f : Mu → Mu) : (s.onMu f).su = s.su := rfl
@[simp] theorem State.onMu_au (f : Mu → Mu) : (s.onMu f).au = s.au := rfl
@[simp] theorem State.onMu_cu (f : Mu → Mu) : (s.onMu f).cu = s.cu := rfl
@[simp] theorem State.onMu_mu (f : Mu → Mu) : (s.onMu f).mu = f s.mu := rfl
@[simp] theorem State.onMu_tu (f : Mu → Mu) : (s.onMu f).tu = s.tu := rfl
@[simp] theorem State.onMu_scu (f : Mu → Mu) : (s.onMu f).scu = s.scu := rfl
@[simp] theorem State.onMu_cmp (f : Mu → Mu) : (s.onMu f).cmp = s.cmp := rfl

/-! ## onTu -/

@[simp] theorem State.onTu_pending (f : Tu → Tu) : (s.onTu f).pending = s.pending := rfl
@[simp] theorem State.onTu_now (f : Tu → Tu) : (s.onTu f).now = s.now := rfl
@[simp] theorem State.onTu_inMc (f : Tu → Tu) : (s.onTu f).inMc = s.inMc := rfl
@[simp] theorem State.onTu_inSu (f : Tu → Tu) : (s.onTu f).inSu = s.inSu := rfl
@[simp] theorem State.onTu_inTu (f : Tu → Tu) : (s.onTu f).inTu = s.inTu := rfl
@[simp] theorem State.onTu_inAu (f : Tu → Tu) : (s.onTu f).inAu = s.inAu := rfl
@[simp] theorem State.onTu_inScu (f : Tu → Tu) : (s.onTu f).inScu = s.inScu := rfl
@[simp] theorem State.onTu_pins (f : Tu → Tu) : (s.onTu f).pins = s.pins := rfl
@[simp] theorem State.onTu_cfg (f : Tu → Tu) : (s.onTu f).cfg = s.cfg := rfl
@[simp] theorem State.onTu_rp (f : Tu → Tu) : (s.onTu f).rp = s.rp := rfl
@[simp] theorem State.onTu_mc (f : Tu → Tu) : (s.onTu f).mc = s.mc := rfl
@[simp] theorem State.onTu_su (f : Tu → Tu) : (s.onTu f).su = s.su := rfl
@[simp] theorem State.onTu_au (f : Tu → Tu) : (s.onTu f).au = s.au := rfl
@[simp] theorem State.onTu_cu (f : Tu → Tu) : (s.onTu f).cu = s.cu := rfl
@[simp] theorem State.onTu_mu (f : Tu → Tu) : (s.onTu f).mu = s.mu := rfl
@[simp] theorem State.onTu_tu (f : Tu → Tu) : (s.onTu f).tu = f s.tu := rfl
@[simp] theorem State.onTu_scu (f : Tu → Tu) : (s.onTu f).scu = s.scu := rfl
@[simp] theorem State.onTu_cmp (f : Tu → Tu) : (s.onTu f).cmp = s.cmp := rfl

/-! ## onScu -/

@[simp] theorem State.onScu_pending (f : Scu → Scu) : (s.onScu f).pending = s.pending := rfl
@[simp] theorem State.onScu_now (f : Scu → Scu) : (s.onScu f).now = s.now := rfl
@[simp] theorem State.onScu_inMc (f : Scu → Scu) : (s.onScu f).inMc = s.inMc := rfl
@[simp] theorem State.onScu_inSu (f : Scu → Scu) : (s.onScu f).inSu = s.inSu := rfl
@[simp] theorem State.onScu_inTu (f : Scu → Scu) : (s.onScu f).inTu = s.inTu := rfl
@[simp] theorem State.onScu_inAu (f : Scu → Scu) : (s.onScu f).inAu = s.inAu := rfl
@[simp] theorem State.onScu_inScu (f : Scu → Scu) : (s.onScu f).inScu = s.inScu := rfl
@[simp] theorem State.onScu_pins (f : Scu → Scu) : (s.onScu f).pins = s.pins := rfl
@[simp] theorem State.onScu_cfg (f : Scu → Scu) : (s.onScu f).cfg = s.cfg := rfl
@[simp] theorem State.onScu_rp (f : Scu → Scu) : (s.onScu f).rp = s.rp := rfl
@[simp] theorem State.onScu_mc (f : Scu → Scu) : (s.onScu f).mc = s.mc := rfl
@[simp] theorem State.onScu_su (f : Scu → Scu) : (s.onScu f).su = s.su := rfl
@[simp] theorem State.onScu_au (f : Scu → Scu) : (s.onScu f).au = s.au := rfl
@[simp] theorem State.onScu_cu (f : Scu → Scu) : (s.onScu f).cu = s.cu := rfl
@[simp] theorem State.onScu_mu (f : Scu → Scu) : (s.onScu f).mu = s.mu := rfl
@[simp] theorem State.onScu_tu (f : Scu → Scu) : (s.onScu f).tu = s.tu := rfl
@[simp] theorem State.onScu_scu (f : Scu → Scu) : (s.onScu f).scu = f s.scu := rfl
@[simp] theorem State.onScu_cmp (f : Scu → Scu) : (s.onScu f).cmp = s.cmp := rfl

/-! ## onCmp -/

@[simp] theorem State.onCmp_pending (f : Cmp → Cmp) : (s.onCmp f).pending = s.pending := rfl
@[simp] theorem State.onCmp_now (f : Cmp → Cmp) : (s.onCmp f).now = s.now := rfl
@[simp] theorem State.onCmp_inMc (f : Cmp → Cmp) : (s.onCmp f).inMc = s.inMc := rfl
@[simp] theorem State.onCmp_inSu (f : Cmp → Cmp) : (s.onCmp f).inSu = s.inSu := rfl
@[simp] theorem State.onCmp_inTu (f : Cmp → Cmp) : (s.onCmp f).inTu = s.inTu := rfl
@[simp] theorem State.onCmp_inAu (f : Cmp → Cmp) : (s.onCmp f).inAu = s.inAu := rfl
@[simp] theorem State.onCmp_inScu (f : Cmp → Cmp) : (s.onCmp f).inScu = s.inScu := rfl
@[simp] theorem State.onCmp_pins (f : Cmp → Cmp) : (s.onCmp f).pins = s.pins := rfl
@[simp] theorem State.onCmp_cfg (f : Cmp → Cmp) : (s.onCmp f).cfg = s.cfg := rfl
@[simp] theorem State.onCmp_rp (f : Cmp → Cmp) : (s.onCmp f).rp = s.rp := rfl
@[simp] theorem State.onCmp_mc (f : Cmp → Cmp) : (s.onCmp f).mc = s.mc := rfl
@[simp] theorem State.onCmp_su (f : Cmp → Cmp) : (s.onCmp f).su = s.su := rfl
@[simp] theorem State.onCmp_au (f : Cmp → Cmp) : (s.onCmp f).au = s.au := rfl
@[simp] theorem State.onCmp_cu (f : Cmp → Cmp) : (s.onCmp f).cu = s.cu := rfl
@[simp] theorem State.onCmp_mu (f : Cmp → Cmp) : (s.onCmp f).mu = s.mu := rfl
@[simp] theorem State.onCmp_tu (f : Cmp → Cmp) : (s.onCmp f).tu = s.tu := rfl
@[simp] theorem State.onCmp_scu (f : Cmp → Cmp) : (s.onCmp f).scu = s.scu := rfl
@[simp] theorem State.onCmp_cmp (f : Cmp → Cmp) : (s.onCmp f).cmp = f s.cmp := rfl

/-! ## atTime -/

@[simp] theorem State.atTime_pending (t : Nat) : (s.atTime t).pending = s.pending := rfl
@[simp] theorem State.atTime_now (t : Nat) : (s.atTime t).now = max s.now t := rfl
@[simp] theorem State.atTime_inMc (t : Nat) : (s.atTime t).inMc = s.inMc := rfl
@[simp] theorem State.atTime_inSu (t : Nat) : (s.atTime t).inSu = s.inSu := rfl
@[simp] theorem State.atTime_inTu (t : Nat) : (s.atTime t).inTu = s.inTu := rfl
@[simp] theorem State.atTime_inAu (t : Nat) : (s.atTime t).inAu = s.inAu := rfl
@[simp] theorem State.atTime_inScu (t : Nat) : (s.atTime t).inScu = s.inScu := rfl
@[simp] theorem State.atTime_pins (t : Nat) : (s.atTime t).pins = s.pins := rfl
@[simp] theorem State.atTime_cfg (t : Nat) : (s.atTime t).cfg = s.cfg := rfl
@[simp] theorem State.atTime_rp (t : Nat) : (s.atTime t).rp = s.rp := rfl
@[simp] theorem State.atTime_mc (t : Nat) : (s.atTime t).mc = s.mc := rfl
@[simp] theorem State.atTime_su (t : Nat) : (s.atTime t).su = s.su := rfl
@[simp] theorem State.atTime_au (t : Nat) : (s.atTime t).au = s.au := rfl
@[simp] theorem State.atTime_cu (t : Nat) : (s.atTime t).cu = s.cu := rfl
@[simp] theorem State.atTime_mu (t : Nat) : (s.atTime t).mu = s.mu := rfl
@[simp] theorem State.atTime_tu (t : Nat) : (s.atTime t).tu = s.tu := rfl
@[simp] theorem State.atTime_scu (t : Nat) : (s.atTime t).scu = s.scu := rfl
@[simp] theorem State.atTime_cmp (t : Nat) : (s.atTime t).cmp = s.cmp := rfl

/-! ## onQ -/

@[simp] theorem State.onQ_pending (q : CmdQueue) (f : CmdQ → CmdQ) : (s.onQ q f).pending = s.pending := rfl
@[simp] theorem State.onQ_now (q : CmdQueue) (f : CmdQ → CmdQ) : (s.onQ q f).now = s.now := rfl
@[simp] theorem State.onQ_inMc (q : CmdQueue) (f : CmdQ → CmdQ) : (s.onQ q f).inMc = s.inMc := rfl
@[simp] theorem State.onQ_inSu (q : CmdQueue) (f : CmdQ → CmdQ) : (s.onQ q f).inSu = s.inSu := rfl
@[simp] theorem State.onQ_inTu (q : CmdQueue) (f : CmdQ → CmdQ) : (s.onQ q f).inTu = s.inTu := rfl
@[simp] theorem State.onQ_inAu (q : CmdQueue) (f : CmdQ → CmdQ) : (s.onQ q f).inAu = s.inAu := rfl
@[simp] theorem State.onQ_inScu (q : CmdQueue) (f : CmdQ → CmdQ) : (s.onQ q f).inScu = s.inScu := rfl
@[simp] theorem State.onQ_pins (q : CmdQueue) (f : CmdQ → CmdQ) : (s.onQ q f).pins = s.pins := rfl
@[simp] theorem State.onQ_cfg (q : CmdQueue) (f : CmdQ → CmdQ) : (s.onQ q f).cfg = s.cfg := rfl
@[simp] theorem State.onQ_rp (q : CmdQueue) (f : CmdQ → CmdQ) : (s.onQ q f).rp = s.rp := rfl
@[simp] theorem State.onQ_mc (q : CmdQueue) (f : CmdQ → CmdQ) : (s.onQ q f).mc = s.mc := rfl
@[simp] theorem State.onQ_su (q : CmdQueue) (f : CmdQ → CmdQ) : (s.onQ q f).su = s.su := rfl
@[simp] theorem State.onQ_au (q : CmdQueue) (f : CmdQ → CmdQ) : (s.onQ q f).au = s.au := rfl
@[simp] theorem State.onQ_cu (q : CmdQueue) (f : CmdQ → CmdQ) : (s.onQ q f).cu = s.cu := rfl
@[simp] theorem State.onQ_mu (q : CmdQueue) (f : CmdQ → CmdQ) : (s.onQ q f).mu = s.mu := rfl
@[simp] theorem State.onQ_tu (q : CmdQueue) (f : CmdQ → CmdQ) : (s.onQ q f).tu = s.tu := rfl
@[simp] theorem State.onQ_scu (q : CmdQueue) (f : CmdQ → CmdQ) : (s.onQ q f).scu = s.scu := rfl
@[simp] theorem State.onQ_cmp (q : CmdQueue) (f : CmdQ → CmdQ) : (s.onQ q f).cmp = s.cmp.setQ q (f (s.cmp.q q)) := rfl

/-! ## issue -/

@[simp] theorem State.issue_pending (t : Transfer) : (s.issue t).pending = s.pending := rfl
@[simp] theorem State.issue_now (t : Transfer) : (s.issue t).now = s.now := rfl
@[simp] theorem State.issue_inMc (t : Transfer) : (s.issue t).inMc = s.inMc := rfl
@[simp] theorem State.issue_inSu (t : Transfer) : (s.issue t).inSu = s.inSu := rfl
@[simp] theorem State.issue_inTu (t : Transfer) : (s.issue t).inTu = s.inTu := rfl
@[simp] theorem State.issue_inAu (t : Transfer) : (s.issue t).inAu = s.inAu := rfl
@[simp] theorem State.issue_inScu (t : Transfer) : (s.issue t).inScu = s.inScu := rfl
@[simp] theorem State.issue_pins (t : Transfer) : (s.issue t).pins = s.pins := rfl
@[simp] theorem State.issue_cfg (t : Transfer) : (s.issue t).cfg = s.cfg := rfl
@[simp] theorem State.issue_rp (t : Transfer) : (s.issue t).rp = s.rp := rfl
@[simp] theorem State.issue_mc (t : Transfer) : (s.issue t).mc = s.mc := rfl
@[simp] theorem State.issue_su (t : Transfer) : (s.issue t).su = s.su := rfl
@[simp] theorem State.issue_au (t : Transfer) : (s.issue t).au = s.au := rfl
@[simp] theorem State.issue_cu (t : Transfer) : (s.issue t).cu = s.cu := rfl
@[simp] theorem State.issue_mu (t : Transfer) : (s.issue t).mu = s.mu := rfl
@[simp] theorem State.issue_tu (t : Transfer) : (s.issue t).tu = s.tu := rfl
@[simp] theorem State.issue_scu (t : Transfer) : (s.issue t).scu = s.scu := rfl
@[simp] theorem State.issue_cmp (t : Transfer) : (s.issue t).cmp = { s.cmp with dma := s.cmp.dma ++ [t] } := rfl

end Sys2Proof.Machine
end

