-- ==== Sys2Proof/Laws/Ops.lean ====
section
/-! SUPPORT. What the shared operations of the Command Port and the Ring Port can do: time, events, transfers, answers and
offers to the lanes. -/

namespace Sys2Proof.Machine

variable {s t : State} {c d e : Cmp}

/-! ## Posting -/

theorem Cmp.Posted.refl (c : Cmp) : c.Posted c := ⟨rfl, List.prefix_refl _⟩

theorem Cmp.Posted.trans (h : c.Posted d) (k : d.Posted e) : c.Posted e :=
  ⟨by rw [k.fields, h.fields], h.issued.trans k.issued⟩

/-- Pumping events touches the Command Port alone. -/
theorem State.pumpEvents_eq (s : State) : s.pumpEvents = { s with cmp := s.pumpEvents.cmp } := by
  unfold State.pumpEvents
  split
  · rfl
  · split <;> rfl

theorem State.pumpEvents_posted (s : State) : s.cmp.Posted s.pumpEvents.cmp := by
  unfold State.pumpEvents
  split
  · exact .refl _
  · split
    · exact .refl _
    · exact ⟨rfl, List.prefix_append _ _⟩

@[simp] theorem State.pumpEvents_awaiting (s : State) : s.pumpEvents.cmp.event.awaiting = s.cmp.event.awaiting := by
  unfold State.pumpEvents
  split
  · rfl
  · split <;> rfl

@[simp] theorem State.pumpEvents_eventsLost (s : State) : s.pumpEvents.cmp.eventsLost = s.cmp.eventsLost := by
  unfold State.pumpEvents
  split
  · rfl
  · split <;> rfl

/-- Issuing the write of a record leaves the pending lost count: it falls when the write completes (R195). -/
@[simp] theorem State.pumpEvents_lostPending (s : State) : s.pumpEvents.cmp.lostPending = s.cmp.lostPending := by
  unfold State.pumpEvents
  split
  · rfl
  · split <;> rfl

theorem State.loseEvent_posted (s : State) : s.cmp.Posted s.loseEvent.cmp := ⟨rfl, List.prefix_refl _⟩

/-- Posting an event touches the Command Port alone. -/
theorem State.post_eq (e : Event) (s : State) : s.post e = { s with cmp := (s.post e).cmp } := by
  unfold State.post
  dsimp only
  split
  · rw [State.pumpEvents_eq]; rfl
  · rfl

theorem State.post_posted (e : Event) (s : State) : s.cmp.Posted (s.post e).cmp := by
  unfold State.post
  dsimp only
  split
  · refine Cmp.Posted.trans ?_ (State.pumpEvents_posted _)
    exact ⟨rfl, List.prefix_refl _⟩
  · exact State.loseEvent_posted s

/-- What posting an event does to the event queue (R195). -/
theorem State.post_posts (e : Event) (s : State) : Posts e s (s.post e) := by
  unfold Posts State.post Cmp.takesEvent
  dsimp only
  split <;> rename_i h
  · constructor <;> simp
  · exact ⟨rfl, rfl⟩

@[simp] theorem State.post_pending (e : Event) (s : State) : (s.post e).pending = s.pending := by rw [State.post_eq]
@[simp] theorem State.post_now (e : Event) (s : State) : (s.post e).now = s.now := by rw [State.post_eq]
@[simp] theorem State.post_inMc (e : Event) (s : State) : (s.post e).inMc = s.inMc := by rw [State.post_eq]
@[simp] theorem State.post_inSu (e : Event) (s : State) : (s.post e).inSu = s.inSu := by rw [State.post_eq]
@[simp] theorem State.post_inTu (e : Event) (s : State) : (s.post e).inTu = s.inTu := by rw [State.post_eq]
@[simp] theorem State.post_inAu (e : Event) (s : State) : (s.post e).inAu = s.inAu := by rw [State.post_eq]
@[simp] theorem State.post_inScu (e : Event) (s : State) : (s.post e).inScu = s.inScu := by rw [State.post_eq]
@[simp] theorem State.post_pins (e : Event) (s : State) : (s.post e).pins = s.pins := by rw [State.post_eq]
@[simp] theorem State.post_cfg (e : Event) (s : State) : (s.post e).cfg = s.cfg := by rw [State.post_eq]
@[simp] theorem State.post_rp (e : Event) (s : State) : (s.post e).rp = s.rp := by rw [State.post_eq]
@[simp] theorem State.post_mc (e : Event) (s : State) : (s.post e).mc = s.mc := by rw [State.post_eq]
@[simp] theorem State.post_su (e : Event) (s : State) : (s.post e).su = s.su := by rw [State.post_eq]
@[simp] theorem State.post_au (e : Event) (s : State) : (s.post e).au = s.au := by rw [State.post_eq]
@[simp] theorem State.post_cu (e : Event) (s : State) : (s.post e).cu = s.cu := by rw [State.post_eq]
@[simp] theorem State.post_mu (e : Event) (s : State) : (s.post e).mu = s.mu := by rw [State.post_eq]
@[simp] theorem State.post_tu (e : Event) (s : State) : (s.post e).tu = s.tu := by rw [State.post_eq]
@[simp] theorem State.post_scu (e : Event) (s : State) : (s.post e).scu = s.scu := by rw [State.post_eq]

/-- Posting leaves the command queues as they are. -/
@[simp] theorem State.post_q (e : Event) (s : State) (q : CmdQueue) : (s.post e).cmp.q q = s.cmp.q q := by
  rw [(State.post_posted e s).fields]; cases q <;> rfl

/-- Entering a DMA failure touches the Command Port alone. -/
theorem State.enterDmaError_eq (x : Transfer) (k : DmaKind) (s : State) :
    s.enterDmaError x k = { s with cmp := (s.enterDmaError x k).cmp } := by
  unfold State.enterDmaError
  split
  · rfl
  · dsimp only; rw [State.post_eq]; rfl

/-! ## Command queues -/

@[simp] theorem Cmp.q_setQ (q : CmdQueue) (x : CmdQ) (c : Cmp) : (c.setQ q x).q q = x := by cases q <;> rfl

theorem Cmp.q_setQ_ne {p q : CmdQueue} (h : p ≠ q) (x : CmdQ) (c : Cmp) : (c.setQ q x).q p = c.q p := by
  cases p <;> cases q <;> first | rfl | exact absurd rfl h

@[simp] theorem Cmp.setQ_dma (q : CmdQueue) (x : CmdQ) (c : Cmp) : (c.setQ q x).dma = c.dma := by cases q <;> rfl
@[simp] theorem Cmp.setQ_event (q : CmdQueue) (x : CmdQ) (c : Cmp) : (c.setQ q x).event = c.event := by cases q <;> rfl
@[simp] theorem Cmp.q_dma (q : CmdQueue) (l : List Transfer) (c : Cmp) : { c with dma := l }.q q = c.q q := by
  cases q <;> rfl

/-- Answering the command in flight touches the Command Port alone, and there it is what `Cmp.answered` says. -/
theorem State.complete_eq (q : CmdQueue) (r : Result) (detail : Nat) (s : State) :
    s.complete q r detail = { s with cmp := s.cmp.answered q r detail s.now } := by
  unfold State.complete Cmp.answered
  cases (s.cmp.q q).inFlight
  · rfl
  · cases q <;> rfl

theorem State.result_eq (q : CmdQueue) (r : Result) (s : State) :
    s.result q r = { s with cmp := s.cmp.answered q r 0 s.now } := s.complete_eq q r 0

/-- A command in flight that is answered is answered. -/
theorem State.complete_answers {q : CmdQueue} {f : InFlight} (r : Result) (detail : Nat)
    (h : (s.cmp.q q).inFlight = some f) : Answers q r detail s (s.complete q r detail) := by
  refine ⟨f, h, ?_, ?_⟩ <;> rw [State.complete_eq] <;> simp [Cmp.answered, h]

/-- A command taken and not yet executed is in flight. -/
theorem State.taken_inFlight {q : CmdQueue} {cmd : HostCmd} (h : s.taken q = some cmd) :
    ∃ f, (s.cmp.q q).inFlight = some f ∧ f.phase = .taken ∧ f.cmd = cmd := by
  unfold State.taken at h
  split at h
  · split at h
    · rename_i f hf hp
      exact ⟨f, hf, hp, by simpa using h⟩
    · cases h
  · cases h

/-! ## Offers to the lanes -/

/-- The parts of the Ring Port an offer can change (R8, R9). -/
theorem Rp.offerUrgent_eq (f : LaneFrame) (r : Rp) :
    (r.offerUrgent f).1 =
      { r with urgent := (r.offerUrgent f).1.urgent, urgentOverflow := (r.offerUrgent f).1.urgentOverflow } := by
  unfold Rp.offerUrgent
  split
  · rfl
  · split <;> rfl

theorem Rp.offerBulk_eq (f : LaneFrame) (r : Rp) :
    (r.offerBulk f).1 =
      { r with
        bulk := (r.offerBulk f).1.bulk, waitList := (r.offerBulk f).1.waitList, held := (r.offerBulk f).1.held } := by
  unfold Rp.offerBulk
  split
  · rfl
  · split
    · split <;> rfl
    · split <;> rfl

/-- An offer touches the Ring Port alone. -/
theorem State.offerR_eq (f : LaneFrame) (s : State) : (s.offerR f).1 = { s with rp := (s.offerR f).1.rp } := by
  unfold State.offerR
  split
  · split <;> rfl
  · rfl

theorem State.offer_eq (f : LaneFrame) (s : State) : s.offer f = { s with rp := (s.offer f).rp } := s.offerR_eq f

/-- Of the Ring Port an offer touches the lanes, the waiting offers and the overflow count. -/
theorem State.offerR_rp (f : LaneFrame) (s : State) :
    (s.offerR f).1.rp =
      { s.rp with
        urgent := (s.offerR f).1.rp.urgent, bulk := (s.offerR f).1.rp.bulk, waitList := (s.offerR f).1.rp.waitList
        held := (s.offerR f).1.rp.held, urgentOverflow := (s.offerR f).1.rp.urgentOverflow } := by
  unfold State.offerR
  split
  · split
    · dsimp only; generalize hx : (s.rp.offerUrgent f).1 = x
      have h := Rp.offerUrgent_eq f s.rp
      rw [hx] at h; rw [h]
    · dsimp only; generalize hx : (s.rp.offerBulk f).1 = x
      have h := Rp.offerBulk_eq f s.rp
      rw [hx] at h; rw [h]
  · rfl

/-- The urgent lane never holds more than eight frames after an offer, when it did not before (R7, R8). -/
theorem Rp.offerUrgent_length (f : LaneFrame) (r : Rp) (h : r.urgent.length ≤ 8) :
    (r.offerUrgent f).1.urgent.length ≤ 8 := by
  have rep : ∀ (p : LaneFrame → Bool) (l : List LaneFrame), (replaceFirst p f l).length = l.length := by
    intro p l
    induction l with
    | nil => rfl
    | cons x xs ih => unfold replaceFirst; split <;> simp [ih]
  unfold Rp.offerUrgent
  split
  · simpa [rep] using h
  · split
    · simp; omega
    · exact h

/-- A frame offered outside LISTEN, MEMBER and LEAVING changes nothing (R10). -/
theorem State.offer_out (f : LaneFrame) (h : s.mc.link.inRing = false) : s.offer f = s := by
  simp [State.offer, State.offerR, h]

/-! ## The transfer that can come back next -/

/-- The transfer of a purpose and unit that can come back is in flight, and of that purpose and unit. -/
theorem Cmp.ready_some {p : Purpose} {u : DmaUnit} {x : Transfer} (h : c.ready p u = some x) :
    x ∈ c.dma ∧ x.purpose = p ∧ x.unit = u := by
  unfold Cmp.ready at h
  generalize c.dma = l at h ⊢
  induction l with
  | nil => cases h
  | cons y l ih =>
    simp only [readyIn] at h
    split at h
    · rename_i k
      cases h
      simp only [Transfer.isOf, Bool.and_eq_true, beq_iff_eq] at k
      exact ⟨List.mem_cons_self .., k⟩
    · split at h
      · cases h
      · exact ⟨List.mem_cons_of_mem _ (ih h).1, (ih h).2⟩

/-- It is the one taken out of flight. -/
theorem State.withTransfer_of_ready {p : Purpose} {u : DmaUnit} {x : Transfer} (f : Transfer → State → State)
    (h : s.cmp.ready p u = some x) : s.withTransfer p u f = f x (s.dropDma (Transfer.isOf p u)) := by
  simp [State.withTransfer, h]

/-- With none, nothing happens. -/
theorem State.withTransfer_of_none {p : Purpose} {u : DmaUnit} (f : Transfer → State → State)
    (h : s.cmp.ready p u = none) : s.withTransfer p u f = s := by
  simp [State.withTransfer, h]

end Sys2Proof.Machine
end

