-- ==== Sys2Proof/Laws/Reports.lean ====
section
/-! SUPPORT. What a raise, a clear and a report of a cause can do: each is of the kind `State.Reported`. -/

namespace Sys2Proof.Machine

variable {s t u : State}

/-! ## The four-fold record -/

@[simp] theorem Quad.get_set_self {α : Type} (q : Quad α) (i : Fin 4) (x : α) : (q.set i x).get i = x := by
  match i with | 0 | 1 | 2 | 3 => rfl

theorem Quad.get_set_ne {α : Type} (q : Quad α) {i j : Fin 4} (h : j ≠ i) (x : α) : (q.set i x).get j = q.get j := by
  match i, j with
  | 0, 0 | 1, 1 | 2, 2 | 3, 3 => exact absurd rfl h
  | 0, 1 | 0, 2 | 0, 3 | 1, 0 | 1, 2 | 1, 3 | 2, 0 | 2, 1 | 2, 3 | 3, 0 | 3, 1 | 3, 2 => rfl

@[simp] theorem Quad.get_map {α β : Type} (q : Quad α) (f : α → β) (i : Fin 4) : (q.map f).get i = f (q.get i) := by
  match i with | 0 | 1 | 2 | 3 => rfl

@[simp] theorem Quad.get_modify_self {α : Type} (q : Quad α) (i : Fin 4) (f : α → α) :
    (q.modify i f).get i = f (q.get i) := by simp [Quad.modify]

theorem Quad.get_modify_ne {α : Type} (q : Quad α) {i j : Fin 4} (h : j ≠ i) (f : α → α) :
    (q.modify i f).get j = q.get j := by simp [Quad.modify, Quad.get_set_ne q h]

@[simp] theorem State.onAxis_axis (i : Fin 4) (f : Axis → Axis) (s : State) : (s.onAxis i f).axis i = f (s.axis i) := by
  simp [State.onAxis, State.axis]

theorem State.onAxis_axis_ne {i j : Fin 4} (h : j ≠ i) (f : Axis → Axis) (s : State) :
    (s.onAxis i f).axis j = s.axis j := by simp [State.onAxis, State.axis, Quad.get_modify_ne _ h]

/-! ## The relation -/

theorem State.Reported.refl (s : State) : s.Reported s :=
  ⟨rfl, rfl, rfl, rfl, fun _ => .inl rfl, fun _ => rfl, rfl, .refl _⟩

theorem Axis.toTorqueOff_state (a : Axis) : a.toTorqueOff.state = .torqueOff := rfl

theorem State.Reported.trans (h : s.Reported t) (k : t.Reported u) : s.Reported u where
  fields := by rw [k.fields, h.fields]
  ring := by rw [k.ring, h.ring]
  shaft := by rw [k.shaft, h.shaft]
  axes := by rw [k.axes, h.axes]
  axis i := by
    rcases k.axis i with e | ⟨e, f⟩
    · rw [e]; exact h.axis i
    · rcases h.axis i with e' | ⟨_, f'⟩
      · right; rw [← e', f]; exact ⟨e, rfl⟩
      · rw [f', Axis.toTorqueOff_state] at e; exact absurd e (by decide)
  first hs := by
    have e := h.first hs
    rw [k.first (by rw [e]; exact hs), e]
  held := by rw [k.held, h.held]
  port := h.port.trans k.port

/-- A change of the Trip Unit that keeps a filled first-trip record. -/
theorem State.Reported.onTu (f : Tu → Tu) (s : State) (h : s.tu.first.isSome = true → (f s.tu).first = s.tu.first)
    (k : (f s.tu).noticeHeld = s.tu.noticeHeld) : s.Reported (s.onTu f) :=
  ⟨rfl, rfl, rfl, rfl, fun _ => .inl rfl, h, k, .refl _⟩

theorem State.Reported.post (e : Event) (s : State) : s.Reported (s.post e) := by
  refine ⟨?_, ?_, ?_, ?_, ?_, ?_, ?_, State.post_posted e s⟩
  · rw [State.post_eq]
  all_goals simp [State.axis]

theorem State.Reported.updateLocalStop (s : State) : s.Reported s.updateLocalStop :=
  ⟨rfl, rfl, rfl, rfl, fun _ => .inl rfl, fun _ => rfl, rfl, .refl _⟩

theorem State.Reported.offer (f : LaneFrame) (s : State) : s.Reported (s.offer f) := by
  refine ⟨?_, State.offerR_rp f s, ?_, ?_, ?_, ?_, ?_, ?_⟩
  all_goals rw [State.offer_eq]
  · exact fun _ => .inl rfl
  · exact fun _ => rfl
  · exact .refl _

/-! ## Installing an entry (R49) -/

theorem Su.fit_eq (e : Entry) (u : Su) :
    u.fit e = { u with list := (u.fit e).list, droppedEntries := (u.fit e).droppedEntries } := by
  unfold Su.fit; split <;> rfl

theorem Su.place_eq (e : Entry) (u : Su) :
    u.place e = { u with list := (u.place e).list, droppedEntries := (u.place e).droppedEntries } := by
  unfold Su.place
  split
  · exact Su.fit_eq e u
  · split
    · rw [Su.fit_eq]
    · rfl

/-- Of the Shaft Unit an offered entry touches the list, the lateness and their counters (R49, R51). -/
theorem Su.install_eq (m : Nat) (late : Bool) (e : Entry) (u : Su) :
    (u.install m late e).1 =
      { u with
        list := (u.install m late e).1.list, calm := (u.install m late e).1.calm
        lateThisBeat := (u.install m late e).1.lateThisBeat, lateChanges := (u.install m late e).1.lateChanges
        droppedEntries := (u.install m late e).1.droppedEntries } := by
  unfold Su.install
  split
  · rfl
  · split
    · dsimp only; rw [Su.place_eq]; rfl
    · dsimp only; rw [Su.place_eq]

theorem State.Reported.install (m : Nat) (late : Bool) (e : Entry) (s : State) :
    s.Reported { s with su := (s.su.install m late e).1 } :=
  ⟨rfl, rfl, Su.install_eq m late e s.su, rfl, fun _ => .inl rfl, fun _ => rfl, rfl, .refl _⟩

/-! ## Torque-off (R78) -/

theorem State.enterTorqueOff_reported (r : AxisReason) (i : Fin 4) (s : State) : s.Reported (s.enterTorqueOff r i) := by
  unfold State.enterTorqueOff
  split
  · rename_i h
    unfold State.changeAxis State.axisEvent
    refine State.Reported.trans ?_ (State.Reported.post _ _)
    refine ⟨rfl, rfl, rfl, rfl, fun j => ?_, fun _ => rfl, rfl, .refl _⟩
    by_cases e : j = i
    · subst e; exact .inr ⟨h, State.onAxis_axis j _ s⟩
    · exact .inl (State.onAxis_axis_ne e _ s)
  · exact .refl _

/-- An axis that enters TORQUE_OFF is not energised after. -/
theorem State.enterTorqueOff_off (r : AxisReason) (i : Fin 4) (s : State) :
    ((s.enterTorqueOff r i).axis i).state.energised = false := by
  unfold State.enterTorqueOff
  split
  · simp [State.changeAxis, State.axisEvent, State.axis, State.onAxis, Axis.toTorqueOff, AxisState.energised]
  · rename_i h; simpa using h

/-- What a report leaves not energised stays so. -/
theorem State.Reported.off (h : s.Reported t) {i : Fin 4} (k : (s.axis i).state.energised = false) :
    (t.axis i).state.energised = false := by
  rcases h.axis i with e | ⟨e, _⟩
  · rw [e]; exact k
  · rw [k] at e; cases e

theorem State.torqueOffAll_reported (r : AxisReason) (s : State) : s.Reported (s.torqueOffAll r) :=
  (((State.enterTorqueOff_reported r 0 s).trans (State.enterTorqueOff_reported r 1 _)).trans
    (State.enterTorqueOff_reported r 2 _)).trans (State.enterTorqueOff_reported r 3 _)

/-- After a torque-off of all axes none is energised (R89, R90). -/
theorem State.torqueOffAll_off (r : AxisReason) (s : State) (i : Fin 4) :
    ((s.torqueOffAll r).axis i).state.energised = false := by
  have h (k : Fin 4) (u : State) := State.enterTorqueOff_reported r k u
  match i with
  | 0 =>
    exact (h 3 _).off ((h 2 _).off ((h 1 _).off (State.enterTorqueOff_off r 0 s)))
  | 1 => exact (h 3 _).off ((h 2 _).off (State.enterTorqueOff_off r 1 _))
  | 2 => exact (h 3 _).off (State.enterTorqueOff_off r 2 _)
  | 3 => exact State.enterTorqueOff_off r 3 _

/-! ## Raise, refresh and clear (R140 to R142) -/

theorem State.postNotice_reported (s : State) : s.Reported s.postNotice := by
  unfold State.postNotice
  exact (State.Reported.post _ s).trans (.onTu _ _ (fun _ => rfl) rfl)

theorem State.markChange_reported (s : State) : s.Reported s.markChange := by
  unfold State.markChange
  split
  · exact .onTu _ _ (fun _ => rfl) rfl
  · exact State.postNotice_reported s

theorem State.submitStop_reported (k : TripKey) (fast : Bool) (beat founder : Nat) (s : State) :
    s.Reported (s.submitStop k fast beat founder).1 := State.Reported.install _ _ _ s

theorem State.raiseEffects_reported (r : Raise) (s : State) : s.Reported (s.raiseEffects r).1 := by
  unfold State.raiseEffects
  refine State.Reported.trans ?_ (State.Reported.updateLocalStop _)
  have h : s.Reported (if r.category = .torqueOff then s.torqueOffAll .torqueOff else s) := by
    split
    · exact State.torqueOffAll_reported _ s
    · exact .refl _
  refine h.trans ?_
  generalize (if r.category = .torqueOff then s.torqueOffAll .torqueOff else s) = x
  cases r.lineStop with
  | some fast => exact State.submitStop_reported _ _ _ _ _
  | none => exact .refl _

theorem State.offerFirstTrip_reported (r : Raise) (s : State) : s.Reported (s.offerFirstTrip r) := by
  unfold State.offerFirstTrip
  apply State.Reported.onTu <;> split
  · intro _; rfl
  · rename_i h; intro k; rw [h] at k; cases k
  · rfl
  · rfl

theorem Tu.offerSource_first (r : Raise) (u : Tu) : (u.offerSource r).first = u.first := by
  unfold Tu.offerSource; split <;> rfl

theorem Tu.offerSource_noticeHeld (r : Raise) (u : Tu) : (u.offerSource r).noticeHeld = u.noticeHeld := by
  unfold Tu.offerSource; split <;> rfl

theorem Tu.enlist_first (e : TripEntry) (u : Tu) : (u.enlist e).first = u.first := by unfold Tu.enlist; split <;> rfl
theorem Tu.enlist_noticeHeld (e : TripEntry) (u : Tu) : (u.enlist e).noticeHeld = u.noticeHeld := by
  unfold Tu.enlist; split <;> rfl

theorem State.raise_reported (r : Raise) (s : State) : s.Reported (s.raise r).1 := by
  unfold State.raise
  split
  · have h : s.Reported (s.onTu fun u => u.enlist (r.entry s.su.beat)) :=
      .onTu _ s (fun _ => Tu.enlist_first _ _) (Tu.enlist_noticeHeld _ _)
    refine h.trans ((State.raiseEffects_reported r _).trans ((State.offerFirstTrip_reported r _).trans ?_))
    exact (State.Reported.onTu _ _ (fun _ => Tu.offerSource_first r _) (Tu.offerSource_noticeHeld r _)).trans
      (State.markChange_reported _)
  · have h : s.Reported (s.onTu fun u => u.onEntry r.key (TripEntry.reraise r)) := .onTu _ s (fun _ => rfl) rfl
    refine h.trans ((State.raiseEffects_reported r _).trans ?_)
    dsimp only
    split
    · exact .refl _
    · exact State.markChange_reported _

theorem State.clearTrip_reported (k : TripKey) (s : State) : s.Reported (s.clearTrip k) := by
  unfold State.clearTrip
  split
  · exact .refl _
  · split
    · exact .refl _
    · have h : s.Reported (s.onTu fun u => u.onEntry k fun x => { x with state := .cleared }) :=
        .onTu _ s (fun _ => rfl) rfl
      exact h.trans ((State.Reported.updateLocalStop _).trans (State.markChange_reported _))

theorem State.orphanTrip_reported (k : TripKey) (s : State) : s.Reported (s.orphanTrip k) := by
  unfold State.orphanTrip
  have h : s.Reported (s.onTu fun u => u.onEntry k fun x => { x with state := .orphaned, quiet := 0 }) :=
    .onTu _ s (fun _ => rfl) rfl
  exact h.trans ((State.Reported.updateLocalStop _).trans (State.markChange_reported _))

theorem State.Reported.ite (b : Prop) [Decidable b] (ht : s.Reported t) (hu : s.Reported u) :
    s.Reported (if b then t else u) := by
  split
  · exact ht
  · exact hu

/-- A fold of steps of the kind is of the kind. -/
theorem State.Reported.foldl {α : Type} (f : State → α → State) (h : ∀ s a, State.Reported s (f s a)) (l : List α)
    (s : State) : s.Reported (l.foldl f s) := by
  induction l generalizing s with
  | nil => exact .refl _
  | cons a l ih => exact (h s a).trans (ih _)

theorem State.orphanWhere_reported (p : Nat → Bool) (s : State) : s.Reported (s.orphanWhere p) :=
  .foldl _ (fun s k => State.orphanTrip_reported k s) _ s

theorem State.Reported.causes (f : List OwnCause → List OwnCause) (s : State) :
    s.Reported (s.onTu fun u => { u with causes := f u.causes }) := .onTu _ s (fun _ => rfl) rfl

theorem State.causeOn_reported (cause detail : Nat) (s : State) : s.Reported (s.causeOn cause detail).1 := by
  unfold State.causeOn
  dsimp only
  split
  · exact State.Reported.causes _ s
  · refine State.Reported.trans ?_ ((State.raise_reported _ _).trans (.ite _ (.offer _ _) (.refl _)))
    exact State.Reported.causes _ s

theorem State.reportLate_reported (late : Bool) (s : State) : s.Reported (s.reportLate late) := by
  unfold State.reportLate
  split
  · exact State.causeOn_reported _ _ _
  · exact .refl _

/-- What a report of a cause being true can do. -/
theorem State.reportTrue_reported (cause detail : Nat) (s : State) : s.Reported (s.reportTrue cause detail) := by
  unfold State.reportTrue
  split
  · exact .refl _
  · exact (State.causeOn_reported _ _ _).trans (State.reportLate_reported _ _)

theorem State.causeOff_reported (cause detail : Nat) (s : State) : s.Reported (s.causeOff cause detail) := by
  unfold State.causeOff
  split
  · exact .refl _
  · rename_i c _
    have h : s.Reported (s.onTu fun u =>
        { u with causes := u.causes.filter fun x => !(x.cause == cause && x.detail == detail) }) :=
      .onTu _ s (fun _ => rfl) rfl
    refine h.trans ?_
    exact .ite _ ((State.clearTrip_reported _ _).trans (.ite _ (.offer _ _) (.refl _))) (.refl _)

/-- What a report of a cause being false can do. -/
theorem State.reportFalse_reported (cause detail : Nat) (s : State) : s.Reported (s.reportFalse cause detail) := by
  unfold State.reportFalse
  split
  · exact State.causeOff_reported _ _ _
  · exact .refl _

theorem State.report_reported (cause detail : Nat) (b : Bool) (s : State) : s.Reported (s.report cause detail b) := by
  unfold State.report
  split
  · exact State.reportTrue_reported _ _ _
  · exact State.reportFalse_reported _ _ _

theorem State.reportAllFalse_reported (cause : Nat) (p : Nat → Bool) (s : State) :
    s.Reported (s.reportAllFalse cause p) := .foldl _ (fun s _ => State.reportFalse_reported _ _ s) _ s

theorem State.takeRaise_reported (r : Raise) (s : State) : s.Reported (s.takeRaise r) :=
  (State.raise_reported r s).trans (State.reportLate_reported _ _)

theorem State.takeRefresh_reported (r : Raise) (s : State) : s.Reported (s.takeRefresh r) := by
  unfold State.takeRefresh
  split
  · split
    · exact .onTu _ _ (fun _ => rfl) rfl
    · exact State.takeRaise_reported _ _
  · exact State.takeRaise_reported _ _

theorem State.installEntry_reported (e : Entry) (s : State) : s.Reported (s.installEntry e) :=
  (State.Reported.install _ _ _ s).trans (State.reportLate_reported _ _)

/-! ## The causes after a report (R134) -/

theorem insertCause_mem (c x : OwnCause) (l : List OwnCause) : x ∈ insertCause c l ↔ x = c ∨ x ∈ l := by
  induction l with
  | nil => simp [insertCause]
  | cons y ys ih =>
    unfold insertCause
    split
    · simp
    · simp only [List.mem_cons, ih]
      constructor
      · rintro (h | h | h)
        · exact .inr (.inl h)
        · exact .inl h
        · exact .inr (.inr h)
      · rintro (h | h | h)
        · exact .inr (.inl h)
        · exact .inl h
        · exact .inr (.inr h)

@[simp] theorem State.postNotice_causes (s : State) : s.postNotice.tu.causes = s.tu.causes := by
  simp [State.postNotice]

@[simp] theorem State.markChange_causes (s : State) : s.markChange.tu.causes = s.tu.causes := by
  unfold State.markChange
  split <;> simp

@[simp] theorem State.torqueOffAll_tu (r : AxisReason) (s : State) : (s.torqueOffAll r).tu = s.tu := by
  have h (i : Fin 4) (s : State) : (s.enterTorqueOff r i).tu = s.tu := by
    unfold State.enterTorqueOff
    split
    · simp [State.changeAxis, State.axisEvent, State.onAxis]
    · rfl
  simp [State.torqueOffAll, State.eachAxis, h]

/-- The effects of a raise leave the Trip Unit alone (R146). -/
@[simp] theorem State.raiseEffects_tu (r : Raise) (s : State) : (s.raiseEffects r).1.tu = s.tu := by
  unfold State.raiseEffects
  dsimp only [State.updateLocalStop, State.onAu]
  split <;> split <;> simp [State.submitStop]

theorem Tu.offerSource_causes (r : Raise) (u : Tu) : (u.offerSource r).causes = u.causes := by
  unfold Tu.offerSource; split <;> rfl

theorem Tu.enlist_causes (e : TripEntry) (u : Tu) : (u.enlist e).causes = u.causes := by
  unfold Tu.enlist; split <;> rfl

@[simp] theorem State.raise_causes (r : Raise) (s : State) : (s.raise r).1.tu.causes = s.tu.causes := by
  unfold State.raise
  split
  · simp only [State.markChange_causes, State.onTu_tu, Tu.offerSource_causes, State.offerFirstTrip]
    split <;> simp [Tu.enlist_causes]
  · dsimp only
    split <;> simp [Tu.onEntry]

@[simp] theorem State.offer_tu (f : LaneFrame) (s : State) : (s.offer f).tu = s.tu := by rw [State.offer_eq]

/-- A cause that becomes true joins the causes, and no other leaves or joins. -/
theorem State.causeOn_true (cause detail c d : Nat) (s : State) :
    (s.causeOn cause detail).1.causeTrue c d = (s.causeTrue c d || (c == cause && d == detail)) := by
  have key (l : List OwnCause) (x : OwnCause) :
      (insertCause x l).any (fun y => y.cause == c && y.detail == d) =
        (l.any (fun y => y.cause == c && y.detail == d) || (x.cause == c && x.detail == d)) := by
    rw [Bool.eq_iff_iff]
    simp only [List.any_eq_true, insertCause_mem, Bool.or_eq_true]
    constructor
    · rintro ⟨y, rfl | h, k⟩
      · exact .inr k
      · exact .inl ⟨y, h, k⟩
    · rintro (⟨y, h, k⟩ | k)
      · exact ⟨y, .inr h, k⟩
      · exact ⟨x, .inl rfl, k⟩
  rw [Bool.beq_comm (a := c), Bool.beq_comm (a := d)]
  unfold State.causeOn State.causeTrue
  dsimp only
  split
  · simp only [State.onTu_tu, key]
  · split <;> simp only [State.offer_tu, State.raise_causes, State.onTu_tu, key]

theorem State.reportLate_true (late : Bool) (c d : Nat) (s : State) (h : (c, d) ≠ (12, 0)) :
    (s.reportLate late).causeTrue c d = s.causeTrue c d := by
  unfold State.reportLate
  split
  · rw [State.causeOn_true]
    have : (c == 12 && d == 0) = false := by
      rw [Bool.eq_false_iff]; intro k; simp at k; exact h (by rw [k.1, k.2])
    rw [this, Bool.or_false]
  · rfl

/-- A cause reported true is true. -/
theorem State.reportTrue_true (cause detail : Nat) (s : State) : (s.reportTrue cause detail).causeTrue cause detail := by
  unfold State.reportTrue
  split
  · assumption
  · dsimp only
    by_cases h : (cause, detail) = (12, 0)
    · unfold State.reportLate
      split <;> simp [State.causeOn_true]
    · rw [State.reportLate_true _ _ _ _ h, State.causeOn_true]; simp

/-- Other causes than the one reported, and than lateness, stay as they are. -/
theorem State.reportTrue_other (cause detail c d : Nat) (s : State) (h : (c, d) ≠ (cause, detail)) (k : (c, d) ≠ (12, 0)) :
    (s.reportTrue cause detail).causeTrue c d = s.causeTrue c d := by
  unfold State.reportTrue
  split
  · rfl
  · dsimp only
    rw [State.reportLate_true _ _ _ _ k, State.causeOn_true]
    have : (c == cause && d == detail) = false := by
      rw [Bool.eq_false_iff]; intro x; simp at x; exact h (by rw [x.1, x.2])
    rw [this, Bool.or_false]

@[simp] theorem State.clearTrip_causes (k : TripKey) (s : State) : (s.clearTrip k).tu.causes = s.tu.causes := by
  unfold State.clearTrip
  split
  · rfl
  · split
    · rfl
    · rw [State.markChange_causes]; rfl

/-- A cause reported false is false, and no other changes. -/
theorem State.reportFalse_causeTrue (cause detail c d : Nat) (s : State) :
    (s.reportFalse cause detail).causeTrue c d = (s.causeTrue c d && !(c == cause && d == detail)) := by
  have key (l : List OwnCause) :
      (l.filter fun x => !(x.cause == cause && x.detail == detail)).any (fun y => y.cause == c && y.detail == d) =
        (l.any (fun y => y.cause == c && y.detail == d) && !(c == cause && d == detail)) := by
    rw [Bool.eq_iff_iff]
    simp only [List.any_eq_true, List.mem_filter, Bool.and_eq_true, beq_iff_eq, Bool.not_eq_true', Bool.and_eq_false_iff,
      beq_eq_false_iff_ne]
    constructor
    · rintro ⟨y, ⟨h, n⟩, rfl, rfl⟩; exact ⟨⟨y, h, rfl, rfl⟩, n⟩
    · rintro ⟨⟨y, h, rfl, rfl⟩, n⟩; exact ⟨y, ⟨h, n⟩, rfl, rfl⟩
  unfold State.reportFalse
  split
  · unfold State.causeOff
    split
    · rename_i h _ n
      rw [List.find?_eq_none] at n
      obtain ⟨x, hx, hp⟩ := List.any_eq_true.mp h
      exact absurd hp (n x hx)
    · dsimp only
      unfold State.causeTrue
      split
      · split <;> simp only [State.offer_tu, State.clearTrip_causes, State.onTu_tu, key]
      · simp only [State.onTu_tu, key]
  · rename_i h
    rw [Bool.eq_iff_iff]
    simp only [Bool.and_eq_true, Bool.not_eq_true', Bool.and_eq_false_iff, beq_eq_false_iff_ne]
    constructor
    · intro k
      refine ⟨k, ?_⟩
      by_contra n
      simp only [not_or, not_not] at n
      exact h (by rw [← n.1, ← n.2]; exact k)
    · exact fun k => k.1

/-! ## What a beat start made due, and cameras set afresh -/

theorem State.lapseTrip_reported (k : TripKey) (s : State) : s.Reported (s.lapseTrip k) :=
  .ite _ (State.clearTrip_reported k s) (.refl s)

theorem State.endDuplicate_reported (s : State) : s.Reported s.endDuplicate := .ite _ (State.reportFalse_reported 9 1 s) (.refl s)

/-- What setting the cameras afresh can do: it empties the Camera Unit but for its counters, and reports causes 16 and 18. -/
theorem State.freshCameras_reported (s : State) :
    (s.onCu fun u => { u.emptyCache with
      cams := Quad.rep .reset, sweep := none, lastSweep := none, draining := none }).Reported s.freshCameras := by
  unfold State.freshCameras
  exact (State.reportAllFalse_reported 16 _ _).trans (State.reportAllFalse_reported 18 _ _)

/-! ## A configuration that waits for strip writes -/

/-- Where no configuration waits, the end of a strip write sets nothing afresh. -/
@[simp] theorem State.finishConfigure_of_none (h : s.cu.draining = none) : s.finishConfigure = s := by
  simp [State.finishConfigure, h]

/-- A configuration waits while a strip write is in flight. -/
theorem State.finishConfigure_of_writes (h : s.cmp.writesStrips = true) : s.finishConfigure = s := by
  unfold State.finishConfigure
  split
  · exact if_pos h
  · rfl

/-- It takes effect, and CONFIGURE is answered, when none is. -/
theorem State.finishConfigure_of_last {c : Cfg} (h : s.cu.draining = some c) (n : s.cmp.writesStrips = false) :
    s.finishConfigure = (s.configure c).result .normal .done := by
  simp [State.finishConfigure, h, n]

end Sys2Proof.Machine
end

