-- ==== Sys2Proof/Laws/Screen.lean ====
section
/-! SUPPORT. What a commit, a group's test and a change of a group mark can touch, and when they do nothing (R172, R173);
when the entry into ALONE does nothing (R68). -/

namespace Sys2Proof.Machine

/-- From `c` to `d` only entries and fill slots of the Screen Unit changed. -/
def Scu.Committed (c d : Scu) : Prop := d = { c with tiles := d.tiles, fills := d.fills }

theorem Scu.Committed.refl (c : Scu) : c.Committed c := rfl

theorem Scu.Committed.trans {c d e : Scu} (h : c.Committed d) (k : d.Committed e) : c.Committed e := by
  rw [Scu.Committed] at *; rw [h] at k; exact k

/-- A commit touches the entries and the fill slots alone (R172). -/
theorem Scu.commit_committed (now : Nat) (c : Scu) (id : TileId) : c.Committed (c.commit now id) := by
  unfold Scu.commit
  split
  · split <;> rfl
  · rfl

theorem Scu.commits_committed (now : Nat) (ids : List TileId) (c : Scu) : c.Committed (ids.foldl (Scu.commit now) c) := by
  induction ids generalizing c with
  | nil => rfl
  | cons id ids ih => exact (c.commit_committed now id).trans (ih _)

/-- The test of a group touches the entries and the fill slots alone (R173). -/
theorem Scu.testGroup_committed (now publisher group : Nat) (c : Scu) :
    c.Committed (c.testGroup now publisher group) := by
  unfold Scu.testGroup
  dsimp only
  split
  · exact c.commits_committed now _
  · rfl

theorem Scu.slotComplete_committed (now : Nat) (id : TileId) (c : Scu) : c.Committed (c.slotComplete now id) := by
  unfold Scu.slotComplete
  split
  · exact c.commit_committed now id
  · exact c.testGroup_committed now _ _

/-- What a change of a group mark leads to touches the entries and the fill slots alone. -/
theorem Scu.remark_committed (now : Nat) (old : Scu) (id : TileId) (c : Scu) : c.Committed (Scu.remark now old id c) := by
  unfold Scu.remark
  split
  · rfl
  · have h : c.Committed (if c.filled id then c.slotComplete now id else c) := by
      split
      · exact c.slotComplete_committed now id
      · rfl
    dsimp only
    split
    · exact h.trans (Scu.testGroup_committed now _ _ _)
    · exact h

/-- An entry whose mark is as it was leads to nothing. -/
theorem Scu.remark_of_same_mark (now : Nat) (old : Scu) (id : TileId) (c : Scu) (h : c.markOf id = old.markOf id) :
    Scu.remark now old id c = c := if_pos h

/-- A commit leaves an entry without a complete slot, and a slot that is not complete, as they were (R172). -/
theorem Scu.commit_of_unfilled (now : Nat) (c : Scu) (id : TileId) (h : c.filled id = false) : c.commit now id = c := by
  unfold Scu.commit
  split
  · next f hf => rw [if_neg]; simpa [Scu.filled, hf] using h
  · rfl

/-- A group with a member that lacks a complete slot waits (R173). -/
theorem Scu.testGroup_waits (now publisher group : Nat) (c : Scu) (id : TileId) (hm : id ∈ c.members publisher group)
    (hf : c.filled id = false) : c.testGroup now publisher group = c := by
  refine if_neg fun h => ?_
  rw [List.all_eq_true] at h
  simp [h id hm] at hf

/-- Outside FOLLOWING and IN_STEP, and where no entry into ALONE is due, the step does nothing (R68). -/
theorem State.enterAlone_of_not_due (s : State) (h : s.standsAlone = false) : s.enterAlone = s := by
  simp [State.enterAlone, h]

end Sys2Proof.Machine
end

