-- ==== Sys2Proof/WellFormed.lean ====
section
/-! DEFINITION. Which operands of a step the outside can supply at all: the ranges the data book gives them. -/

namespace Sys2Proof

/-- The offsets of the writable words of the target window (R186). -/
def writableOffsets : List Nat := [0x08, 0x10, 0x18, 0x20, 0x28, 0x30, 0x38, 0x3C, 0x40]

/-- The operands of `i` lie in the ranges of the data book: a frame header has 20 bytes (R1), a frame at most 280 bytes,
a touch lies on the display (R176), a trigger number is 8-bit (R98), a drive sequence 8-bit (R91), a window word as wide
as the table of R186 gives it, and a station, key or tile id in its range. -/
def Instr.wf : Instr → Bool
  | .touch _ _ x y => x < 1024 && y < 768
  | .frameHeaderArrival _ header => header.length == 20
  | .frameEndArrival _ body _ => body.length ≤ 260
  | .lightLost _ _ arrived | .symbolLockLost _ _ arrived => arrived.length ≤ 260
  | .transmitBoundary _ arriving => arriving ≤ 280
  | .testBlockReturn _ bytes _ => bytes.length ≤ 64
  | .cameraLine _ _ number _ => number < 256
  | .silenceRemoval station => 1 ≤ station && station ≤ 31
  | .tripLapse origin cause detail => origin ≤ 31 && cause ≤ 21 && detail ≤ 255
  | .driveAnswer _ _ sequence _ _ _ actual => sequence < 256 && actual < 4294967296
  | .groupDeadline _ publisher group => 1 ≤ publisher && publisher ≤ 31 && group < 256
  | .tileProgressTimeout _ publisher page index =>
      1 ≤ publisher && publisher ≤ 31 && page < 64 && index < 768
  | .queueBaseWrite _ _ value => value < 18446744073709551616
  | .queueSizeWrite _ _ word => word < 4294967296
  | .commandTailWrite _ _ value => value < 4294967296
  | .eventHeadWrite _ value => value < 4294967296
  | .windowWriteIgnored _ offset _ => offset < 128 && !writableOffsets.contains offset
  | .coldReset _ | .warmInput _ | .hostLinkLoss _ | .eStopAsserted _ | .eStopReleased _
  | .tripInputChange _ _ _ | .panelStopKey _ _ | .symbolLockGained _
  | .bulkWaitAdmit | .returnWatchExpiry _ | .lightCheckLockTimeout _ | .lightCheckAttemptEnd _
  | .insertionTimeout _ | .leaveTimeout _ | .drainComplete _ | .helloCopy | .shaftCopy | .speedCopy | .tripCopy
  | .correctionCopy | .tileInvalidate | .tileDataFragment | .tileRequestCopy | .touchCopy | .viewRequest | .viewStop
  | .viewRefusal | .viewLine | .tickStart | .triggerDue _ | .triggerTimeout _ _ | .mapEntryReadComplete _ _ _
  | .stripWriteComplete _ _ _ | .beatStart | .enterInStep | .shaftLostStep | .enterAlone | .latenessClear
  | .rosterBeatStart | .enterMember | .foundHistory | .duplicateQuiet | .answerWindowClose _ | .displayFrameStart _
  | .queueRunSet _ _ | .queueRunClear _ _ | .descriptorFetch _ _ | .descriptorReadComplete _ _ _
  | .writebackComplete _ _ _ | .setSpeed | .releaseStop | .raiseHostTrip | .clearHostTrip | .acknowledgeTrips
  | .enableAxis | .disableAxis | .coupleAxis | .decoupleAxis | .jogAxis | .trimAxis | .configure
  | .configReadComplete _ _ | .join | .leave | .warmReset | .readRoster | .readTripTable | .readLineState
  | .readCounters | .imageWriteComplete _ _ | .giveStripBuffer | .invalidateMapCache | .loadMarkTable
  | .markTableReadComplete _ _ | .startRegister | .stopRegister | .rearmRegister | .setPageMap
  | .pageMapReadComplete _ _ | .publishTiles | .publishListReadComplete _ _ | .tileReadComplete _ _ | .openView
  | .closeView | .eventWriteComplete _ _ | .dmaTimeout _ => true

end Sys2Proof
end

