-- ==== Sys2Proof/Tests/Slice0.lean ====
section
/-! SUPPORT. Tests: ill-formed operands, the worked examples of the data book, small steps, and for every statement of the
certificate a state and operands that meet its hypotheses, clause by clause and at the ends of their ranges. -/

set_option Elab.async false

namespace Sys2Proof.Tests

open Sys2Proof Sys2Proof.Machine

/-! ## Ill-formed operands: one for each check of `Instr.wf` -/

theorem test_wf_touch : Instr.wf (.touch 0 true 1024 0) = false ∧ Instr.wf (.touch 0 true 0 768) = false ∧
    Instr.wf (.touch 0 true 1023 767) = true := by decide
theorem test_wf_frameHeaderArrival : Instr.wf (.frameHeaderArrival 0 (fill 19)) = false ∧
    Instr.wf (.frameHeaderArrival 0 (fill 20)) = true := by decide
theorem test_wf_frameEndArrival : Instr.wf (.frameEndArrival 0 (fill 261) .endDelim) = false := by decide +kernel
theorem test_wf_lightLost : Instr.wf (.lightLost 0 false (fill 261)) = false ∧
    Instr.wf (.symbolLockLost 0 false (fill 261)) = false := by decide +kernel
theorem test_wf_transmitBoundary : Instr.wf (.transmitBoundary 0 281) = false := by decide
theorem test_wf_testBlockReturn : Instr.wf (.testBlockReturn 0 (fill 65) true) = false := by decide +kernel
theorem test_wf_cameraLine : Instr.wf (.cameraLine 0 0 256 []) = false := by decide
theorem test_wf_silenceRemoval : Instr.wf (.silenceRemoval 0) = false ∧ Instr.wf (.silenceRemoval 32) = false := by decide
theorem test_wf_tripLapse : Instr.wf (.tripLapse 32 0 0) = false ∧ Instr.wf (.tripLapse 0 22 0) = false ∧
    Instr.wf (.tripLapse 0 0 256) = false := by decide
theorem test_wf_driveAnswer : Instr.wf (.driveAnswer 0 0 256 true true false 0) = false ∧
    Instr.wf (.driveAnswer 0 0 0 true true false 4294967296) = false := by decide
theorem test_wf_groupDeadline : Instr.wf (.groupDeadline 0 0 0) = false ∧ Instr.wf (.groupDeadline 0 32 0) = false ∧
    Instr.wf (.groupDeadline 0 1 256) = false := by decide
theorem test_wf_tileProgressTimeout : Instr.wf (.tileProgressTimeout 0 0 0 0) = false ∧
    Instr.wf (.tileProgressTimeout 0 32 0 0) = false ∧ Instr.wf (.tileProgressTimeout 0 1 64 0) = false ∧
    Instr.wf (.tileProgressTimeout 0 1 0 768) = false := by decide
theorem test_wf_queueWords : Instr.wf (.queueBaseWrite 0 .event 18446744073709551616) = false ∧
    Instr.wf (.queueSizeWrite 0 .event 4294967296) = false ∧
    Instr.wf (.commandTailWrite 0 .urgent 4294967296) = false ∧ Instr.wf (.eventHeadWrite 0 4294967296) = false := by
  decide
theorem test_wf_windowWriteIgnored : Instr.wf (.windowWriteIgnored 0 128 0) = false ∧
    Instr.wf (.windowWriteIgnored 0 0x40 0) = false ∧ Instr.wf (.windowWriteIgnored 0 0x44 0) = true := by decide

/-! ## Small states -/

def axisC : AxisCfg :=
  { n := 3, d := 2, m := 65536, catchUp := 2000, window := 100, jogAccel := 1000, jogDecel := 1000, fastDecel := 2000
    maxSpeed := 6000000, trimStep := 100, followLimit := 10, silentLimit := 3 }

def camC : CamCfg :=
  { width := 64, pitch := 60000, phase := 640, x0 := 0, x1 := 63, decimation := 2, height := 16, w0 := 0, w1 := 9
    webThreshold := 10, breakLength := 5, mapBase := 0x100000, m0 := 0, m1 := 15, markThreshold := 35, minWeight := 50
    missingLimit := 3, toleranceCount := 3, minSpeed := 0 }

/-- Station 12, a shaft member with speed authority, station 3 required, axis 0, camera 0 and a screen present. -/
def cfgC : Cfg :=
  { station := 12, shaftMember := true, speedAuthority := true, repeats := 32, required := 8, hopDelay := 1800
    laneMap := 0x1E, exclusion := 50000, lead := 4, maxSpeed := 6000000, normalRate := 1000, fastRate := 40960
    causeMap := defaultCauseMap, axes := ⟨some axisC, none, none, none⟩, cams := ⟨some camC, none, none, none⟩
    screen := true }

/-- A peer's slot. -/
def peer (link : LinkState) (silence : Nat) (required : Bool) (exclusions : Nat) : RosterSlot :=
  { present := true, link := link, shaftMember := true, speedAuthority := true, stamp := 77, step := .inStep, founder := 12
    distance := 2, silence := silence, required := required, view := .valid, exclusions := exclusions }

/-- Configured and out of the ring, the event queue running and empty. -/
def parked : State :=
  { State.cold 5000 { Pins.released with light := true, lock := true } [] with
    cfg := some cfgC
    au := { Au.reset cfgC.axes with localStop := .none }
    cmp :=
      { Cmp.reset with
        urgent := { CmdQ.reset with size := 8, run := true, base := 64 }
        normal := { CmdQ.reset with size := 16, run := true, base := 1024 }
        event := { EvQ.reset with size := 64, run := true, base := 4096 } } }

/-- A MEMBER in IN_STEP at beat 5 with station 3 beside it. -/
def ring : State :=
  { parked with
    mc := { parked.mc with link := .member, joinStamp := 9, roster := (emptyRoster 8).set 2 (peer .member 0 true 0) }
    su := { parked.su with step := .inStep, founder := 12, beat := 5 } }

def ring.mc' (f : Mc → Mc) : State := ring.onMc f
def ring.su' (f : Su → Su) : State := ring.onSu f
def ring.rp' (f : Rp → Rp) : State := ring.onRp f
def ring.tu' (f : Tu → Tu) : State := ring.onTu f
def ring.cmp' (f : Cmp → Cmp) : State := ring.onCmp f
def ring.scu' (f : Scu → Scu) : State := ring.onScu f
def ring.link (l : LinkState) : State := ring.onMc fun m => { m with link := l }
def ring.axis0 (f : Axis → Axis) : State := ring.onAu fun a => { a with axes := a.axes.modify 0 f }
def ring.cam0 (f : Cam → Cam) : State := ring.onCu fun c => { c with cams := c.cams.modify 0 f }
def ring.loop0 (f : Loop → Loop) : State := ring.onMu fun m => { m with loops := m.loops.modify 0 f }

/-- With a command taken and not yet executed. -/
def takes (q : CmdQueue) (c : HostCmd) (s : State) : State :=
  s.onCmp fun p => p.setQ q { p.q q with inFlight := some ⟨2, c, .taken⟩ }

/-- With a command of the normal queue waiting for DMA, and a transfer in flight. -/
def awaits (c : HostCmd) (x : Transfer) (s : State) : State :=
  s.onCmp fun p => { p with normal := { p.normal with inFlight := some ⟨2, c, .working⟩ }, dma := [x] }

/-- With transfers in flight. -/
def flying (l : List Transfer) (s : State) : State := s.onCmp fun p => { p with dma := l }

def xfer (p : Purpose) (u : DmaUnit) : Transfer := ⟨p, u, 4096, 64, [], 5000, none⟩

/-- The state after a step; the state before where the step gives none. -/
def after (i : Instr) (s : State) : State :=
  match exec i s with
  | .next u => u
  | .fault _ => s
  | .refused _ => s

/-- The header of a frame as it reaches a station, `hop` stations from its origin, 300 ns old. -/
def hdr (k : Kind) (origin dest hop len : Nat) : List Byte :=
  rewriteHeader (launchHeader (wholeFrame k dest (fill len)) origin 5 0 0) hop 300

/-- A copy of a message. -/
def cop (k : Kind) (origin : Nat) (p : List Byte) : Copy := ⟨hdr k origin 0 2 p.length, p, 5000⟩

/-- The bytes after a header: the payload and its check bytes. -/
def bodyOf (h p : List Byte) : List Byte := p ++ le 4 (frameCrc h p)

/-! ## Witnesses: queue, resets, inputs -/

theorem witness_StepRunsFront : ({ ring with pending := [.tickStart, .beatStart] }).pending = .tickStart :: [.beatStart] ∧
    State.reset.pending = [] := by decide +kernel

def warmS : State :=
  { ring with
    pins := { ring.pins with eStop := true, guard := true, ext := ⟨true, true, true, true⟩, stopKey := true }
    su := { ring.su with inTick := true }, tu := { ring.tu with first := some default } }

theorem witness_ResetSteps : warmS.pins.eStop = true ∧ warmS.pins.guard = true ∧
    (∀ n : Fin 4, warmS.pins.ext.get n = true) ∧ warmS.pins.stopKey = true ∧ warmS.su.inTick = true ∧
    warmS.tu.first.isSome = true ∧
    (ring.pins.eStop = false ∧ ring.pins.guard = false ∧ (∀ n : Fin 4, ring.pins.ext.get n = false) ∧
      ring.pins.stopKey = false ∧ ring.cmp.normal.warmWriting = false) := by decide +kernel

theorem witness_HostLinkLoss : warmS.tu.first.isSome = true := by decide +kernel

theorem witness_CabinetInputs : ring.pins.eStop = false ∧ warmS.pins.eStop = true ∧
    ring.pins.trip .guard ≠ true ∧ ring.pins.trip (.ext 3) ≠ true ∧ warmS.pins.trip .guard = true ∧
    ring.pins.stopKey ≠ true ∧ warmS.pins.stopKey ≠ false ∧ warmS.pins.stopKey = true := by decide +kernel

def insetAt (pos : Nat) : ViewSlot :=
  { ViewSlot.reset with state := .opened, station := 3, cam := 1, k := 2, position := pos, w := 2, h := 2 }

def touchS (l : LinkState) (c : Content) : State :=
  (ring.link l).onScu fun u => { u with pageMap := u.pageMap.set 767 c, view0 := insetAt (22 * 32 + 30), view1 := .reset }

theorem witness_TouchRouted : State.reset.screen = false ∧ ring.screen = true ∧
    ring.scu.pageMap.getD (767 / 32 * 32 + 1023 / 32) .blank = .blank ∧
    ((touchS .member (.tile ⟨12, 63, 767⟩)).scu.pageMap.getD (767 / 32 * 32 + 1023 / 32) .blank = .tile ⟨12, 63, 767⟩ ∧
      12 = (touchS .member (.tile ⟨12, 63, 767⟩)).ownStation) ∧
    ((touchS .member (.tile ⟨3, 63, 767⟩)).scu.pageMap.getD (767 / 32 * 32 + 1023 / 32) .blank = .tile ⟨3, 63, 767⟩ ∧
      3 ≠ (touchS .member (.tile ⟨3, 63, 767⟩)).ownStation ∧
      (touchS .member (.tile ⟨3, 63, 767⟩)).mc.link.inRing = true) ∧
    ((touchS .dark (.tile ⟨3, 63, 767⟩)).scu.pageMap.getD 767 .blank = .tile ⟨3, 63, 767⟩ ∧
      3 ≠ (touchS .dark (.tile ⟨3, 63, 767⟩)).ownStation ∧
      (touchS .dark (.tile ⟨3, 63, 767⟩)).mc.link.inRing = false) ∧
    ((touchS .member (.inset 0)).scu.pageMap.getD 767 .blank = .inset 0 ∧
      ((touchS .member (.inset 0)).scu.view 0).shows 767 = true) ∧
    ((touchS .member (.inset 1)).scu.pageMap.getD 767 .blank = .inset 1 ∧
      ((touchS .member (.inset 1)).scu.view 1).shows 767 = false) := by
  refine ⟨?_, ?_, ?_, ?_, ?_, ?_, ?_, ?_⟩ <;> decide +kernel

/-! ## Witnesses: the ring -/

/-- A Hello of station 3 in reception, its 8 payload bytes behind the header, joined to the pass buffer. -/
def helloH : List Byte := hdr .hello 3 0 2 8
def helloP : List Byte := helloPayload ⟨.member, true, true, .inStep, 12, 77⟩
def tripH : List Byte := hdr .trip 12 0 2 12

def receiving (h : List Byte) (fate : RxFate) : State :=
  ring.rp' fun r => { r with rx := some ⟨h, 4000, fate⟩, pass := [⟨h, [], 4000, false, none⟩] }

def unlocked (s : State) : State := { s with pins := { s.pins with lock := false } }

theorem witness_LightAndLock :
    (receiving helloH .forwarded).pins.light = true ∧ (receiving helloH .forwarded).pins.lock = true ∧
    (receiving helloH .forwarded).mc.link.inRing = true ∧
    (receiving helloH .forwarded).rp.rx = some ⟨helloH, 4000, .forwarded⟩ ∧ ring.rp.rx = none ∧
    (ring.mc' fun m => { m with link := .lightCheck, check := ⟨0, some 4000, 31, 0⟩ }).repeats = 32 ∧ 31 < 32 ∧
    State.reset.pins.light = false ∧ State.reset.pins.lock = false ∧
    ((unlocked (ring.mc' fun m => { m with link := .lightCheck })).mc.link = .lightCheck ∧
      (unlocked (ring.mc' fun m => { m with link := .lightCheck })).mc.check.lockAt = none ∧
      (unlocked (ring.link .lightCheck)).pins.lock = false) ∧
    ((unlocked (ring.link .inserting)).mc.link = .inserting ∧ (unlocked (ring.link .inserting)).pins.lock = false) ∧
    ((unlocked ring).mc.link.inRing = true ∧ (unlocked ring).pins.lock = false) ∧
    State.reset.mc.link.isOut = true := by decide +kernel

/-- Header bytes whose check does not match. -/
def brokenH : List Byte := helloH.set 5 0xFF

theorem witness_HeaderArrival : ring.mc.link.receives = true ∧ ring.pins.lock = true ∧
    (parseHeader tripH).origin = ring.ownStation ∧
    ((parseHeader (hdr .hello 3 0 31 8)).origin ≠ ring.ownStation ∧ headerCheckOk (hdr .hello 3 0 31 8) = true ∧
      (parseHeader (hdr .hello 3 0 31 8)).hop = 31) ∧
    ((parseHeader (hdr .hello 3 0 30 8)).origin ≠ ring.ownStation ∧ (parseHeader (hdr .hello 3 0 30 8)).hop ≠ 31) ∧
    headerCheckOk brokenH = false ∧ State.reset.mc.link.receives = false ∧ (unlocked ring).pins.lock = false := by
  decide +kernel

/-- R12: a frame forwarded for its length alone goes out with hop count 31, and the next station strips it as an orphan. -/
theorem test_orphan_long : headerFailure (hdr .hello 3 0 31 257) = true ∧
    (after (.frameHeaderArrival 4000 (hdr .hello 3 0 31 257)) ring).rp.orphans = 1 ∧
    (after (.frameHeaderArrival 4000 (hdr .hello 3 0 31 257)) ring).rp.pass = [] ∧
    (after (.frameHeaderArrival 4000 (hdr .hello 3 0 30 257)) ring).rp.pass.map (·.headerFailed) = [true] := by decide +kernel

theorem witness_FrameEnd :
    State.reset.mc.link.receives = false ∧ (unlocked ring).pins.lock = false ∧
    ((receiving helloH .forwarded).mc.link.receives = true ∧ (receiving helloH .forwarded).pins.lock = true ∧
      (receiving helloH .forwarded).rp.rx = some ⟨helloH, 4000, .forwarded⟩ ∧
      tailGood helloH (bodyOf helloH helloP) .endDelim = true ∧ kindOfCode (parseHeader helloH).kindCode = some .hello) ∧
    (tailGood helloH (bodyOf helloH helloP) .abortDelim = false ∧ headerFailure helloH = false ∧
      tailGood brokenH (bodyOf brokenH helloP) .endDelim = false ∧ headerFailure brokenH = true ∧
      tailGood helloH (bodyOf helloH (fill 8)) .endDelim = true ∧ tailGood helloH (fill 12) .endDelim = false) ∧
    tailGood tripH (fill 16) .endDelim = false ∧ FrameEnding.endDelim ≠ .abortDelim ∧
    ((receiving tripH .ownOrigin).rp.rx = some ⟨tripH, 4000, .ownOrigin⟩ ∧
      tailGood tripH (bodyOf tripH (fill 12)) .endDelim = true ∧
      (receiving tripH .ownOrigin).laneOf (parseHeader tripH).cls = .urgent ∧
      (receiving tripH .ownOrigin).rp.watches (parseHeader tripH).sequence = false ∧
      ((receiving tripH .ownOrigin).onRp fun r => { r with watch := [⟨5, 0⟩] }).rp.watches (parseHeader tripH).sequence =
        true ∧ (parseHeader tripH).kindCode ≠ Kind.hello.code) ∧
    ((receiving (hdr .tileControl 12 0 2 8) .ownOrigin).laneOf (parseHeader (hdr .tileControl 12 0 2 8)).cls = .bulk ∧
      tailGood (hdr .tileControl 12 0 2 8) (bodyOf (hdr .tileControl 12 0 2 8) (fill 8)) .endDelim = true) ∧
    ((parseHeader (hdr .hello 12 0 2 8)).kindCode = Kind.hello.code ∧
      tailGood (hdr .hello 12 0 2 8) (bodyOf (hdr .hello 12 0 2 8) helloP) .endDelim = true) ∧
    (receiving helloH .orphan).rp.rx = some ⟨helloH, 4000, .orphan⟩ ∧
    (ring.rp.rx = none ∧ ring.mc.link.receives = true ∧ ring.pins.lock = true) ∧
    15 ≤ (ring.rp' fun r => { r with errWindow := 15 }).rp.errWindow ∧
    ((receiving helloH .forwarded).rp.errWindow < 15 ∧ ring.rp.errWindow < 15 ∧
      (after (.frameEndArrival 0 (fill 12) .endDelim)
        ((receiving helloH .forwarded).onRp fun r => { r with errWindow := 15 })).causeTrue 9 0 = true ∧
      (after (.frameEndArrival 0 (fill 12) .endDelim)
        ((receiving helloH .forwarded).onRp fun r => { r with errWindow := 14 })).causeTrue 9 0 = false) := by
  refine ⟨?_, ?_, ?_, ?_, ?_, ?_, ?_, ?_, ?_, ?_, ?_, ?_, ?_⟩ <;> decide +kernel

def hello0 : LaneFrame := wholeFrame .hello 0 helloP
def passF : PassFrame := ⟨helloH, fill 12, 4000, false, some .endDelim⟩

/-- Frames wait in the urgent lane, the pass buffer and the bulk lane. -/
def sending (urgent bulk : List LaneFrame) (pass : List PassFrame) (watch : List WatchEntry) : State :=
  ring.rp' fun r => { r with urgent := urgent, bulk := bulk, pass := pass, watch := watch }

def lockedAt (l : Option Nat) : State :=
  ring.mc' fun m => { m with link := .lightCheck, attempt := 1, check := ⟨0, l, 0, 0⟩ }

/-- A Shaft frame of a beat that started at 4000. -/
def shaft0 : LaneFrame := { kind := .shaft, dest := 0, fragIndex := 0, fragCount := 1, payload := fill 32, beatStart := 4000 }

theorem witness_launchTimes : hello0.kind ≠ .shaft ∧ shaft0.kind = .shaft ∧ ((69535 : Nat) : Int) - shaft0.beatStart ≤ 65535 ∧
    65535 < ((69536 : Nat) : Int) - shaft0.beatStart ∧ launchTimes shaft0 69535 = (65535, 0) ∧
    launchTimes shaft0 69536 = (65535, 65535) ∧ launchTimes shaft0 4001 = (1, 0) := by decide +kernel

theorem witness_TransmitChoice :
    (ring.rp' fun r => { r with tx := .forward { passF with closing := none } }).rp.atBoundary = false ∧
    ((sending [hello0] [] [] []).rp.atBoundary = true ∧ (sending [hello0] [] [] []).mc.link.inRing = true ∧
      (sending [hello0] [] [] []).rp.urgent = [hello0] ∧ (sending [hello0] [] [] []).rp.fillLevel 744 ≤ 744 ∧
      (sending [hello0] [] [] []).rp.watches 0 = false ∧
      (sending [hello0] [] [] [⟨0, 3⟩]).rp.watches (sending [hello0] [] [] [⟨0, 3⟩]).rp.seq = true ∧
      (sending [hello0] [] [] [⟨0, 3⟩]).rp.watch.length ≤ 16) ∧
    ((sending [] [] [passF] []).rp.pass = [passF] ∧ (sending [] [] [passF] []).rp.urgent = [] ∧
      (sending [hello0] [] [passF] []).rp.pass = [passF] ∧ 744 < (sending [hello0] [] [passF] []).rp.fillLevel 713 ∧
      ((sending [] [] [passF] []).onMc fun m => { m with link := .inserting }).mc.link = .inserting) ∧
    ((sending [] [hello0] [] []).rp.bulk = [hello0] ∧ (sending [] [hello0] [] []).rp.urgent = [] ∧
      (sending [] [hello0] [] []).rp.pass = [] ∧ (sending [] [hello0] [] []).rp.fillLevel 0 = 0) ∧
    (State.reset.mc.link.receives = false ∧ ring.rp.pass = [] ∧ ring.rp.urgent = [] ∧ ring.rp.bulk = [] ∧
      (sending [] [hello0] [] []).rp.fillLevel 1 ≠ 0 ∧ (sending [hello0] [] [] []).rp.urgent ≠ [] ∧
      744 < (sending [hello0] [] [] []).rp.fillLevel 745 ∧ (ring.link .inserting).rp.pass = [] ∧
      (ring.link .inserting).mc.link = .inserting) ∧
    ((lockedAt (some 4000)).rp.atBoundary = true ∧ (lockedAt (some 4000)).mc.link = .lightCheck ∧
      (lockedAt (some 4000)).mc.check.lockAt = some 4000 ∧ (lockedAt none).mc.check.lockAt = none ∧
      (22879 - 4000) / 592 = 31 ∧ (22879 - 4000) % 592 = 527 ∧ (lockedAt none).repeats = 32) := by
  refine ⟨?_, ?_, ?_, ?_, ?_, ?_⟩ <;> decide +kernel

def bulk31 : List LaneFrame := List.replicate 31 hello0
def waiting (c : List Nat) (held : List LaneFrame) (send : List LaneFrame) : State :=
  (ring.rp' fun r => { r with bulk := bulk31, waitList := c, held := held }).onMu fun m => { m with sendList := send }
def corrF : LaneFrame := wholeFrame .correction 3 (correctionPayload 0 5)
def tileF : LaneFrame := wholeFrame .tileData 0 (fill 136)

theorem witness_WaitingAndWatch :
    ring.rp.waitList = [] ∧ 32 ≤ (ring.rp' fun r => { r with bulk := hello0 :: bulk31 }).rp.bulk.length ∧
    ((waiting [6] [tileF] []).rp.bulk.length < 32 ∧ (waiting [6] [tileF] []).rp.waitList = [6] ∧
      ((waiting [6] [tileF] []).rp.held.filter fun x => x.cls == 6) = [tileF] ∧ (waiting [6] [tileF] []).scu.pub = none) ∧
    ((waiting [6] [tileF, tileF] []).rp.held.filter fun x => x.cls == 6) = [tileF, tileF] ∧
    ((waiting [4] [] [corrF, corrF]).rp.bulk.length < 32 ∧ (waiting [4] [] [corrF, corrF]).rp.waitList = [4] ∧
      (waiting [4] [] [corrF, corrF]).mu.sendList = [corrF, corrF] ∧ corrF.kind = .correction) ∧
    (waiting [4] [] [corrF]).mu.sendList = [corrF] ∧
    ((sending [] [] [] [⟨7, 5000⟩]).rp.watch = [⟨7, 5000⟩] ∧ 5000 + 2000000 ≤ max (sending [] [] [] [⟨7, 5000⟩]).now 2005000 ∧
      max (sending [] [] [] [⟨7, 5000⟩]).now 2004999 < 5000 + 2000000) ∧
    2 ≤ (ring.rp' fun r => { r with consecMissing := 2, watch := [⟨7, 5000⟩] }).rp.consecMissing ∧ ring.rp.watch = [] := by
  refine ⟨?_, ?_, ?_, ?_, ?_, ?_, ?_, ?_, ?_⟩ <;> decide +kernel

/-! ## Witnesses: membership -/

def checkS (attempt : Nat) (c : LightCheck) : State := ring.mc' fun m => { m with link := .lightCheck, attempt := attempt, check := c }

theorem witness_LightCheckOutcome :
    ((checkS 1 ⟨0, some 4000, 31, 0⟩).mc.link = .lightCheck ∧ (checkS 1 ⟨0, some 4000, 31, 0⟩).pins.lock = true ∧
      (checkS 1 ⟨0, some 4000, 31, 0⟩).mc.check.lockAt = some 4000 ∧
      (checkS 1 ⟨0, some 4000, 31, 0⟩).mc.check.returned < (checkS 1 ⟨0, some 4000, 31, 0⟩).repeats ∧
      max (checkS 1 ⟨0, some 4000, 31, 0⟩).now (4000 + checkTime 32) ≤ 4000 + checkTime 32 ∧
      ¬max (checkS 1 ⟨0, some 4000, 31, 0⟩).now (4001 + checkTime 32) ≤ 4000 + checkTime 32) ∧
    (ring.mc.link ≠ .lightCheck ∧ (unlocked ring).pins.lock = false ∧ (checkS 1 ⟨0, none, 0, 0⟩).mc.check.lockAt = none ∧
      (checkS 1 ⟨0, some 4000, 32, 0⟩).repeats ≤ (checkS 1 ⟨0, some 4000, 32, 0⟩).mc.check.returned) ∧
    ((checkS 3 ⟨5000, none, 0, 0⟩).mc.check.lockAt = none ∧ (checkS 3 ⟨5000, none, 0, 0⟩).rp.rx = none ∧
      (checkS 3 ⟨5000, none, 0, 0⟩).mc.check.start + 1000000 ≤ max (checkS 3 ⟨5000, none, 0, 0⟩).now 1005000 ∧
      (checkS 3 ⟨5000, none, 0, 0⟩).repeats = 32 ∧ 32 ≠ 0 ∧ 3 ≤ (checkS 3 ⟨5000, none, 0, 0⟩).mc.attempt) ∧
    ((checkS 2 ⟨0, some 4000, 32, 0⟩).mc.check.returned = (checkS 2 ⟨0, some 4000, 32, 0⟩).repeats ∧
      (checkS 2 ⟨0, some 4000, 32, 0⟩).mc.check.errors + (32 - 32) = 0) ∧
    (4000 + checkTime (checkS 2 ⟨0, some 4000, 31, 0⟩).repeats ≤ max (checkS 2 ⟨0, some 4000, 31, 0⟩).now (4000 + checkTime 32) ∧
      (checkS 2 ⟨0, some 4000, 31, 0⟩).mc.check.errors + (32 - 31) ≠ 0 ∧
      (checkS 2 ⟨0, some 4000, 31, 0⟩).mc.attempt < 3) := by
  refine ⟨?_, ?_, ?_, ?_, ?_⟩ <;> decide +kernel

def timed (l : LinkState) (d : Option Nat) : State := ring.mc' fun m => { m with link := l, insTimer := d, leaveTimer := d }

theorem witness_RingLeft :
    ((timed .inserting (some 5000)).mc.link = .inserting ∧ (timed .inserting (some 5000)).mc.insTimer = some 5000 ∧
      5000 ≤ max (timed .inserting (some 5000)).now 0) ∧
    ((timed .leaving (some 5000)).mc.link = .leaving ∧ (timed .leaving (some 5000)).mc.leaveTimer = some 5000) ∧
    (timed .leaving none).rp.drained = true ∧ ring.mc.link ≠ .inserting ∧ ring.mc.link ≠ .leaving ∧
    (timed .inserting none).mc.insTimer = none ∧ (timed .leaving none).mc.leaveTimer = none ∧
    max (timed .inserting (some 5001)).now 0 < 5001 ∧ (sending [hello0] [] [] []).rp.drained = false := by
  decide +kernel

def helloC (origin : Nat) (m : HelloMsg) : Copy := cop .hello origin (helloPayload m)
def msgH (l : LinkState) (stamp : Nat) : HelloMsg := ⟨l, true, false, .inStep, 12, stamp⟩
def hearing (origin : Nat) (m : HelloMsg) (s : State) : State := { s with inMc := [helloC origin m] }

theorem witness_HelloCopies :
    ring.inMc = [] ∧ parseHello (cop .hello 3 (fill 7)).payload = none ∧
    (parseHello (helloC 3 (msgH .member 77)).payload = some (msgH .member 77) ∧
      (hearing 3 (msgH .member 77) parked).mc.link.inRing = false) ∧
    ((parseHeader (helloC 3 (msgH .member 77)).header).origin = 3 ∧ 3 ≠ ring.ownStation ∧ ring.mc.link.inRing = true ∧
      ring.slot 3 = some (peer .member 0 true 0) ∧ (peer .member 0 true 0).present = true ∧
      (msgH .member 77).stamp = (peer .member 0 true 0).stamp ∧
      (msgH .member 77).speedAuthority ≠ (peer .member 0 true 0).speedAuthority) ∧
    ((parseHeader (helloC 31 (msgH .listen 1)).header).origin = 31 ∧ ring.slot 31 = some (.absent false) ∧
      (RosterSlot.absent false).present = false ∧ (msgH .listen 1).link = .listen) ∧
    (parseHello (helloC 3 (msgH .listen 78)).payload = some (msgH .listen 78) ∧ (msgH .listen 78).stamp ≠ 77 ∧
      (peer .member 0 true 0).silence ≠ 4 ∧
      (ring.onMc fun m => { m with roster := m.roster.set 2 (peer .member 4 true 0) }).slot 3 =
        some (peer .member 4 true 0) ∧ (peer .member 4 true 0).silence = 4 ∧ LinkState.inserting ≠ .listen ∧
      LinkState.inserting ≠ .member ∧ LinkState.inserting ≠ .leaving) ∧
    (parseHello (helloC 3 (msgH .member 78)).payload = some (msgH .member 78)) ∧
    (parseHello (helloC 3 (msgH .leaving 77)).payload = some (msgH .leaving 77)) ∧
    ((msgH .inserting 1).link ≠ .listen ∧ (msgH .inserting 1).link ≠ .member ∧
      parseHello (helloC 31 (msgH .inserting 1)).payload = some (msgH .inserting 1)) ∧
    ((parseHeader (helloC 12 (msgH .member 9)).header).origin = ring.ownStation ∧ (msgH .member 9).stamp = ring.mc.joinStamp ∧
      ring.slot ring.ownStation = some (.absent false)) ∧
    ((msgH .member 10).stamp ≠ ring.mc.joinStamp ∧ (ring.link .listen).mc.link = .listen ∧ ring.mc.link = .member ∧
      (ring.link .leaving).mc.link = .leaving) := by
  refine ⟨?_, ?_, ?_, ?_, ?_, ?_, ?_, ?_, ?_, ?_, ?_⟩ <;> decide +kernel

def tripE (origin cause detail : Nat) (c : Category) (sc : Scope) (st : TripState) (quiet : Nat) : TripEntry :=
  { key := ⟨origin, cause, detail⟩, category := c, scope := sc, state := st, firstSeen := 5, refresh := 0, quiet := quiet }

def beatS : State :=
  { ring with
    su := { ring.su with rosterDue := true }
    tu := { ring.tu with causes := [⟨9, 0, 0, 0⟩, ⟨9, 1, 0, 0⟩], table := [tripE 3 1 0 .warn .ring .active 5] } }

/-- The kinds of the frames in the urgent lane. -/
def laneKinds (s : State) : List Kind := s.rp.urgent.map (·.kind)

/-- R34, R149, R183: cause 9 ends, and the Hello, the refresh of cause 9 detail 1 and the request of an inset are offered. -/
def refreshS : State :=
  ({ beatS with
    tu := { ring.tu with causes := [⟨9, 0, 0, 0⟩, ⟨9, 1, 0, 0⟩], table := [tripE 12 9 1 .fastStop .ring .active 0] }
    rp := { ring.rp with errWindow := 1 } }).onScu fun u => { u with view0 := { insetAt 0 with state := .requested } }

theorem witness_RosterBeat_frames :
    (refreshS.su.rosterDue = true ∧ refreshS.mc.link = .member ∧ laneKinds (after .rosterBeatStart refreshS) =
        [.hello, .trip, .trip] ∧ (after .rosterBeatStart refreshS).rp.bulk.map (·.dest) = [3] ∧
      (refreshS.scu.view 0).state = .requested ∧ (refreshS.scu.view 0).station ≠ refreshS.ownStation) ∧
    (refreshS.tu.entry ⟨12, 9, 1⟩ = some (tripE 12 9 1 .fastStop .ring .active 0) ∧ 12 = refreshS.ownStation ∧
      ¬(refreshS.rp.errWindow = 0 ∧ 9 = 9 ∧ 1 = 0) ∧
      ((after .rosterBeatStart refreshS).tu.entry ⟨12, 9, 1⟩).map (·.refresh) = some 1) ∧
    (laneKinds (after .rosterBeatStart { refreshS with rp := ring.rp }) = [.trip, .hello, .trip] ∧
      laneKinds (after .rosterBeatStart (refreshS.onMc fun m => { m with link := .leaving })) = [.trip, .trip] ∧
      (refreshS.onMc fun m => { m with link := .dark }).mc.link.inRing = false) ∧
    (1 + 1 < 3 ∧ (refreshS.onMc fun m => { m with link := .listen, listen := 1 }).mc.listen = 1 ∧
      laneKinds (after .rosterBeatStart (refreshS.onMc fun m => { m with link := .listen, listen := 1 })) = [.hello] ∧
      3 ≤ 2 + 1 ∧ laneKinds (after .rosterBeatStart (refreshS.onMc fun m => { m with link := .listen, listen := 2 })) = []) := by
  refine ⟨?_, ?_, ?_, ?_⟩ <;> decide +kernel

theorem witness_RosterBeat : ring.su.rosterDue = false ∧ beatS.su.rosterDue = true ∧ beatS.rp.errWindow = 0 ∧
    (beatS.onMc fun m => { m with link := .listen }).mc.link = .listen ∧ beatS.mc.link = .member ∧ beatS.causeTrue 9 1 = true ∧
    (beatS.onMc fun m => { m with link := .leaving }).mc.link.isMember = true ∧
    beatS.mc.link.inRing = true ∧ beatS.slot 3 = some (peer .member 0 true 0) ∧ 3 ≠ beatS.ownStation ∧
    beatS.tu.entry ⟨3, 1, 0⟩ = some (tripE 3 1 0 .warn .ring .active 5) := by decide +kernel

def listening : State := ring.mc' fun m => { m with link := .listen, listen := 3, roster := emptyRoster 8 }
/-- R151, R34: the RAISE frames of own causes and of a missing required station, then the Hello. -/
def enteringS : State := listening.onTu fun u => { u with causes := [⟨1, 0, 3, 7⟩, ⟨7, 0, 3, 7⟩] }

theorem witness_MembersComeAndGo_frames :
    enteringS.mc.link = .listen ∧ enteringS.mc.listen = 3 ∧ (∀ d, enteringS.causeTrue 11 d = false) ∧
    (after .enterMember enteringS).tu.causes.map (fun k => (k.cause, k.detail, k.beat, k.founder)) =
      [(1, 0, 7, 0), (7, 0, 3, 7), (8, 3, 7, 0), (12, 0, 7, 0)] ∧
    (enteringS.causeEntry 12).2 = .here ∧ (enteringS.causeEntry 1).1 ≠ .masked ∧ (enteringS.causeEntry 1).2 = .ring ∧
    laneKinds (after .enterMember enteringS) = [.trip, .trip, .hello] :=
  ⟨by decide +kernel, by decide +kernel, fun _ => rfl, by decide +kernel, by decide +kernel, by decide +kernel,
    by decide +kernel, by decide +kernel⟩

def silent (required : Bool) : State :=
  ring.mc' fun m => { m with roster := m.roster.set 2 (peer .member 4 required 8), dupQuiet := 4 }

theorem witness_MembersComeAndGo : ring.mc.link ≠ .listen ∧ (listening.onMc fun m => { m with listen := 2 }).mc.listen ≠ 3 ∧
    (listening.mc.link = .listen ∧ listening.mc.listen = 3 ∧ listening.shaftMember = true ∧
      { listening with cfg := some { cfgC with shaftMember := false } }.shaftMember = false ∧
      ((listening.cfg.map Cfg.required).getD 0).getLsbD 3 = true ∧ 3 ≠ listening.ownStation ∧
      listening.isPresent 3 = false) ∧
    (ring.slot 0 = none ∧ ring.slot 32 = none ∧ parked.mc.link.inRing = false ∧ ring.slot 31 = some (.absent false) ∧
      (RosterSlot.absent false).present = false ∧ ring.slot 3 = some (peer .member 0 true 0) ∧
      (peer .member 0 true 0).silence ≠ 4) ∧
    ((silent true).slot 3 = some (peer .member 4 true 8) ∧ (peer .member 4 true 8).silence = 4 ∧
      (silent true).mc.link.inRing = true ∧ 3 ≠ (silent true).ownStation ∧ (silent true).mc.link.isMember = true) ∧
    (ring.mc.dupQuiet ≠ 4 ∧ (silent true).causeTrue 9 1 = false) ∧
    ((silent true).mc.dupQuiet = 4 ∧ ((silent true).onTu fun u => { u with causes := [⟨9, 1, 0, 0⟩] }).causeTrue 9 1 = true) := by
  refine ⟨?_, ?_, ?_, ?_, ?_, ?_, ?_⟩ <;> decide +kernel

theorem witness_JoinAndLeave :
    ((takes .normal .join parked).taken .normal = some .join ∧ (takes .normal .join parked).mc.link.isOut = true ∧
      (takes .normal .join parked).cfg.isSome = true) ∧
    ((takes .normal .join ring).mc.link.isOut = false ∧ (takes .normal .join State.reset).cfg = none) ∧
    ((takes .normal .leave ring).taken .normal = some .leave ∧ (takes .normal .leave ring).mc.link = .member ∧
      (∀ i : Fin 4, ((takes .normal .leave ring).axis i).state.energised = false) ∧
      (takes .normal .leave ring).rp.waitList = [] ∧ (takes .normal .leave ring).rp.held = [] ∧
      (takes .normal .leave ring).mu.sendList = [] ∧
      (after .leave (takes .normal .leave ring)).rp.urgent.map (·.kind) = [.hello]) ∧
    ((takes .normal .leave parked).mc.link ≠ .member ∧
      ((takes .normal .leave (ring.axis0 fun a => { a with state := .stopping })).axis 0).state.energised = true) := by
  decide +kernel

/-! ## Witnesses: the line shaft -/

def lineW (angle speed target accel : Nat) (stop : StopMode) : Line := ⟨angle, 0, speed, target, accel, 1, stop, none⟩
def ticking (l : Line) : State := ring.su' fun u => { u with line := l, tickIdx := 3 }
def lineL (speed target : Nat) (stop : StopMode) : Line := ⟨4294967295, 7, speed, target, 5, 6, stop, none⟩

theorem witness_TickArithmetic : (ring.su' fun u => { u with tickIdx := 8 }).su.tickDue = false ∧
    (ticking (lineL 1 2 .none)).su.tickDue = true ∧ (lineL 1 2 .none).speed < (lineL 1 2 .none).target ∧
    (lineL 2 1 .none).target < (lineL 2 1 .none).speed ∧ (lineL 0 0 .none).speed = (lineL 0 0 .none).target ∧
    (ticking (lineL 2 2 .normal)).su.tickDue = true ∧ (ticking (lineL 2 2 .fast)).su.tickDue = true ∧
    (after .tickStart (ticking (lineL 0 0 .none))).su.next.angle = 4294967295 ∧
    (after .tickStart (ticking (lineL 0 1 .none))).su.next =
      { speed := 1, angle := 0, rev := 8, revStep := true } := by decide +kernel

def beatDueS (f : Su → Su) : State := ring.su' fun u => f { u with tickIdx := 8, inTick := true, list := [.release 3 1 6] }

theorem witness_BeatStarts : ring.su.beatDue = false ∧ (beatDueS id).su.beatDue = true ∧
    (beatDueS fun u => { u with beatZeroDue := true }).su.beatDue = true ∧ (beatDueS id).agreeing = true ∧
    minorityBeat [⟨3, .excluded, 70000⟩] = true ∧ (beatDueS fun u => { u with minority := 3 }).su.minority = 3 ∧
    (beatDueS fun u => { u with step := .following }).su.step = .following ∧ settledBeat [⟨3, .valid, 2001⟩] = true ∧
    settledBeat [⟨3, .valid, 2002⟩] = false ∧ validOffsets (beatDueS id).su.reports = [] ∧
    (beatDueS id).su.step.sends = true ∧ (beatDueS id).su.minority < 3 ∧
    (after .beatStart (beatDueS id)).rp.urgent.map (fun f => (parseShaft f.payload).map (·.step)) = [some .inStep] := by
  decide +kernel

/-- R68: the sixteenth beat without a VALID report makes the entry due, and the frame of its beat start shows ALONE. -/
theorem test_alone_once :
    (after .beatStart (beatDueS fun u => { u with alone := 15 })).su.aloneDue = true ∧
    (after .beatStart (beatDueS fun u => { u with alone := 14 })).su.aloneDue = false ∧
    (after .beatStart (beatDueS fun u => { u with alone := 15 })).rp.urgent.map (fun f => (parseShaft f.payload).map (·.step)) =
      [some .alone] := by decide +kernel

def noShaft (s : State) : State := { s with cfg := some { cfgC with shaftMember := false } }
def adoptedS : State :=
  noShaft { ring with
    su := { ring.su with step := .shaftIdle, adopted := true, settled := 16, minority := 4 }
    tu := { ring.tu with causes := [⟨10, 0, 0, 0⟩] } }
def foundS : State :=
  ring.su' fun u => { u with step := .adopting, founder := 0, rosterSinceMember := 3, tickIdx := 0 }

theorem witness_StepTransitions : ring.settles = false ∧
    ((ring.su' fun u => { u with settled := 16, step := .following }).su.settled = 16) ∧
    (adoptedS.su.settled = 16 ∧ adoptedS.shaftMember = false ∧ adoptedS.su.adopted = true ∧ adoptedS.su.step = .shaftIdle ∧
      adoptedS.causeTrue 10 0 = true) ∧
    (parked.agreeing = false ∧ ring.su.minority ≠ 4) ∧
    ((ring.su' fun u => { u with minority := 4 }).su.step.sends = true ∧ (ring.su' fun u => { u with minority := 4 }).su.minority = 4) ∧
    (adoptedS.su.step.sends = false ∧ adoptedS.su.minority = 4) ∧
    ((ring.su' fun u => { u with aloneDue := true }).su.step = .inStep ∧
      (ring.su' fun u => { u with aloneDue := true }).su.aloneDue = true) ∧
    (parked.su.step ≠ .following ∧ parked.su.step ≠ .inStep ∧ ring.su.aloneDue = false) ∧
    ({ ring with su := { ring.su with calm := 16 }, tu := { ring.tu with causes := [⟨12, 0, 0, 0⟩] } }.causeTrue 12 0 = true ∧
      ring.su.calm ≠ 16 ∧ ring.causeTrue 12 0 = false) ∧
    (ring.founds = false ∧ foundS.founds = true ∧ foundS.laneOf 1 = .urgent ∧ foundS.rp.urgent.length < 8 ∧
      (foundS.onAu fun a => { a with axes := a.axes.modify 0 fun x => { x with state := .coupling } }).founds = true ∧
      foundS.axisCfg 0 = some axisC ∧ AxisState.coupling.onLine = true) := by
  refine ⟨?_, ?_, ?_, ?_, ?_, ?_, ?_, ?_, ?_, ?_⟩ <;> decide +kernel

/-- A Shaft copy of station 3 whose beat started `off` after the own one. -/
def shaftC (founder : Nat) (entries : List Entry) (off : Nat) : Copy :=
  { cop .shaft 3 (shaftPayload ⟨5, .initial, .inStep, founder, entries⟩) with arrival := 5000 + 1800 + 300 + off }
def shaftM (founder : Nat) (entries : List Entry) : ShaftMsg := ⟨5, .initial, .inStep, founder, entries⟩
/-- A station whose alone count has reached 16 at the last beat start. -/
def aloneS : State := ring.su' fun u => { u with alone := 16, aloneDue := true }
def adopting : State := ring.su' fun u => { u with step := .adopting, founder := 0 }

theorem witness_ShaftCopies :
    (ring.inSu = [] ∧ (cop .speed 3 []).isKind .shaft = false) ∧
    ((shaftC 12 [] 0).isKind .shaft = true ∧ parseShaft (cop .shaft 3 (fill 31)).payload = none ∧
      ring.su.step.sends = true ∧ ring.isShaftPeer 31 = false) ∧
    (parseShaft (shaftC 12 [] 0).payload = some (shaftM 12 []) ∧ ring.slot 3 = some (peer .member 0 true 0) ∧
      (parseHeader (shaftC 12 [] 0).header).origin = 3 ∧
      ((shaftC 12 [] 50000).arrival : Int) - ring.hopDelay - (parseHeader (shaftC 12 [] 0).header).transit -
        (parseHeader (shaftC 12 [] 0).header).launchDelay - ring.su.beatCur = 50000 ∧
      (50000 : Int).natAbs ≤ ring.exclusion ∧ ring.exclusion < (50001 : Int).natAbs ∧
      (parseHeader (shaftC 12 [] 0).header).transit ≠ 65535 ∧
      ring.su.snapCur.sameSnapshot (shaftM 12 []).line = true ∧ (shaftM 12 []).founder = ring.su.founder ∧
      (shaftM 12 []).beat = ring.su.beat ∧ aloneS.su.aloneDue = true ∧
      (after .shaftCopy { aloneS with inSu := [shaftC 12 [] 50000] }).su.step = .following ∧
      (after .shaftCopy { aloneS with inSu := [shaftC 12 [] 50000] }).su.aloneDue = false ∧
      (after .shaftCopy { aloneS with inSu := [shaftC 12 [] 50001] }).su.step = .inStep) ∧
    (parseShaft (shaftC 13 [] 0).payload = some (shaftM 13 []) ∧ ring.su.founder < (shaftM 13 []).founder ∧
      (peer .member 0 true 6).exclusions < 7 ∧ 7 ≤ (peer .member 0 true 7).exclusions) ∧
    (parseShaft (shaftC 11 [] 0).payload = some (shaftM 11 []) ∧ (shaftM 11 []).founder < ring.su.founder) ∧
    (adopting.su.step = .adopting ∧ adopting.su.founder = 0 ∧
      adopting.qualifies 3 300 (shaftM 12 [.release 3 1 6]) = true ∧ adopting.shaftMember = true ∧ adopting.tu.table = [] ∧
      parseShaft (shaftC 12 [.release 3 1 6] 0).payload = some (shaftM 12 [.release 3 1 6]) ∧
      adopting.qualifies 3 65535 (shaftM 12 []) = false) := by
  refine ⟨?_, ?_, ?_, ?_, ?_, ?_⟩ <;> decide +kernel

def setE (beat : Nat) : Entry := .set 3 7 100 5 6 beat

/-- A Shaft copy of station 3 of another beat, and one whose transit is saturated. -/
def shaftAt (beat speed : Nat) : Copy :=
  { cop .shaft 3 (shaftPayload ⟨beat, { Line.initial with speed := speed }, .inStep, 12, []⟩) with arrival := 7100 }
def saturatedC : Copy := { shaftC 12 [] 0 with header := rewriteHeader (shaftC 12 [] 0).header 2 65535 }
def heard (c : Copy) (s : State) : State := after .shaftCopy { s with inSu := [c] }
def excludedFor (s : State) : List Nat :=
  [s.su.beatUnmatched, s.su.transitSaturated, s.su.offsetBeyond, s.su.snapshotMismatch]
/-- A MEMBER that is no shaft member, without a line history or with one it has lost. -/
def bystander (adopted held : Bool) : State :=
  noShaft (ring.su' fun u => { u with step := .shaftIdle, adopted := adopted, heldHistory := held })
def listenS : State := (ring.link .listen).onSu fun u => { u with step := .shaftIdle }
def readopting (state : AxisState) : State :=
  (adopting.onSu fun u => { u with founder := 9 }).onAu fun a => { a with axes := a.axes.modify 0 fun x => { x with state := state } }

/-- R57 to R59: entries carried, the own previous and next beat, and the four reasons to exclude a report. -/
theorem witness_ShaftCopies_reports :
    ((heard (shaftC 12 [setE 6] 0) ring).su.list = [setE 6] ∧ beatLater (setE 6).beat ring.su.beat = true ∧
      ring.su.holds (setE 6) = false ∧ ring.su.list.find? (Entry.rival (setE 6)) = none ∧
      (heard (shaftC 12 [setE 5] 0) ring).su.list = [] ∧ (heard (shaftC 12 [setE 6] 0) (bystander true true)).su.list = [setE 6] ∧
      (bystander true true).shaftMember = false ∧ (bystander true true).su.adopted = true) ∧
    (ring.su.ownBeat 4 = some (5000 - 1000000, some .initial) ∧ ring.su.ownBeat 6 = some (5000 + 1000000, none) ∧
      ring.su.ownBeat 7 = none ∧ ring.su.ownBeat 3 = none) ∧
    (excludedFor (heard (shaftAt 7 0) ring) = [1, 0, 0, 0] ∧ excludedFor (heard saturatedC ring) = [0, 1, 0, 0] ∧
      excludedFor (heard (shaftAt 6 0) ring) = [0, 0, 1, 0] ∧ excludedFor (heard (shaftAt 5 1) ring) = [0, 0, 0, 1] ∧
      excludedFor (heard (shaftAt 5 0) ring) = [0, 0, 0, 0]) := by
  refine ⟨?_, ?_, ?_⟩ <;> decide +kernel

/-- R64, R65, R69: adoption again at rest, by a station that is no shaft member, and the qualifying frame noted in LISTEN. -/
theorem witness_ShaftCopies_adoption :
    ((readopting .coupled).qualifies 3 300 (shaftM 12 []) = true ∧ (readopting .coupled).su.founder = 9 ∧
      ((readopting .coupled).axis 0).state.onLine = true ∧ (heard (shaftC 12 [] 0) (readopting .coupled)).su.step = .adopting ∧
      (readopting .decoupled).su.line.speed = 0 ∧ (shaftM 12 []).line.speed = 0 ∧
      (∀ i : Fin 4, ((readopting .decoupled).axis i).state.onLine = false) ∧
      (heard (shaftC 12 [] 0) (readopting .decoupled)).su.step = .following) ∧
    ((bystander false false).su.step = .shaftIdle ∧ (bystander false false).mc.link.isMember = true ∧
      (bystander false false).su.heldHistory = false ∧ (heard (shaftC 12 [] 0) (bystander false false)).su.adopted = true ∧
      (heard (shaftC 12 [] 0) ((bystander false true).onSu fun u => { u with line := lineW 0 1 1 1 .none })).su.adopted = false) ∧
    (listenS.mc.link = .listen ∧ listenS.su.step = .shaftIdle ∧ (heard (shaftC 12 [] 0) listenS).su.heardQualifying = true ∧
      (heard saturatedC listenS).su.heardQualifying = false) ∧
    ((ring.su' fun u => { u with step := .shaftIdle }).shaftMember = true ∧ (bystander true true).isShaftPeer 31 = false ∧
      (bystander true true).mc.link ≠ .listen) := by
  refine ⟨?_, ?_, ?_, ?_⟩ <;> decide +kernel

def speedC (founder : Nat) (e : Entry) : Copy := cop .speed 3 (speedPayload founder e)
/-- What decides whether a Speed copy is taken. -/
def speedTakes (c : Copy) (founder : Nat) (s : State) : Bool :=
  (s.slot (parseHeader c.header).origin).any (fun r => r.present && r.speedAuthority) &&
    (s.holdsHistory || (s.su.step == .adopting && s.su.founder != 0)) && founder == s.su.founder && s.mc.link.isMember

/-- Nine entries for eight places, and two rivals of one beat. -/
def listed (l : List Entry) (e : Entry) : State :=
  { ring.su' (fun u => { u with list := l }) with inSu := [speedC 12 e] }
def eight6 : List Entry := (List.range 8).map fun n => .release 3 (n + 10) (6 + n)
def rival (origin num : Nat) : Entry := .set origin num 100 5 6 6

theorem witness_SpeedCopies :
    (ring.inSu = [] ∧ (cop .shaft 3 []).isKind .speed = false) ∧
    ((speedC 12 (setE 6)).isKind .speed = true ∧ parseSpeed (cop .speed 3 (fill 19)).payload = none) ∧
    (parseSpeed (speedC 11 (setE 6)).payload = some (11, setE 6) ∧ speedTakes (speedC 11 (setE 6)) 11 ring = false) ∧
    (parseSpeed (speedC 12 (setE 6)).payload = some (12, setE 6) ∧ speedTakes (speedC 12 (setE 6)) 12 ring = true ∧
      (ring.su' fun u => { u with list := [setE 6] }).su.holds (setE 6) = true ∧
      beatLater (setE 6).beat ring.su.beat = true ∧ ring.su.holds (setE 6) = false) ∧
    ((listed [rival 3 7] (rival 3 8)).su.list.find? (Entry.rival (rival 3 8)) = some (rival 3 7) ∧
      (rival 3 8).ident = [3, 8] ∧ (rival 3 7).ident = [3, 7] ∧ newer 16 8 7 = true ∧ newer 16 32776 8 = false ∧
      (listed [rival 3 7] (rival 3 8)).su.holds (rival 3 8) = false ∧
      (after .speedCopy (listed [rival 3 7] (rival 3 8))).su.list = [rival 3 8] ∧
      (after .speedCopy (listed [rival 4 7] (rival 3 8))).su.list = [rival 4 7] ∧
      (after .speedCopy (listed [rival 4 7] (rival 3 8))).su.droppedEntries = 1) ∧
    ((listed eight6 (rival 3 7)).su.list.find? (Entry.rival (rival 3 7)) = none ∧
      8 ≤ (listed eight6 (rival 3 7)).su.list.length ∧ (listed eight6 (rival 3 7)).su.holds (rival 3 7) = false ∧
      (after .speedCopy (listed eight6 (rival 3 7))).su.list.getLast? = some (.release 3 16 12) ∧
      (after .speedCopy (listed eight6 (rival 3 7))).su.droppedEntries = 1) ∧
    (parseSpeed (speedC 12 (setE 5)).payload = some (12, setE 5) ∧ ring.su.holds (setE 5) = false ∧
      beatLater (setE 5).beat ring.su.beat = false) ∧ ring.su.Fits (setE 6) := by
  refine ⟨?_, ?_, ?_, ?_, ?_, ?_, ?_, by decide +kernel, by decide +kernel, by decide +kernel⟩ <;> decide +kernel

def setCmd (target accel : Nat) (s : State) : State := takes .urgent (.setSpeed target accel 1) s
def tripped (s : State) : State := s.onTu fun u => { u with table := [tripE 3 1 0 .normalStop .ring .active 0] }

theorem witness_SpeedCommands :
    ((setCmd 6000001 1 ring).taken .urgent = some (.setSpeed 6000001 1 1) ∧ (setCmd 6000001 1 ring).speedAuthority = true ∧
      (setCmd 6000001 1 ring).holdsHistory = true ∧ (setCmd 6000001 1 ring).maxSpeed < 6000001 ∧
      (setCmd 6000000 1 ring).su.holds (.set 12 0 6000000 1 1 9) = false ∧
      (setCmd 6000000 1 ring).su.list.find? (Entry.rival (.set 12 0 6000000 1 1 9)) = none ∧
      (setCmd 6000000 1 ring).su.list.length < 8 ∧ beatLater 9 (setCmd 6000000 1 ring).su.beat = true) ∧
    ((setCmd 1 1 parked).holdsHistory = false ∧
      (setCmd 1 1 { ring with cfg := some { cfgC with speedAuthority := false } }).speedAuthority = false ∧
      (setCmd 1 0 ring).taken .urgent = some (.setSpeed 1 0 1)) ∧
    ((takes .urgent .releaseStop (ticking (lineL 0 0 .normal))).taken .urgent = some .releaseStop ∧
      (takes .urgent .releaseStop (ticking (lineL 0 0 .normal))).su.line.stop ≠ .none ∧
      (takes .urgent .releaseStop (ticking (lineL 0 0 .normal))).gateOpen = true ∧
      (takes .urgent .releaseStop (ring.su' fun u => { u with list := [.stop 3 1 0 true 6] })).su.list.any Entry.isStop = true) ∧
    ((takes .urgent .releaseStop ring).su.line.stop = .none ∧ (takes .urgent .releaseStop ring).su.list.any Entry.isStop = false ∧
      (takes .urgent .releaseStop (tripped (ticking (lineL 0 0 .normal)))).gateOpen = false) := by
  refine ⟨?_, ?_, ?_, ?_⟩ <;> decide +kernel

/-! ## Witnesses: axes and drive lines -/

def windowed (st : AxisState) (setpoint closes following missed : Nat) : State :=
  ring.axis0 fun a => { a with state := st, window := some ⟨setpoint, closes⟩, following := following, missed := missed }

/-- A tick is due at a line speed of 2560, and axis 0 is as `f` makes it. -/
def drives (f : Axis → Axis) : State :=
  (ticking (lineW 0 2560 2560 1 .none)).onAu fun a => { a with axes := a.axes.modify 0 f }
def off (a : Axis) : Axis := { a with answered := true, last := some ⟨true, false, false, 5⟩ }
def couplingFar (a : Axis) : Axis := { a with state := .coupling, phase := 30000 }
def couplingNear (a : Axis) : Axis := { a with state := .coupling, phase := 85 }
def windowOf (f : Axis → Axis) : Option Nat := ((after .tickStart (drives f)).axis 0).window.map (·.setpoint)

theorem witness_DriveLine_tick :
    ((drives id).su.tickDue = true ∧ (drives id).axisCfg 0 = some axisC ∧ ((drives id).axis 0).decoupleAtEnd = false ∧
      (∀ k : Fin 4, ((drives id).loop k).state = .off) ∧ (drives id).effectiveStop = .none ∧
      (drives id).au.localStop = .none ∧ ((drives id).axis 0).state = .torqueOff) ∧
    (windowOf off = some 5 ∧ windowOf (fun a => { a with state := .decoupled, v := 0, jogTarget := 65536 }) = some 3 ∧
      windowOf (fun a => { a with state := .stopping, v := 1256, p := 0 }) = some 1 ∧
      windowOf (fun a => { a with state := .coupled, g := 65530, trimPending := -150 }) = some 65445 ∧
      windowOf couplingNear = some 100 ∧ windowOf couplingFar = some 2015 ∧
      ((after .tickStart (drives couplingNear)).axis 0).state = .coupled ∧
      ((after .tickStart (drives couplingFar)).axis 0).state = .coupling) := by
  refine ⟨?_, ?_⟩ <;> decide +kernel

/-- The axis and its state and speed after a tick under a stop. -/
def ended (f : Axis → Axis) : State := (drives f).onSu fun u => { u with inTick := true, next := ⟨2560, 0, 0, false⟩ }
def under (l : StopMode) (s : State) : State :=
  { s with su := { s.su with line := { s.su.line with stop := l } } }
def stateSpeed (s : State) : AxisState × Nat :=
  (((after .tickStart s).axis 0).state, ((after .tickStart s).axis 0).v)
/-- A mark of station 12 whose loop is evaluated at the tick and is out of tolerance for the third time. -/
def evaluating (f : Axis → Axis) (torque : Bool) : State :=
  let s := (drives f).onMu fun m => { m with cov2 := some ⟨900, 200, 3⟩, loops := m.loops.modify 0 fun l => { l with
    state := .active
    entries := [{ MarkEntry.empty with enabled := true, start := 100, length := 900, results := [⟨3, some 500⟩] },
      { MarkEntry.empty with
        enabled := true, station := 12, gain := 65536, start := 200, length := 100, maxStep := 100000, tolerance := 1
        tolCount := 2, results := [⟨3, some 900⟩] }] } }
  if torque then { s with cfg := some { cfgC with causeMap := List.replicate 22 (.torqueOff, .here) } } else s

/-- R83, R88: the boundary decouple, the end of STOPPING, and the ways into it; and what a loop does to an axis at its tick. -/
theorem witness_DriveLine_stop :
    ((ended fun a => { a with state := .coupled, decoupleAtEnd := true }).su.inTick = true ∧
      (ended fun a => { a with state := .coupled, decoupleAtEnd := true }).su.tickDue = true ∧
      stateSpeed (ended fun a => { a with state := .coupled, decoupleAtEnd := true }) = (.decoupled, 2840) ∧
      stateSpeed (ended fun a => { a with state := .stopping, v := 0 }) = (.decoupled, 0) ∧
      stateSpeed (ended fun a => { a with state := .stopping, v := 1 }) = (.stopping, 0)) ∧
    (stateSpeed (under .normal (drives fun a => { a with state := .coupling })) = (.stopping, 1340) ∧
      stateSpeed (under .fast (drives fun a => { a with state := .decoupled, v := 2001 })) = (.stopping, 1) ∧
      stateSpeed (under .fast (drives fun a => { a with state := .decoupled, jogTarget := 9 })) = (.decoupled, 0) ∧
      stateSpeed (under .fast (drives fun a => { a with state := .coupled })) = (.coupled, 0) ∧
      stateSpeed ((drives fun a => { a with state := .coupled }).onAu fun a => { a with localStop := .fast }) =
        (.stopping, 1840)) ∧
    (((drives fun a => { a with state := .disabled }).axis 0).state = .disabled ∧
      ((after .tickStart (evaluating (fun a => { a with state := .coupled }) false)).axis 0).trimPending ≠ 0 ∧
      ((after .tickStart (evaluating (fun a => { a with state := .coupled }) true)).axis 0).state = .torqueOff) := by
  refine ⟨?_, ?_, ?_⟩ <;> decide +kernel

theorem witness_DriveLine : (ring.axis 0).window = none ∧ ring.axisCfg 3 = none ∧
    ((windowed .coupled 0 55000 0 0).axis 0).window = some ⟨0, 55000⟩ ∧ (windowed .coupled 0 55000 0 0).axisCfg 0 = some axisC ∧
    max (windowed .coupled 0 55000 0 0).now 55000 ≤ 55000 ∧ 55000 < max (windowed .coupled 0 55000 0 0).now 55001 ∧
    0 = ((windowed .coupled 0 55000 0 0).axis 0).driveSeq ∧ 1 ≠ ((windowed .coupled 0 55000 0 0).axis 0).driveSeq ∧
    AxisState.torqueOff.energised = false ∧ AxisState.coupled.energised = true ∧
    axisC.followLimit < followingError axisC 0 65525 ∧ followingError axisC 0 65526 ≤ axisC.followLimit ∧
    ((windowed .coupled 0 55000 0 0).axis 0).following = 0 ∧
    ((after (.driveAnswer 0 0 0 true true false 65525) (windowed .coupled 0 55000 0 0)).axis 0).following = 1 ∧
    1 ≤ ((windowed .coupled 0 55000 1 0).axis 0).following ∧ ((windowed .coupled 0 55000 1 0).axis 0).following < 2 ∧
    axisC.silentLimit ≤ min (((windowed .coupled 0 55000 0 2).axis 0).missed + 1) 15 ∧
    min (((windowed .coupled 0 55000 0 1).axis 0).missed + 1) 15 < axisC.silentLimit := by decide +kernel

def axisS (f : Axis → Axis) (c : HostCmd) : State := takes .urgent c (ring.axis0 f)
def inState (st : AxisState) (a : Axis) : Axis := { a with state := st }
def heldS (c : HostCmd) : State := (axisS off c).onTu fun u => { u with table := [tripE 3 0 0 .torqueOff .ring .active 0] }

theorem witness_TorqueCommands :
    ((axisS off (.enableAxis 0)).taken .urgent = some (.enableAxis 0) ∧ (axisS off (.enableAxis 0)).axisCfg 0 = some axisC ∧
      ((axisS off (.enableAxis 0)).axis 0).state ≠ .disabled) ∧
    (((axisS off (.enableAxis 0)).onMc fun m => { m with link := .leaving }).mc.link = .leaving ∧
      ((axisS (inState .stopping) (.enableAxis 0)).axis 0).state ≠ .torqueOff) ∧
    ((heldS (.enableAxis 0)).mc.link ≠ .leaving ∧ ((heldS (.enableAxis 0)).axis 0).state = .torqueOff ∧
      (heldS (.enableAxis 0)).torqueOffHeld = true ∧
      ((axisS off (.enableAxis 0)).onPins fun p => { p with eStop := true }).pins.eStop = true) ∧
    ((axisS id (.enableAxis 0)).pins.eStop = false ∧ (axisS id (.enableAxis 0)).torqueOffHeld = false ∧
      ((axisS id (.enableAxis 0)).axis 0).driveReady = false) ∧
    (((axisS off (.enableAxis 0)).axis 0).answered = true ∧
      ((axisS off (.enableAxis 0)).axis 0).last = some ⟨true, false, false, 5⟩ ∧
      (axisS off (.enableAxis 0)).pins.eStop = false ∧ (axisS off (.enableAxis 0)).torqueOffHeld = false) ∧
    ((axisS off (.disableAxis 0)).taken .urgent = some (.disableAxis 0) ∧
      ((axisS off (.disableAxis 0)).axis 0).state.energised = false ∧
      ((axisS (inState .decoupled) (.disableAxis 0)).axis 0).state.energised = true) := by
  refine ⟨?_, ?_, ?_, ?_, ?_, ?_⟩ <;> decide +kernel

def stopped (s : State) : State := s.onSu fun u => { u with line := { u.line with stop := .normal } }

theorem witness_LineCommands :
    ((axisS (inState .decoupled) (.coupleAxis 0 65535)).taken .urgent = some (.coupleAxis 0 65535) ∧
      ((axisS (inState .decoupled) (.coupleAxis 0 65535)).axis 0).state = .decoupled ∧ 65535 < axisC.m ∧
      axisC.m ≤ 65536 ∧ (axisS (inState .decoupled) (.coupleAxis 0 65535)).effectiveStop = .none ∧
      (stopped (axisS (inState .decoupled) (.coupleAxis 0 0))).effectiveStop ≠ .none ∧
      ((axisS (inState .coupling) (.coupleAxis 0 0)).axis 0).state ≠ .decoupled) ∧
    ((axisS (inState .coupled) (.decoupleAxis 0 1)).taken .urgent = some (.decoupleAxis 0 1) ∧ 1 < 2 ∧
      ((axisS (inState .coupled) (.decoupleAxis 0 0)).axis 0).state.onLine = true ∧
      ((axisS (inState .stopping) (.decoupleAxis 0 0)).axis 0).state.onLine = false) ∧
    ((axisS (inState .decoupled) (.jogAxis 0 6000001)).taken .urgent = some (.jogAxis 0 6000001) ∧
      ((axisS (inState .coupled) (.jogAxis 0 1)).axis 0).state ≠ .decoupled ∧
      (stopped (axisS (inState .decoupled) (.jogAxis 0 1))).effectiveStop ≠ .none ∧ axisC.maxSpeed < 6000001) := by
  refine ⟨?_, ?_, ?_⟩ <;> decide +kernel

def trimming (axis : Nat) (e : Int) (f : Axis → Axis) : State :=
  { ring.axis0 f with inAu := [cop .correction 3 (correctionPayload axis e)] }

theorem witness_Trims : ring.inAu = [] ∧ parseCorrection (cop .correction 3 (fill 7)).payload = none ∧
    (parseCorrection (cop .correction 3 (correctionPayload 0 (-2147483648))).payload = some (0, -2147483648) ∧
      ((trimming 0 (-2147483648) (inState .coupled)).axis 0).state = .coupled ∧ 1 ≤ axisC.d) ∧
    (parseCorrection (cop .correction 3 (correctionPayload 4 1)).payload = some (4, 1) ∧ ring.axisCfg 3 = none ∧
      ((trimming 0 1 (inState .coupling)).axis 0).state ≠ .coupled) ∧
    ((axisS (inState .coupled) (.trimAxis 0 1048577)).taken .urgent = some (.trimAxis 0 1048577) ∧
      ((axisS (inState .coupled) (.trimAxis 0 1048577)).axis 0).state = .coupled ∧
      ((axisS (inState .coupling) (.trimAxis 0 1)).axis 0).state ≠ .coupled) := by
  refine ⟨?_, ?_, ?_, ?_, ?_⟩ <;> decide +kernel

theorem witness_AxisNumbers : (takes .urgent (.enableAxis 4) ring).taken .urgent = some (.enableAxis 4) ∧
    (takes .urgent (.disableAxis 1) ring).taken .urgent = some (.disableAxis 1) ∧
    (takes .urgent (.coupleAxis 3 0) ring).taken .urgent = some (.coupleAxis 3 0) ∧
    (takes .urgent (.decoupleAxis 2 1) ring).taken .urgent = some (.decoupleAxis 2 1) ∧
    (takes .urgent (.jogAxis 255 0) ring).taken .urgent = some (.jogAxis 255 0) ∧
    (takes .urgent (.trimAxis 1 (-1)) ring).taken .urgent = some (.trimAxis 1 (-1)) ∧ ring.axisCfg 1 = none ∧
    ring.axisCfg 2 = none ∧ ring.axisCfg 3 = none := by decide +kernel

/-! ## Witnesses: cameras and strips -/

def sweeping (w : Sweep) (cursor : Nat) (last : Option Nat) : State :=
  (ring.cam0 fun c => { c with cursor := cursor, lastSent := last }).onCu fun u => { u with sweep := some w }
/-- With a sweep of the tick before as well, whose cursor is at `last`. -/
def sweptTo (last : Nat) (s : State) : State :=
  (s.onCu fun u => { u with lastSweep := some ⟨2500, 125000, 0, 641, 3⟩ }).onCam 0 fun c => { c with lastCursor := last }
def trig (n index : Nat) (sent : Nat) : Trigger := ⟨n, ⟨3, index, 77, false, false⟩, sent⟩

theorem witness_Triggers :
    (ring.camCfg 1 = none ∧ ring.cu.sweep = none ∧ ring.cu.lastSweep = none ∧ ring.camCfg 0 = some camC ∧
      ((sweptTo 641 ring).cu.lastSweep = some ⟨2500, 125000, 0, 641, 3⟩ ∧ 0 + 641 ≤ (nextDue camC 641).1) ∧
      (⟨5000, 125000, 640, 0, 3⟩ : Sweep).angle + 0 ≤ (nextDue camC 640).1) ∧
    ((sweeping ⟨5000, 125000, 640, 1, 3⟩ 640 (some 3001)).cu.sweep = some ⟨5000, 125000, 640, 1, 3⟩ ∧
      nextDue camC 640 = (640, 0) ∧ 640 < 640 + 1 ∧ 1 ≤ camC.pitch ∧ camC.pitch < 65536 ∧ camC.phase < 4294967296 ∧
      ((sweeping ⟨5000, 125000, 640, 1, 3⟩ 640 (some 3001)).cam 0).cursor < 4294967296 + 16777216 ∧
      ((sweeping ⟨5000, 125000, 640, 1, 3⟩ 640 (some 3001)).cam 0).lastSent = some 3001 ∧ 5000 < 3001 + 2000 ∧
      3000 + 2000 ≤ 5000 ∧ ((sweeping ⟨5000, 125000, 640, 1, 3⟩ 640 none).cam 0).lastSent = none) ∧
    ((sweptTo 0 (sweeping ⟨5000, 125000, 640, 1, 3⟩ 640 none)).cu.lastSweep = some ⟨2500, 125000, 0, 641, 3⟩ ∧
      nextDue camC 0 = (640, 0) ∧ 640 < 0 + 641 ∧ ((sweptTo 0 (sweeping ⟨5000, 125000, 640, 1, 3⟩ 640 none)).cam 0).lastCursor = 0 ∧
      ((sweptTo 0 (sweeping ⟨5000, 125000, 640, 1, 3⟩ 640 none)).cam 0).lastSent = none) ∧
    ((ring.cam 0).trigs = [] ∧ ((ring.cam0 fun c => { c with trigs := [trig 9 1 5000] }).cam 0).trigs = [trig 9 1 5000] ∧
      max ring.now 104999 < 5000 + 100000 ∧ 5000 + 100000 ≤ max ring.now 105000 ∧
      15 ≤ ((ring.cam0 fun c => { c with missing := 15 }).cam 0).missing) := by
  refine ⟨?_, ?_, ?_, ?_⟩ <;> decide +kernel

def strip (lines : Nat) (complete : Bool) : StripBuf :=
  { StripBuf.hostOwned with partOwned := true, addr := 8192, size := 5000, begun := true, lines := lines, complete := complete }
def record (h : Half) (todo : List Piece) : StripRec := ⟨h, 8192, todo, false⟩
def filming (index : Nat) (queue : List StripRec) (busy : Bool) (even : StripBuf) : State :=
  ring.cam0 fun c => { c with trigs := [trig 255 index 5000], queue := queue, inProgress := busy, even := even }

/-- A trigger of index `index` at angle 77, and an accumulator of revolution 3 open over it. -/
def marking (index : Nat) : State :=
  (filming index [] false .hostOwned).onMu fun m => { m with loops := m.loops.modify 0 fun l =>
    { l with entries := l.entries.set 0 { MarkEntry.empty with enabled := true, length := 78, acc := some ⟨3, 0, 0⟩ } } }

theorem witness_CameraLines :
    (ring.camCfg 1 = none ∧ (ring.cam 0).trigs.find? (fun e => e.number == 255) = none) ∧
    (ring.camCfg 0 = some camC ∧
      ((filming 2 [] false .hostOwned).cam 0).trigs.find? (fun e => e.number == 255) = some (trig 255 2 5000)) ∧
    (trig 255 1 5000).tag.index % camC.decimation ≠ 0 ∧
    ((trig 255 2 5000).tag.index % camC.decimation = 0 ∧
      ((filming 2 (List.replicate 16 (record .even [])) true (strip 15 false)).cam 0).inProgress = true ∧
      16 ≤ ((filming 2 (List.replicate 16 (record .even [])) true (strip 15 false)).cam 0).queue.length ∧
      ((filming 2 (List.replicate 15 (record .even [])) true (strip 15 false)).cam 0).queue.length < 16 ∧
      ((filming 2 (List.replicate 15 (record .even [])) true (strip 15 false)).cam 0).queue ≠ []) ∧
    (((filming 2 [] false .hostOwned).cam 0).inProgress = false ∧ ((filming 2 [] false .hostOwned).cam 0).startHalf = none) ∧
    (((filming 2 [] false { strip 0 false with begun := false }).cam 0).startHalf = some .even ∧
      ((filming 2 [] false { strip 0 false with begun := false }).cam 0).queue.length < 16) ∧
    (camC.breakLength ≠ 0 ∧ webPresent camC (padTo 64 []) = false ∧ ring.causeTrue 16 0 = false ∧
      camC.breakLength ≤ ((ring.cam0 fun c => { c with webCount := 4 }).cam 0).webCount + 1) ∧
    (([] : List Byte).length ≠ camC.width ∧ (fill 64).length = camC.width ∧
      ((after (.cameraLine 0 0 255 (fill 64)) (marking 2)).loop 0).entries.map (·.acc) =
        some ⟨3, 220, 16940⟩ :: List.replicate 7 none ∧
      ((after (.cameraLine 0 0 255 (fill 63)) (marking 2)).loop 0).entries.map (·.acc) =
        some ⟨3, 0, 0⟩ :: List.replicate 7 none) := by
  refine ⟨?_, ?_, ?_, ?_, ?_, ?_, ?_, ?_⟩ <;> decide +kernel

/-- A line of a camera watched by the viewers `vs`. -/
def watched (vs : List Viewer) (wait : List Nat) : State :=
  { filming 1 [] false .hostOwned with
    scu := { ring.scu with viewers := ring.scu.viewers.set 0 vs, view0 := { insetAt 0 with station := 12, cam := 0 } }
    rp := { ring.rp with waitList := wait } }
def viewerOf (station : Nat) (last : Option Nat) : Viewer :=
  { station := station, slot := 0, decimation := 2, width := 32, last := last }
def viewed (vs : List Viewer) (wait : List Nat) : State := after (.cameraLine 1005000 0 255 (fill 64)) (watched vs wait)

theorem witness_CameraLines_views :
    ((watched [viewerOf 3 (some 5001)] []).causeTrue 18 0 = false ∧ (watched [viewerOf 3 none] [7]).waits 7 = true ∧
      ((watched [viewerOf 3 none] []).cam 0).trigs.find? (fun e => e.number == 255) = some (trig 255 1 5000) ∧
      (viewed [viewerOf 3 (some 5001)] []).rp.bulk = [] ∧ (viewed [viewerOf 3 none] [7]).rp.held = []) ∧
    ((watched [viewerOf 3 none, viewerOf 4 (some 5000)] []).waits 7 = false ∧
      ([viewerOf 3 none, viewerOf 4 (some 5000)].map fun v => (v.station, v.slot)).Nodup ∧
      (viewed [viewerOf 3 none, viewerOf 4 (some 5000)] []).rp.bulk.map (fun f => (f.kind, f.dest)) =
        [(.viewLine, 3), (.viewLine, 4)] ∧
      (viewed [viewerOf 3 none, viewerOf 4 (some 5000)] []).waits 7 = false ∧
      (viewed [viewerOf 3 none] []).causeTrue 16 0 = (watched [viewerOf 3 none] []).causeTrue 16 0 ∧
      (viewed [viewerOf 3 none] []).scu.viewers.get 0 = [viewerOf 3 (some 1005000)]) ∧
    (12 = (watched [viewerOf 12 none] []).ownStation ∧ (viewed [viewerOf 12 none] []).rp.bulk = [] ∧
      (viewed [viewerOf 12 none] []).scu.viewers.get 0 = [viewerOf 12 (some 1005000)]) := by
  refine ⟨?_, ?_, ?_⟩ <;> decide +kernel

def mapX : Transfer := { xfer .mapEntryRead (.camera 0) with strip := some ⟨.even, 8192, true⟩ }
def writeX : Transfer := { xfer .stripWrite (.camera 0) with strip := some ⟨.even, 8192, true⟩ }
/-- A transfer that serves its strip no more. -/
def gone (x : Transfer) : Transfer := { x with strip := some ⟨.even, 8192, false⟩ }
def stripping (l : List Transfer) (q : List StripRec) (b : StripBuf) : State :=
  flying l (ring.cam0 fun c => { c with queue := q, even := b })

def drained (l : List Transfer) : State := { flying l ring with cu := { ring.cu with draining := some cfgC } }

theorem witness_StripTransfers :
    (ring.cmp.ready .mapEntryRead (.camera 0) = none ∧
      ring.cmp.ready .stripWrite (.camera 0) = none) ∧
    ((stripping [mapX] [record .even [⟨1, 0, [1]⟩]] (strip 1 false)).cmp.ready .mapEntryRead (.camera 0) = some mapX ∧ mapX.strip = some ⟨.even, 8192, true⟩ ∧
      ring.cu.draining = none ∧ ring.camCfg 0 = some camC ∧ mapEntryPage (le 8 0x6001) = some 0x6000 ∧ ring.cu.pointer < ring.cu.cache.length) ∧
    (mapEntryPage (le 8 0x6000) = none ∧
      (((stripping [mapX] [record .even [⟨1, 0, [1]⟩]] (strip 1 false)).cam 0).buf .even).aborted = false ∧
      (((stripping [mapX] [record .even [⟨1, 0, [1]⟩]] (strip 1 false)).cam 0).buf .even).partOwned = true ∧
      (after (.mapEntryReadComplete 0 0 .error) (stripping [mapX, writeX] [record .even []] (strip 1 false))).writesInFlight 0
        .even = true ∧
      (after (.mapEntryReadComplete 0 0 .error) (stripping [mapX] [record .even []] (strip 1 false))).writesInFlight 0 .even =
        false ∧
      (stripping [writeX] [record .even []] (strip 1 false)).cmp.ready .stripWrite (.camera 0) =
        some writeX) ∧
    (((stripping [writeX] [record .even []] (strip 16 true)).cam 0).queue = record .even [] :: [] ∧
      (record .even []).todo = [] ∧ (strip 16 true).complete = true ∧ (strip 1 false).complete = false ∧
      ((stripping [writeX] [record .even []] (strip 16 true)).cmp.without .stripWrite (.camera 0)).dma.any
        (fun y => y.purpose == .stripWrite && y.servesStrip 0 .even) = false ∧
      [record .even []].any (fun q => q.half == .even) = true ∧
      ([] : List StripRec).any (fun q => q.half == .even) = false) ∧
    ((flying [xfer .mapEntryRead (.camera 0)] ring).cmp.ready .mapEntryRead (.camera 0) =
        some (xfer .mapEntryRead (.camera 0)) ∧ (xfer .mapEntryRead (.camera 0)).strip = none ∧
      (flying [xfer .stripWrite (.camera 0)] ring).cmp.ready .stripWrite (.camera 0) =
        some (xfer .stripWrite (.camera 0))) ∧
    ((stripping [gone mapX, gone writeX] [] .hostOwned).cmp.ready .mapEntryRead (.camera 0) =
        some (gone mapX) ∧ (gone mapX).strip = some ⟨.even, 8192, false⟩ ∧
      (stripping [gone mapX, gone writeX] [] .hostOwned).cmp.ready .stripWrite (.camera 0) =
        some (gone writeX) ∧ (stripping [gone mapX, gone writeX] [] .hostOwned).cu.draining = none) ∧
    ((drained [gone writeX, gone writeX]).cmp.ready .stripWrite (.camera 0) = some (gone writeX) ∧
      ((drained [gone writeX, gone writeX]).cmp.without .stripWrite (.camera 0)).dma.any
        (fun y => y.purpose == .stripWrite) = true) := by
  refine ⟨?_, ?_, ?_, ?_, ?_, ?_, ?_⟩ <;> decide +kernel

def givenS (n b addr size : Nat) (buf : StripBuf) : State :=
  takes .normal (.giveStripBuffer n b addr size) (ring.cam0 fun c => { c with even := buf })

theorem witness_StripCommands : (takes .normal .invalidateMapCache ring).taken .normal = some .invalidateMapCache ∧
    (givenS 4 0 0 0 .hostOwned).taken .normal = some (.giveStripBuffer 4 0 0 0) ∧
    (givenS 0 2 0 0 .hostOwned).taken .normal = some (.giveStripBuffer 0 2 0 0) ∧
    (givenS 0 Half.even.code 0 1152 (strip 1 false)).taken .normal =
      some (.giveStripBuffer (0 : Fin 4).val Half.even.code 0 1152) ∧
    (((givenS 0 0 0 1152 (strip 1 false)).cam 0).buf .even).partOwned = true ∧ ring.camCfg 1 = none ∧
    ((givenS 0 0 8191 1152 .hostOwned).camCfg 0 = some camC ∧
      (((givenS 0 0 8191 1152 .hostOwned).cam 0).buf .even).partOwned = false ∧
      8191 % 8192 ≠ 0 ∧
      1151 < camC.height * (8 + (camC.x1 - camC.x0 + 1)) ∧ 33554432 < 33546240 + 8193) ∧
    (33546240 % 8192 = 0 ∧ camC.height * (8 + (camC.x1 - camC.x0 + 1)) ≤ 1152 ∧ 33546240 + 8192 ≤ 33554432) := by
  refine ⟨?_, ?_, ?_, ?_, ?_, ?_, ?_, ?_⟩ <;> decide +kernel

/-! ## Witnesses: register control -/

def markBlock (x : Byte) : List Byte := (List.range 8).flatMap fun _ => [x, 1, 0, 16] ++ le 4 100 ++ le 4 1000 ++ fill 8 ++ le 4 1 ++ fill 8
def refS (st : LoopState) (c : HostCmd) : State :=
  takes .normal c (ring.loop0 fun l =>
    { l with state := st, entries := l.entries.set 0 { MarkEntry.empty with enabled := true } })
def tableS : State := awaits (.loadMarkTable 0 4096 256) (xfer .markTableRead .normal) ring

def refWin : MarkEntry := { MarkEntry.empty with enabled := true, start := 40000000, length := 3000 }
/-- A tick is due, the loop of camera 0 has its reference window closing, and its accumulator holds `a`. -/
def closing (st : LoopState) (missing seek : Nat) (a : Acc) : State :=
  (ticking (lineW 40006000 2560 2560 1 .none)).onMu fun m => { m with
    cov2 := some ⟨40002000, 2000, 3120⟩
    loops := m.loops.modify 0 fun _ =>
      { state := st, missing := missing, seek := seek, entries := { refWin with acc := some a } :: List.replicate 7 .empty } }
def ends (s : State) : LoopState × Nat × Nat :=
  (((after .tickStart s).loop 0).state, ((after .tickStart s).loop 0).missing, ((after .tickStart s).loop 0).seek)

theorem witness_RegisterLoops_tick :
    ((closing .active 2 0 ⟨3120, 50, 75⟩).su.tickDue = true ∧ (closing .active 2 0 ⟨3120, 50, 75⟩).camCfg 0 = some camC ∧
      ((closing .active 2 0 ⟨3120, 50, 75⟩).loop 0).state ≠ .off ∧
      (∀ j : Fin 4, j ≠ 0 → ((closing .active 2 0 ⟨3120, 50, 75⟩).loop j).state = .off) ∧
      (∀ j : Fin 4, ((ticking (lineW 0 0 0 1 .none)).loop j).state = .off) ∧
      ((closing .active 2 0 ⟨3120, 50, 75⟩).loop 0).closes (some ⟨40002000, 2000, 3120⟩) = some 3120 ∧
      ((closing .active 2 0 ⟨3120, 50, 75⟩).loop 0).closes (some ⟨40000999, 2000, 3120⟩) = none ∧
      refWin.endIn ⟨40002000, 2000, 3120⟩ ≠ none ∧ (⟨39997441, 2560, 3120⟩ : Cov).finds refWin.start = some 3120 ∧
      (⟨40006000, 2560, 3120⟩ : Cov).finds refWin.start = none) ∧
    (ends (closing .active 2 0 ⟨3120, 50, 75⟩) = (.active, 0, 0) ∧ ends (closing .active 2 0 ⟨3120, 49, 75⟩) = (.hold, 3, 0) ∧
      ends (closing .active 1 0 ⟨3120, 49, 75⟩) = (.active, 2, 0) ∧ ends (closing .seeking 0 1 ⟨3120, 50, 75⟩) = (.active, 0, 2) ∧
      ends (closing .seeking 0 1 ⟨3120, 49, 75⟩) = (.seeking, 0, 0)) := by
  refine ⟨?_, ?_⟩ <;> decide +kernel

/-- Entry 1 of the loop of camera 0 found at angle 1000 of revolution 3. -/
def foundAt (station : Nat) : State :=
  ring.onMu fun m => { m with loops := m.loops.modify 0 fun l => { l with
    state := .active
    entries := l.entries.set 1 { MarkEntry.empty with
      enabled := true, station := station, gain := 8, maxStep := 40, tolerance := 99, results := [⟨3, some 1000⟩] } } }

theorem witness_RegisterLoops_judge :
    (1 < ((foundAt 3).loop 0).entries.length ∧ (((foundAt 3).loop 0).entry 1).enabled = true ∧
      (((foundAt 3).loop 0).entry 1).result 3 = some ⟨3, some 1000⟩ ∧
      ((1000 : Nat) - (900 : Nat) - (((foundAt 3).loop 0).entry 1).nominal - 100 : Int) % 4294967296 = 0 ∧
      1 < camC.toleranceCount ∧ ((foundAt 3).loop 0).state = .active ∧ (((foundAt 3).loop 0).entry 1).hold = false ∧
      3 ≠ (foundAt 3).ownStation ∧ 12 = (foundAt 12).ownStation ∧ (foundAt 3).mc.link.inRing = true ∧
      (foundAt 3).laneOf 4 = .urgent ∧ (foundAt 3).rp.urgent.length < 8 ∧ (foundAt 3).mu.sendList = [] ∧
      (foundAt 3).causeTrue 17 1 = false) ∧
    ((State.judge 0 camC 3 900 (foundAt 3) 1).rp.urgent = [wholeFrame .correction 3 (correctionPayload 0 (-40))] ∧
      (((State.judge 0 camC 3 900 (foundAt 3) 1).loop 0).entry 1).tolCount = 1 ∧
      (((State.judge 0 camC 3 901 (foundAt 3) 1).loop 0).entry 1).tolCount = 0 ∧
      (State.judge 0 { camC with toleranceCount := 1 } 3 900 (foundAt 3) 1).causeTrue 17 1 = true) := by
  refine ⟨?_, ?_⟩ <;> decide +kernel

theorem witness_RegisterLoops :
    ((takes .normal (.loadMarkTable 4 0 256) ring).taken .normal = some (.loadMarkTable 4 0 256) ∧
      (takes .normal (.startRegister 4) ring).taken .normal = some (.startRegister 4) ∧
      (takes .normal (.stopRegister 255) ring).taken .normal = some (.stopRegister 255)) ∧
    ((takes .normal (.loadMarkTable 0 0 256) ring).taken .normal = some (.loadMarkTable 0 0 256) ∧ ring.camCfg 1 = none ∧
      ((refS .hold (.loadMarkTable 0 0 256)).loop 0).state ≠ .off ∧ (ring.camCfg 0).isSome = true ∧
      (ring.loop 0).state = .off ∧ 255 < 256 ∧ 256 ≤ 256) ∧
    (ring.cmp.ready .markTableRead .normal = none ∧
      tableS.cmp.ready .markTableRead .normal = some (xfer .markTableRead .normal) ∧
      tableS.working = some (.loadMarkTable (0 : Fin 4).val 4096 256) ∧ checkMarkTable (markBlock 2) = .inr 0 ∧
      checkMarkTable (markBlock 1) = .inl ((List.range 8).map (markEntryFields (markBlock 1))) ∧
      rd (markBlock 2) 0 1 = 2) ∧
    ((refS .off (.startRegister 0)).taken .normal = some (.startRegister 0) ∧
      ((refS .off (.startRegister 0)).loop 0).state = .off ∧
      (((refS .off (.startRegister 0)).loop 0).entry 0).enabled = true ∧ ((ring.loop 0).entry 0).enabled = false ∧
      ((refS .active (.startRegister 0)).loop 0).state ≠ .off) ∧
    ((refS .off (.stopRegister 0)).taken .normal = some (.stopRegister 0) ∧
      ((refS .off (.stopRegister 0)).loop 0).state = .off ∧ ((refS .hold (.stopRegister 0)).loop 0).state ≠ .off) := by
  refine ⟨?_, ?_, ?_, ?_, ?_⟩ <;> decide +kernel

theorem witness_RearmRegister : (takes .normal (.rearmRegister 4) ring).taken .normal = some (.rearmRegister 4) ∧
    (refS .off (.rearmRegister 0)).taken .normal = some (.rearmRegister (0 : Fin 4).val) ∧
    ((refS .off (.rearmRegister 0)).loop 0).state = .off ∧ ((refS .seeking (.rearmRegister 0)).loop 0).state = .seeking ∧
    ((refS .active (.rearmRegister 0)).loop 0).state = .active ∧ ((refS .paused (.rearmRegister 0)).loop 0).state = .paused ∧
    ((refS .hold (.rearmRegister 0)).loop 0).state = .hold ∧
    ((refS .active (.rearmRegister 0)).loop 0).entries.any (·.hold) = false ∧
    (((refS .active (.rearmRegister 0)).onLoop 0 fun l => { l with entries := l.entries.map fun e => { e with hold := true } }).loop
      0).entries.any (·.hold) = true := by decide +kernel

theorem witness_MarkPosition : ({ MarkEntry.empty with acc := some ⟨3, 50, 75⟩ } : MarkEntry).acc = some ⟨3, 50, 75⟩ ∧
    1 ≤ 50 ∧ (⟨3, 49, 75⟩ : Acc).weight < 50 ∧ 50 ≤ (⟨3, 50, 75⟩ : Acc).weight := by decide +kernel

/-! ## Witnesses: trips -/

def tripC (a : TripAction) (origin cause detail : Nat) (cat : Category) : Copy :=
  cop .trip origin (tripPayload a ⟨origin, cause, detail⟩ cat .ring 7 12)
def hearsTrip (c : Copy) (table : List TripEntry) : State := { ring.tu' (fun u => { u with table := table }) with inTu := [c] }
def full : List TripEntry := (List.range 32).map fun n => tripE 31 2 n .warn .ring .active 0
def key310 : TripKey := ⟨3, 1, 0⟩

theorem witness_TripRaises :
    (ring.inTu = [] ∧ parseTrip (cop .trip 3 (fill 12)).payload = none) ∧
    parseTrip (tripC .raise 3 1 0 .torqueOff).payload = some (.raise, 1, 0, .torqueOff, 7, 12) ∧
    parseTrip (tripC .raise 3 1 0 .warn).payload = some (.raise, 1, 0, .warn, 7, 12) ∧
    ((⟨(parseHeader (tripC .raise 3 1 0 .torqueOff).header).origin, 1, 0⟩ : TripKey) = key310 ∧
      key310.origin ≠ ring.ownStation ∧ 2 ≤ Category.torqueOff.code ∧ ring.su.list.length ≤ 6 ∧
      (ring.su' fun u => { u with list := (List.range 6).map fun n => .release 3 n (9 + n) }).su.list.length ≤ 6) ∧
    ((hearsTrip (tripC .raise 3 1 0 .warn) (full.take 31)).tu.entry key310 = none ∧
      (hearsTrip (tripC .raise 3 1 0 .warn) (full.take 31)).tu.table.length < 32 ∧
      (hearsTrip (tripC .raise 3 1 0 .warn) full).tu.entry key310 = none ∧
      32 ≤ (hearsTrip (tripC .raise 3 1 0 .warn) full).tu.table.length ∧ ring.tu.first = none ∧
      ((hearsTrip (tripC .raise 3 1 0 .warn) []).onTu fun u => { u with first := some default }).tu.first.isSome = true ∧
      (hearsTrip (tripC .raise 3 1 0 .warn) [tripE 3 1 0 .warn .ring .cleared 0]).tu.entry key310 =
        some (tripE 3 1 0 .warn .ring .cleared 0)) ∧
    (ring.tu.entry key310 = none ∧ (tripE 3 1 0 .warn .ring .cleared 6).state ≠ .active ∧
      (tripE 3 1 0 .warn .ring .active 5).quiet ≠ 6 ∧ (tripE 12 1 0 .warn .ring .active 6).key.origin = ring.ownStation) ∧
    ((ring.tu' fun u => { u with table := [tripE 3 1 0 .warn .ring .active 6] }).tu.entry ⟨3, 1, 0⟩ =
        some (tripE 3 1 0 .warn .ring .active 6) ∧ 3 ≠ ring.ownStation ∧ ring.tu.noticeOut = false ∧
      ring.tu.noticeHeld = false ∧ (ring.tu' fun u => { u with noticeOut := true }).tu.noticeOut = true ∧
      (ring.tu' fun u => { u with noticeHeld := true }).tu.noticeHeld = true ∧
      (ring.cmp' fun c => { c with event := EvQ.reset }).cmp.event.run = false ∧ ring.cmp.event.run = true ∧
      (ring.cmp' fun c => { c with urgent := CmdQ.reset }).cmp.urgent.run = false) := by
  refine ⟨?_, ?_, ?_, ?_, ?_, ?_, ?_⟩ <;> decide +kernel

/-- A raise taken with the source identifiers as they stand. -/
def sourced (cat : Category) (table : List TripEntry) (o p w : Option Nat) : Tu :=
  (after .tripCopy ((hearsTrip (tripC .raise 3 1 0 cat) table).onTu fun u =>
    { u with firstTorqueOff := o, firstStop := p, firstWarn := w })).tu

/-- R154: the source identifiers are set by new keys, and then stay. -/
theorem witness_TripRaises_sources :
    ((sourced .torqueOff [] none none none).firstTorqueOff = some 3 ∧ (sourced .fastStop [] none none none).firstStop = some 3 ∧
      (sourced .normalStop [] none none none).firstStop = some 3 ∧ (sourced .warn [] none none none).firstWarn = some 3) ∧
    ((sourced .torqueOff [] (some 4) none none).firstTorqueOff = some 4 ∧ (sourced .torqueOff [] (some 4) none none).multiTorqueOff = true ∧
      (sourced .torqueOff [] none none none).multiTorqueOff = false ∧
      (sourced .warn [] (some 4) (some 0) (some 31)).firstWarn = some 31) ∧
    ((after .tripCopy (hearsTrip (tripC .raise 3 1 0 .warn) [])).causeTrue 12 0 = (hearsTrip (tripC .raise 3 1 0 .warn) []).causeTrue 12 0 ∧
      (sourced .warn [tripE 3 1 0 .warn .ring .cleared 0] none none none).firstWarn = none ∧
      (sourced .warn [tripE 3 1 0 .warn .ring .cleared 0] none none none).first = none) := by
  refine ⟨?_, ?_, ?_⟩ <;> decide +kernel

theorem witness_RefreshAndClear :
    (parseTrip (tripC .refresh 3 1 0 .warn).payload = some (.refresh, 1, 0, .warn, 7, 12) ∧
      (hearsTrip (tripC .refresh 3 1 0 .warn) [tripE 3 1 0 .warn .ring .active 0]).tu.entry key310 =
        some (tripE 3 1 0 .warn .ring .active 0) ∧
      (hearsTrip (tripC .refresh 3 1 0 .warn) []).tu.entry key310 = none ∧
      (tripE 3 1 0 .warn .ring .orphaned 0).state ≠ .active ∧ (tripE 3 1 0 .warn .ring .active 0).quiet ≠ 6 ∧
      (hearsTrip (tripC .refresh 3 1 0 .warn) [tripE 3 1 0 .warn .ring .active 6]).tu.entry key310 =
        some (tripE 3 1 0 .warn .ring .active 6) ∧ key310.origin ≠ ring.ownStation) ∧
    (parseTrip (tripC .clear 3 1 0 .warn).payload = some (.clear, 1, 0, .warn, 7, 12) ∧
      (hearsTrip (tripC .clear 3 1 0 .warn) []).tu.entry key310 = none ∧
      (tripE 3 1 0 .warn .ring .cleared 0).state = .cleared ∧
      (hearsTrip (tripC .clear 3 1 0 .warn) [tripE 3 1 0 .warn .ring .orphaned 0]).tu.entry key310 =
        some (tripE 3 1 0 .warn .ring .orphaned 0) ∧ ring.tu.noticeOut = false ∧ ring.holdsNotice = false ∧
      (ring.onTu fun u => { u with noticeHeld := true }).holdsNotice = true) := by
  refine ⟨?_, ?_⟩ <;> decide +kernel

def hostTrip (c : HostCmd) (causes : List OwnCause) (map : List (Category × Scope)) : State :=
  takes .urgent c { ring.tu' (fun u => { u with causes := causes }) with cfg := some { cfgC with causeMap := map } }

/-- R148, R150, R151: the frames of an own cause in and outside the ring. -/
theorem witness_CabinetInputs_frames :
    (ring.causeTrue 1 0 = false ∧ ring.mc.link.isMember = true ∧ laneKinds (ring.reportTrue 1 0) = [.trip] ∧
      laneKinds ((ring.link .listen).reportTrue 1 0) = [] ∧ (ring.link .listen).mc.link.isMember = false ∧
      laneKinds (ring.reportTrue 7 0) = [] ∧ (ring.causeEntry 7).2 = .here ∧ laneKinds (ring.reportTrue 2 0) = [] ∧
      (ring.causeEntry 2).1 = .masked ∧ (ring.causeEntry 12).2 = .here) ∧
    (({ ring.tu with causes := [⟨1, 0, 7, 12⟩] } : Tu).causes.find? (fun y => y.cause == 1 && y.detail == 0) = some ⟨1, 0, 7, 12⟩ ∧
      laneKinds ((ring.tu' fun u => { u with causes := [⟨1, 0, 7, 12⟩] }).reportFalse 1 0) = [.trip] ∧
      laneKinds (((ring.link .dark).onTu fun u => { u with causes := [⟨1, 0, 7, 12⟩] }).reportFalse 1 0) = []) := by
  refine ⟨?_, ?_⟩ <;> decide +kernel

theorem witness_TripCommands :
    ((hostTrip (.raiseHostTrip 256) [] defaultCauseMap).taken .urgent = some (.raiseHostTrip 256) ∧
      (hostTrip (.raiseHostTrip 255) [⟨19, 255, 0, 0⟩] defaultCauseMap).causeTrue 19 255 = true ∧
      (hostTrip (.raiseHostTrip 255) [] defaultCauseMap).causeTrue 19 255 = false ∧
      ((hostTrip (.raiseHostTrip 255) [] []).causeEntry 19).1 = .masked ∧
      ((hostTrip (.raiseHostTrip 255) [] defaultCauseMap).causeEntry 19).1 ≠ .masked ∧
      (hostTrip (.raiseHostTrip 255) [] defaultCauseMap).tu.entry ⟨12, 19, 255⟩ = none ∧
      (hostTrip (.raiseHostTrip 255) [] defaultCauseMap).tu.table.length < 32) ∧
    ((hostTrip (.clearHostTrip 256) [] defaultCauseMap).taken .urgent = some (.clearHostTrip 256) ∧
      (hostTrip (.clearHostTrip 255) [] defaultCauseMap).causeTrue 19 255 = false ∧
      (hostTrip (.clearHostTrip 255) [⟨19, 255, 0, 0⟩] defaultCauseMap).causeTrue 19 255 = true) ∧
    (hostTrip .acknowledgeTrips [] defaultCauseMap).taken .urgent = some .acknowledgeTrips := by
  refine ⟨?_, ?_, ?_⟩ <;> decide +kernel

/-! ## Witnesses: operator screens -/

def tileC (m : TileCtl) : Copy := cop .tileControl 3 (tileCtlPayload m)
def id5 : TileId := ⟨3, 1, 5⟩
def tileT (st : TileState) (held awaited : Option Nat) (requests progress : Nat) (mark : Option GroupMark) : Tile :=
  { id := id5, state := st, held := held, awaited := awaited, pixels := none, refs := 1, requests := requests
    progress := progress, mark := mark }
def tiled (l : List Tile) (f : List FillSlot) (c : List Copy) : State :=
  { ring.scu' (fun u => { u with tiles := l, fills := f }) with inScu := c }
def part : List Byte := List.replicate 128 7
/-- Fragment 15 of 16 of version 8 of a tile. -/
def fragC : Copy :=
  { cop .tileData 3 (tileDataPayload 1 2 5 8 1 part) with
    header := launchHeader { wholeFrame .tileData 0 (fill 136) with fragIndex := 15, fragCount := 16 } 3 5 0 0 }
def fragF : TileFrag := { id := id5, version := 8, group := 2, count := 1, index := 15, pixels := part }
def slot15 : FillSlot := { id := id5, version := 8, group := 2, parts := List.replicate 15 (some part) ++ [none] }
def slots8 : List FillSlot := (List.range 8).map fun n => { slot15 with id := ⟨4, 1, n⟩ }

/-- Tile `n` of page 1 of station 3 at version 7, awaiting version 8 in group 2. -/
def memberT (n : Nat) : Tile := { tileT .stale (some 7) (some 8) 0 0 (some ⟨2, 9⟩) with id := ⟨3, 1, n⟩ }
def slotOf (n : Nat) (last : Option (List Byte)) : FillSlot :=
  { slot15 with id := ⟨3, 1, n⟩, parts := List.replicate 15 (some part) ++ [last] }
/-- Tiles 5 and 6 in one group: tile 6 has a complete slot, tile 5 lacks its last part. -/
def pairS (c : List Copy) : State := tiled [memberT 5, memberT 6] [slotOf 5 none, slotOf 6 (some part)] c
/-- What became of the two tiles: held version, mark, and whether a slot is left. -/
def fates (s : State) : List (Option (Option Nat × Bool) × Bool) :=
  [5, 6].map fun n => ((s.scu.tile ⟨3, 1, n⟩).map fun t => (t.held, t.mark.isSome), (s.scu.fillOf ⟨3, 1, n⟩).isSome)

/-- R173: the last fragment of a group commits it whole; when tile 5 leaves the group by an invalidate of a single tile, by one of
another group or by FAILED, tile 6 is committed at once; one that stays keeps it waiting (log 50). -/
theorem test_group_left :
    fates (after .tileDataFragment (pairS [fragC])) = [(some (some 8, false), false), (some (some 8, false), false)] ∧
    fates (after .tileInvalidate (pairS [tileC (.invalidate 9 1 [(1, 5, 9)])])) =
      [(some (some 7, false), true), (some (some 8, false), false)] ∧
    fates (after .tileInvalidate (pairS [tileC (.invalidate 9 2 [(1, 5, 9), (1, 7, 9)])])) =
      [(some (some 7, true), true), (some (some 8, false), false)] ∧
    fates (after .tileInvalidate (pairS [tileC (.invalidate 2 2 [(1, 5, 9), (1, 7, 9)])])) =
      [(some (some 7, true), true), (some (some 7, true), true)] ∧
    fates (after (.tileProgressTimeout 20000000 3 1 5) ((pairS []).onScu fun u =>
        { u with tiles := [{ memberT 5 with requests := 3 }, memberT 6] })) =
      [(some (some 7, false), false), (some (some 8, false), false)] := by
  refine ⟨?_, ?_, ?_, ?_, ?_⟩ <;> decide +kernel

theorem witness_TileCopies_groups :
    (Lists [(1, 5, 9), (1, 7, 9)] 1 5 9 ∧ (pairS []).scu.tile ⟨3, 1, 5⟩ = some (memberT 5) ∧ ((pairS []).scu.tiles.map (·.id)).Nodup ∧
      newerThan 9 (memberT 5).awaited = true ∧ (pairS []).scu.filled ⟨3, 1, 5⟩ = false ∧ (memberT 5).mark = some ⟨2, 9⟩ ∧
      memberT 6 ∈ (pairS []).scu.tiles ∧ (memberT 6).inGroup 3 2 = true ∧ (memberT 6).id ≠ (memberT 5).id ∧
      (pairS []).scu.filled ⟨3, 1, 6⟩ = true ∧ (pairS []).scu.fillOf ⟨3, 1, 6⟩ = some (slotOf 6 (some part)) ∧
      (∀ y ∈ (pairS []).scu.tiles, y.inGroup 3 2 = true → y.id ≠ (memberT 5).id → (pairS []).scu.filled y.id = true ∧
        ∀ z ∈ [((1, 5, 9) : Nat × Nat × Nat), (1, 7, 9)], (z.1, z.2.1) ≠ (y.id.page, y.id.index))) ∧
    ((memberT 6).inGroup 3 9 = false ∧ ((pairS []).onScu fun u => { u with tiles := [{ memberT 5 with mark := none }, memberT 6] }
      ).scu.tile ⟨3, 1, 6⟩ = some (memberT 6)) ∧
    (newerThan fragF.version (memberT 5).held = true ∧ (pairS []).scu.fillOf fragF.id = some (slotOf 5 none) ∧
      (memberT 5).awaited = some fragF.version ∧
      ((slotOf 5 none).parts.set fragF.index (some fragF.pixels)).all Option.isSome = true ∧
      (∃ z ∈ ((pairS []).onScu fun u => { u with fills := [slotOf 5 none] }).scu.tiles, z.inGroup 3 2 = true ∧ z.id ≠ fragF.id ∧
        ((pairS []).onScu fun u => { u with fills := [slotOf 5 none] }).scu.filled z.id = false) ∧
      newerThan fragF.version (some 8) = false) ∧
    ((pairS []).scu.tile ⟨3, 1, 6⟩ = some (memberT 6) ∧ (memberT 6).mark ≠ none ∧ Lists [(1, 6, 9)] 1 6 9 ∧
      fates (after .tileInvalidate (pairS [tileC (.invalidate 9 1 [(1, 6, 9)])])) =
        [(some (some 7, true), true), (some (some 8, false), false)]) := by
  refine ⟨?_, ?_, ?_, ?_⟩ <;> decide +kernel

theorem witness_TileCopies :
    ring.inScu = [] ∧
    ((tileC (.invalidate 2 1 [(1, 5, 8)])).tileCtl = some (.invalidate 2 1 [(1, 5, 8)]) ∧
      (tileC (.invalidate 2 1 [(1, 5, 8)])).origin = 3 ∧
      (tiled [tileT .valid (some 7) none 0 0 none] [] []).scu.tile id5 = some (tileT .valid (some 7) none 0 0 none) ∧
      newerThan 8 (some 7) = true ∧ newerThan 8 (some 8) = false ∧ newerThan 32775 (some 8) = true ∧
      newerThan 32776 (some 8) = false ∧ (1, 6) ≠ ((1, 5) : Nat × Nat) ∧
      (tiled [tileT .stale (some 7) (some 8) 0 0 none] [] []).scu.tile id5 = some (tileT .stale (some 7) (some 8) 0 0 none) ∧
      (tiled [tileT .failed none none 3 0 none] [] []).scu.tile id5 = some (tileT .failed none none 3 0 none) ∧
      newerThan 8 none = true ∧ (tiled [tileT .valid (some 7) none 0 0 none] [] []).scu.filled id5 = false) ∧
    ((parseHeader fragC.header).kindCode = Kind.tileData.code ∧
      parseTileData fragC.origin (parseHeader fragC.header).fragIndex (fill 135) = none ∧
      parseTileData fragC.origin (parseHeader fragC.header).fragIndex fragC.payload = some fragF) ∧
    ((tiled [] [] [fragC]).scu.tile id5 = none ∧ newerThan fragF.version (some 8) = false) ∧
    (8 ≤ (tiled [tileT .wanted none none 0 0 none] slots8 [fragC]).scu.fills.length ∧
      (tiled [tileT .wanted none none 0 0 none] slots8 [fragC]).scu.fillOf id5 = none ∧
      (tiled [tileT .wanted none none 0 0 none] (slots8.take 7) [fragC]).scu.fills.length < 8) ∧
    ((tiled [tileT .wanted none (some 8) 0 0 none] [slot15] [fragC]).scu.fillOf id5 = some slot15 ∧
      newerThan fragF.version none = true ∧ slot15.version = fragF.version ∧ slot15.group = fragF.group ∧
      (slot15.parts.set fragF.index (some fragF.pixels)).all Option.isSome = true) ∧
    (tileC (.request (some 7) 1 5)).tileCtl = some (.request (some 7) 1 5) ∧
    (tileC (.touch true 1 2 5 31)).tileCtl = some (.touch true 1 2 5 31) := by
  refine ⟨?_, ?_, ?_, ?_, ?_, ?_, ?_, ?_⟩ <;> decide +kernel

def viewer (station slot : Nat) : Viewer := { station := station, slot := slot, decimation := 1, width := 64, last := none }
def viewing (l : List Viewer) (v : ViewSlot) (c : Copy) : State :=
  { ring.scu' (fun u => { u with viewers := u.viewers.set 0 l, view0 := v }) with inScu := [c] }
def viewers8 : List Viewer := (List.range 8).map fun n => viewer (n + 4) 0
def tagV (angle : Nat) : LineTag := ⟨3, 0, angle, true, false⟩
def lineC (angle : Nat) : Copy := cop .viewLine 3 (viewLinePayload 0 1 (tagV angle) [5])
def lineC0 : Copy := lineC 0
def lineM (angle : Nat) : ViewLineMsg := { station := 3, slot := 0, cam := 1, tag := tagV angle, column := 0, pixels := [5] }

theorem witness_ViewCopies :
    ((tileC (.viewRequest 1 0 2 64)).tileCtl = some (.viewRequest 1 (0 : Fin 4).val 2 64) ∧ ring.camCfg 0 = some camC ∧
      ((viewing (viewers8.take 7) .reset lineC0).scu.viewers.get 0).any (fun v => v.hasKey 3 1) = false ∧
      ((viewing (viewers8.take 7) .reset lineC0).scu.viewers.get 0).length < 8 ∧
      ((viewing [viewer 3 1] .reset lineC0).scu.viewers.get 0).any (fun v => v.hasKey 3 1) = true ∧
      ((viewing viewers8 .reset lineC0).scu.viewers.get 0).any (fun v => v.hasKey 3 1) = false ∧
      8 ≤ ((viewing viewers8 .reset lineC0).scu.viewers.get 0).length ∧
      (tileC (.viewRequest 1 0 2 64)).origin ≠ ring.ownStation ∧ ring.mc.link.inRing = true) ∧
    ((tileC (.viewRequest 1 4 2 64)).tileCtl = some (.viewRequest 1 4 2 64) ∧ ring.camCfg 3 = none) ∧
    (tileC (.viewStop 1 0)).tileCtl = some (.viewStop 1 (0 : Fin 4).val) ∧
    ((tileC (.viewRefusal 0 1 2)).tileCtl = some (.viewRefusal (0 : Fin 2).val 1 2) ∧ (insetAt 0).state.takes = true ∧
      (insetAt 0).station = (tileC (.viewRefusal 0 1 2)).origin ∧ ViewSlot.reset.state.takes = false ∧
      (tileC (.viewRefusal 2 1 2)).tileCtl = some (.viewRefusal 2 1 2)) ∧
    ((parseHeader lineC0.header).kindCode = Kind.viewLine.code ∧
      parseViewLine 3 0 (cop .viewLine 3 (fill 13)).payload = none ∧
      parseViewLine lineC0.origin (parseHeader lineC0.header).fragIndex lineC0.payload = some (lineM 0) ∧
      (lineM 0).slot = (0 : Fin 2).val ∧ (insetAt 0).cam = (lineM 0).cam ∧ (insetAt 0).row = none ∧
      ({ insetAt 0 with row := some (63, tagV 1) } : ViewSlot).row = some (63, tagV 1) ∧ tagV 1 ≠ (lineM 0).tag ∧
      tagV 0 = (lineM 0).tag) := by
  refine ⟨?_, ?_, ?_, ?_, ?_⟩ <;> decide +kernel

def marked : List Tile := [tileT .stale (some 7) (some 8) 0 0 (some ⟨2, 40005000⟩)]

def slotFull (version : Nat) : FillSlot := { slot15 with version := version, parts := List.replicate 16 (some part) }

theorem witness_ScreenTimes :
    ((tiled marked [] []).scu.tiles.any (Tile.overdue (max (tiled marked [] []).now 40004999) 3 2) = false ∧
      (tiled marked [] []).scu.tiles.any (Tile.overdue (max (tiled marked [] []).now 40005000) 3 2) = true ∧
      ((tiled marked [] []).scu.tiles.map (·.id)).Nodup ∧ (tileT .stale (some 7) (some 8) 0 0 (some ⟨2, 9⟩)).inGroup 3 2 = true ∧
      (tileT .stale (some 7) (some 8) 0 0 none).inGroup 3 2 = false ∧ (tiled marked [] []).scu.filled id5 = false) ∧
    ((tiled marked [slotFull 8] []).scu.fillOf id5 = some (slotFull 8) ∧ (∀ p ∈ (slotFull 8).parts, p.isSome = true) ∧
      newer 16 8 7 = true ∧ newer 16 8 8 = false ∧
      ((after (.groupDeadline 40005000 3 2) (tiled marked [slotFull 8] [])).scu.tile id5).map (fun x => (x.state, x.held)) =
        some (.valid, some 8) ∧
      ((after (.groupDeadline 40005000 3 2) (tiled marked [slotFull 7] [])).scu.tile id5).map (fun x => (x.state, x.held)) =
        some (.stale, some 7)) ∧
    (ring.scu.tile id5 = none ∧ (tiled [tileT .valid (some 7) none 0 0 none] [] []).scu.watched (tileT .valid (some 7) none 0 0 none) =
        false ∧ max ring.now 20004999 < 5000 + 20000000) ∧
    ((tiled [tileT .wanted none none 2 5000 none] [] []).scu.tile ⟨3, 1, 5⟩ = some (tileT .wanted none none 2 5000 none) ∧
      (tiled [tileT .wanted none none 2 5000 none] [] []).scu.watched (tileT .wanted none none 2 5000 none) = true ∧
      5000 + 20000000 ≤ max ring.now 20005000 ∧ 2 < 3 ∧ 3 ≠ ring.ownStation ∧ ring.mc.link.inRing = true) ∧
    ((tileT .wanted none none 3 5000 none).requests = 3 ∧ (tileT .wanted none none 3 5000 none).mark = none ∧
      (pairS []).scu.watched (memberT 5) = true ∧ ring.screen = true ∧ State.reset.screen = false) := by
  refine ⟨?_, ?_, ?_, ?_, ?_⟩ <;> decide +kernel

def mapped (a l : Nat) (s : State) : State := takes .normal (.setPageMap a l) s
/-- An assignment of the tile 5 of page 1 of station 3 to a position. -/
def assignB (pos : Nat) : List Byte := le 2 pos ++ [1, 3, 1, 0] ++ le 2 5
def mapS : State := awaits (.setPageMap 4096 8) (xfer .pageMapRead .normal) ring
def fullStore : List Tile := (List.range 512).map fun n => { tileT .valid (some 7) none 0 0 none with id := ⟨5, 1, n⟩, refs := 2 }

theorem witness_PageMapCommand :
    ((mapped 0 8 State.reset).taken .normal = some (.setPageMap 0 8) ∧ (mapped 0 8 State.reset).screen = false ∧
      (mapped 0 6152 ring).screen = true ∧ 6144 < 6152 ∧ 12 % 8 ≠ 0 ∧ 6144 % 8 = 0 ∧ 8 ≤ 6144) ∧
    (ring.cmp.ready .pageMapRead .normal = none ∧
      mapS.cmp.ready .pageMapRead .normal = some (xfer .pageMapRead .normal) ∧
      mapS.working = some (.setPageMap 4096 8) ∧ parseAssignments (assignB 768) (8 / 8) = .inr 0 ∧
      parseAssignments (assignB 767) (8 / 8) = .inl [(767, .tile id5)] ∧ mapS.scu.tile id5 = none ∧
      mapS.scu.tiles.length < 512 ∧ 767 < mapS.scu.pageMap.length) ∧
    ((mapS.onScu fun u => { u with tiles := fullStore }).scu.tile id5 = none ∧
      512 ≤ (mapS.onScu fun u => { u with tiles := fullStore }).scu.tiles.length ∧
      ∀ y ∈ (mapS.onScu fun u => { u with tiles := fullStore }).scu.tiles, 2 ≤ y.refs) := by
  refine ⟨?_, ?_, ?_⟩ <;> decide +kernel

def published (a l : Nat) (s : State) : State := takes .normal (.publishTiles a l) s
def pubB (page : Byte) : List Byte := [page, 0] ++ le 2 767 ++ le 2 8 ++ fill 2 ++ le 8 8192
def pubT : PubTile := ⟨63, 767, 8, 8192⟩
def pubS : State := awaits (.publishTiles 4096 16) (xfer .publishListRead .normal) ring
def readS (tiles : List PubTile) (bulk : Nat) : State :=
  (awaits (.publishTiles 4096 16) (xfer .tileRead .normal) ring).onRp (fun r => { r with bulk := List.replicate bulk hello0 })
    |>.onScu fun u => { u with pub := some ⟨2, 1, tiles, true⟩ }

theorem witness_Publishing :
    ((published 0 16 State.reset).taken .normal = some (.publishTiles 0 16) ∧ (published 0 16 State.reset).cfg = none ∧
      (published 0 128 ring).cfg.isSome = true ∧ 128 % 16 = 0 ∧ 16 ≤ 128 ∧ 128 < 144 ∧ 24 % 16 ≠ 0) ∧
    (ring.cmp.ready .publishListRead .normal = none ∧
      ring.cmp.ready .tileRead .normal = none) ∧
    (pubS.cmp.ready .publishListRead .normal = some (xfer .publishListRead .normal) ∧
      pubS.working = some (.publishTiles 4096 16) ∧ parsePublish (pubB 64) (16 / 16) = none ∧
      parsePublish (pubB 63) (16 / 16) = some [pubT] ∧ pubS.mc.link.inRing = true ∧
      (after (.publishListReadComplete 0 (.data (pubB 63))) pubS).pubWaits = false) ∧
    ((readS [] 0).cmp.ready .tileRead .normal = some (xfer .tileRead .normal) ∧
      mapS.scu.pub = none ∧ (readS [] 0).scu.pub = some ⟨2, 1, [], true⟩) ∧
    ((readS [pubT] 16).scu.pub = some ⟨2, 1, [pubT], true⟩ ∧ (readS [pubT] 16).mc.link.inRing = true ∧
      (readS [pubT] 16).laneOf 6 = .bulk ∧ (readS [pubT] 16).rp.waitList = [] ∧ (readS [pubT] 16).rp.bulk.length + 16 ≤ 32 ∧
      (after (.tileReadComplete 0 (.data [])) (readS [pubT] 16)).pubWaits = false ∧
      (after (.tileReadComplete 0 (.data [])) (readS [pubT] 17)).pubWaits = true ∧ [pubT] ≠ [] ∧
      (readS [pubT] 16).cmp.normal.inFlight = some ⟨2, .publishTiles 4096 16, .working⟩) := by
  refine ⟨?_, ?_, ?_, ?_, ?_⟩ <;> decide +kernel

/-- R167: behind a Tile request that waits, the invalidate enters the bulk lane ahead of its data, and no tile is read before. -/
def requestF : LaneFrame := wholeFrame .tileControl 3 (tileCtlPayload (.request none 1 5))
def fullBulk : State :=
  (pubS.onRp fun r => { r with bulk := List.replicate 32 hello0, waitList := [5], held := [requestF] })
def announceS : State := after (.publishListReadComplete 0 (.data (pubB 63))) fullBulk

theorem test_publish_announces : announceS.pubWaits = true ∧ announceS.scu.pub = some ⟨0, 1, [pubT], false⟩ ∧
    announceS.rp.held.map (·.dest) = [3, 0] ∧ announceS.cmp.dma.all (fun x => x.purpose != .tileRead) = true := by
  decide +kernel

def opening (n st cam k pos w h : Nat) (s : State) : State := takes .normal (.openView n st cam k pos w h) s
def shown (s : ViewState) : State := ring.scu' fun u => { u with view0 := { insetAt 0 with state := s } }

/-- OPEN VIEW of a camera of the own station, with the viewer set `l` at camera 0. -/
def opensOwn (cam : Nat) (l : List Viewer) : State :=
  opening 0 12 cam 1 0 1 1 (ring.scu' fun u => { u with viewers := u.viewers.set 0 l })

theorem witness_ViewCommands :
    ((opening 2 3 0 1 0 1 1 ring).taken .normal = some (.openView 2 3 0 1 0 1 1) ∧
      (takes .normal (.closeView 2) ring).taken .normal = some (.closeView 2)) ∧
    ((opening 0 3 0 1 0 1 1 State.reset).taken .normal = some (.openView (0 : Fin 2).val 3 0 1 0 1 1) ∧
      (opening 0 3 0 1 0 1 1 State.reset).screen = false ∧ ((shown .refused).scu.view 0).state ≠ .closed) ∧
    ((opening 1 31 3 64 600 8 6 ring).screen = true ∧ ((opening 1 31 3 64 600 8 6 ring).scu.view 1).state = .closed ∧
      600 % 32 + 8 ≤ 32 ∧ 600 / 32 + 6 ≤ 24 ∧ 600 < 768 ∧ 31 ≠ ring.ownStation ∧ 600 + 32 * 5 + 7 < ring.scu.pageMap.length ∧
      32 < 601 % 32 + 8 ∧ 24 < 632 / 32 + 6) ∧
    (12 = (opensOwn 0 []).ownStation ∧ (opensOwn 3 []).camCfg 3 = none ∧ (opensOwn 0 []).camCfg 0 = some camC ∧
      ((opensOwn 0 []).scu.viewers.get 0).any (fun x => x.hasKey 12 0) = false ∧
      ((opensOwn 0 [viewer 12 0]).scu.viewers.get 0).any (fun x => x.hasKey 12 0) = true ∧
      ((opensOwn 0 viewers8).scu.viewers.get 0).any (fun x => x.hasKey 12 0) = false ∧
      8 ≤ ((opensOwn 0 viewers8).scu.viewers.get 0).length ∧
      ((after .openView (opensOwn 0 viewers8)).scu.view 0).state = .refused ∧
      ((after .openView (opensOwn 3 [])).scu.view 0).state = .refused ∧
      ((after .openView (opensOwn 0 [])).scu.view 0).state = .requested) ∧
    ((takes .normal (.closeView 0) (shown .opened)).taken .normal = some (.closeView (0 : Fin 2).val) ∧
      (ring.scu.view 0).state = .closed ∧ ((shown .opened).scu.view 0).state.takes = true ∧
      ((shown .opened).scu.view 0).station ≠ ring.ownStation ∧ 33 ∈ ((shown .opened).scu.view 0).positions ∧
      ((shown .opened).onScu fun u => { u with pageMap := u.pageMap.set 33 (.inset 0) }).scu.pageMap.getD 33 .blank = .inset 0 ∧
      (shown .opened).scu.pageMap.getD 33 .blank ≠ .inset 0 ∧ 2 ∉ ((shown .opened).scu.view 0).positions ∧
      ((shown .refused).scu.view 0).state.takes = false) ∧
    (((shown .opened).onScu fun u => { u with view0 := { insetAt 0 with station := 12, state := .opened, cam := 0 } }).scu.view 0
      ).station = ring.ownStation := by
  refine ⟨?_, ?_, ?_, ?_, ?_, ?_⟩ <;> decide +kernel

/-! ## Witnesses: the Command Port -/

/-- Every queue stopped; the event queue set up validly. -/
def stoppedS : State := { parked with cmp := { Cmp.reset with event := { EvQ.reset with base := 32, size := 16 } } }
/-- Both command queues run, the event queue waits for its start, and the notice is held back. -/
def heldNotice : State :=
  { stoppedS with
    cmp :=
      { stoppedS.cmp with
        urgent := { CmdQ.reset with size := 8, run := true }, normal := { CmdQ.reset with size := 256, run := true } }
    tu := { stoppedS.tu with noticeHeld := true, changesPending := true } }

theorem maySetUp_stopped (q : QueueId) : stoppedS.cmp.MaySetUp q :=
  ⟨fun k => by cases k <;> decide +kernel, fun _ => by decide +kernel⟩

theorem witness_QueueSetup :
    (∀ q, stoppedS.cmp.MaySetUp q) ∧ ¬parked.cmp.MaySetUp .event ∧
    (64 % 65536 ≠ (stoppedS.cmp.setup (.cmd .urgent)).2.1 ∧ Nat.testBit 64 31 = false ∧
      (2147483648 + 64) % 65536 ≠ (stoppedS.cmp.setup (.cmd .urgent)).2.1 ∧ Nat.testBit (2147483648 + 64) 31 = true ∧
      setupValid (.cmd .urgent) (stoppedS.cmp.setup (.cmd .urgent)).1 ((2147483648 + 64) % 65536) = true ∧
      setupValid (.cmd .urgent) (stoppedS.cmp.setup (.cmd .urgent)).1 ((2147483648 + 65) % 65536) = false ∧
      stoppedS.tu.noticeHeld = false) ∧
    (16 % 65536 = (stoppedS.cmp.setup .event).2.1 ∧ (2147483648 + 16) % 65536 = (stoppedS.cmp.setup .event).2.1) ∧
    (parked.running .event = true ∧ setupValid (.cmd .normal) 0 257 = false ∧
      stoppedS.running .event = false ∧ setupValid .event (stoppedS.cmp.setup .event).1 (stoppedS.cmp.setup .event).2.1 = true) ∧
    (heldNotice.running .event = false ∧ setupValid .event (heldNotice.cmp.setup .event).1 (heldNotice.cmp.setup .event).2.1 = true ∧
      heldNotice.tu.noticeHeld = true ∧ heldNotice.running (.cmd .urgent) = true ∧ heldNotice.running (.cmd .normal) = true ∧
      heldNotice.tu.noticeOut = false ∧ heldNotice.tu.changesPending = true) ∧
    (parked.cmp.urgent.size < 65536 ∧ parked.cmp.normal.size < 65536 ∧ parked.cmp.event.size < 65536 ∧
      (0x4C : Nat) ∉ [0x00, 0x08, 0x10, 0x18, 0x20, 0x28, 0x30, 0x38, 0x3C, 0x40, 0x44, 0x48]) :=
  ⟨maySetUp_stopped, fun h => absurd (h.2 rfl).1 (by decide +kernel), by decide +kernel, by decide +kernel,
    by decide +kernel, by decide +kernel, by decide +kernel⟩

/-- A descriptor of the part with a command code. -/
def descB (owner : Byte) (code : Nat) : List Byte := [owner, 0] ++ le 2 code ++ fill 60
def fetchS (run : Bool) : State :=
  flying [xfer .descriptorRead .urgent] (ring.cmp' fun c => { c with urgent := { c.urgent with run := run, tail := 1, fetching := true } })
def answeredS (c : HostCmd) : State :=
  flying [xfer .resultWriteback .normal] (ring.cmp' fun p => { p with normal := { p.normal with inFlight := some ⟨2, c, .writing⟩ } })

theorem witness_Descriptors :
    ((ring.cmp.q .urgent).run = true ∧ 7 < (ring.cmp.q .urgent).size ∧ (ring.cmp.q .urgent).size ≤ 8 ∧
      (State.reset.cmp.q .urgent).run = false) ∧
    ((ring.cmp' fun c => { c with urgent := { c.urgent with tail := 1 } }).cmp.urgent.head ≠
        (ring.cmp' fun c => { c with urgent := { c.urgent with tail := 1 } }).cmp.urgent.tail ∧
      (ring.cmp.q .urgent).inFlight = none ∧ (ring.cmp.q .urgent).fetching = false ∧ (ring.cmp.q .urgent).waitTail = false ∧
      (ring.cmp.q .urgent).head = (ring.cmp.q .urgent).tail ∧ (takes .urgent .releaseStop ring).cmp.urgent.inFlight ≠ none) ∧
    (ring.cmp.ready .descriptorRead (queueUnit .urgent) = none ∧
      (fetchS true).cmp.ready .descriptorRead (queueUnit .urgent) = some (xfer .descriptorRead .urgent) ∧
      ((fetchS false).cmp.q .urgent).run = false ∧ ((fetchS true).cmp.q .urgent).run = true ∧
      ownerPart (descB 0 2) = false ∧ ownerPart (descB 1 2) = true ∧
      (decodeCommand (descB 1 0x0B)).queue = some .urgent ∧ (decodeCommand (descB 1 0x0C)).queue = none ∧
      (decodeCommand (descB 1 0x20)).queue = some .normal ∧ CmdQueue.normal ≠ .urgent) ∧
    (ring.cmp.ready .resultWriteback (queueUnit .normal) = none ∧
      (answeredS .join).cmp.ready .resultWriteback (queueUnit .normal) =
        some (xfer .resultWriteback .normal) ∧ HostCmd.join ≠ .warmReset ∧
      (answeredS .warmReset).cmp.normal.inFlight = some ⟨2, .warmReset, .writing⟩) := by
  refine ⟨?_, ?_, ?_, ?_⟩ <;> decide +kernel

def evA : Event := .tileWanted 3 1 5 none
def evS (head tail : Nat) (l : List Event) : State :=
  flying [xfer .eventWrite .event]
    (ring.cmp' fun c => { c with event := { c.event with head := head, tail := tail, awaiting := l, writing := true } })

theorem witness_EventQueue :
    ((evS 60 3 []).cmp.event.run = true ∧ 3 < (evS 60 3 []).cmp.event.size ∧ (evS 60 3 []).cmp.event.unread = 7 ∧
      (3 + ((evS 60 3 []).cmp.event.size - 60 % (evS 60 3 []).cmp.event.size)) % (evS 60 3 []).cmp.event.size ≤ 7 ∧
      7 < (4 + ((evS 60 3 []).cmp.event.size - 60 % (evS 60 3 []).cmp.event.size)) % (evS 60 3 []).cmp.event.size ∧
      (evS 60 3 []).cmp.event.size ≤ 64 ∧ State.reset.cmp.event.run = false) ∧
    (ring.cmp.ready .eventWrite .event = none ∧
      (evS 3 3 [evA]).cmp.ready .eventWrite .event = some (xfer .eventWrite .event) ∧
      (evS 3 3 [evA]).cmp.event.awaiting = evA :: [] ∧ (evS 3 63 [evA, evA]).cmp.event.awaiting = evA :: [evA] ∧
      (evS 3 3 [evA]).cmp.event.unread = 0) := by
  refine ⟨?_, ?_⟩ <;> decide +kernel

/-- A configuration block that passes: station 31, no axis, no camera, no screen. -/
def configB : List Byte := [31] ++ fill 23 ++ le 2 1 ++ le 2 1 ++ fill 484
def configS : State := awaits (.configure 4096 512) (xfer .configRead .normal) parked

/-- With a strip write in flight besides. -/
def configW : State := flying [xfer .configRead .normal, writeX] configS

/-- The configuration waits for that strip write. -/
def waitingS : State := after (.configReadComplete 0 (.data configB)) configW

theorem witness_Configuration :
    (takes .normal .warmReset ring).taken .normal = some .warmReset ∧
    ((takes .normal (.configure 0 512) parked).taken .normal = some (.configure 0 512) ∧ ring.mc.link.isOut = false ∧
      parked.mc.link.isOut = true ∧ 511 < 512) ∧
    (ring.cmp.ready .configRead .normal = none ∧
      configS.cmp.ready .configRead .normal = some (xfer .configRead .normal) ∧
      configS.cmp.normal.inFlight = some ⟨2, .configure 4096 512, .working⟩ ∧ checkConfig (fill 512) = .inr 16711680 ∧
      checkConfig configB = .inl (configFields configB)) ∧
    ((configS.onTu fun u => { u with first := some default }).tu.first.isSome = true ∧ configS.cmp.dmaErr = none ∧
      ((configS.onLoop 3 fun l => { l with state := .hold }).loop 3).state ≠ .off) ∧
    (configS.cmp.dma.any (fun y => y.purpose == .stripWrite) = false ∧
      configW.cmp.dma.any (fun y => y.purpose == .stripWrite) = true ∧
      configW.cmp.ready .configRead .normal = some (xfer .configRead .normal) ∧
      configW.cmp.normal.inFlight = some ⟨2, .configure 4096 512, .working⟩) ∧
    (waitingS.cu.draining = some (configFields configB) ∧ (gone writeX).purpose = .stripWrite ∧
      (gone writeX).unit = .camera 0 ∧ (gone writeX).strip = some ⟨.even, 8192, false⟩ ∧
      waitingS.cmp.dma.countP (fun y => y.purpose == .stripWrite) = 1 ∧
      waitingS.cmp.normal.inFlight = some ⟨2, .configure 4096 512, .working⟩ ∧
      waitingS.cmp.ready .stripWrite (.camera 0) = some (gone writeX)) ∧
    (FailsTransfer 0 (.stripWriteComplete 0 0 false) .errorCompletion (gone writeX) waitingS ∧
      FailsTransfer 1005000 (.dmaTimeout 1005000) .timeout (gone writeX) waitingS) := by
  refine ⟨?_, ?_, ?_, ?_, ?_, ?_, .inr ⟨rfl, by decide +kernel, 0, rfl, rfl⟩, .inl ⟨rfl, rfl, by decide +kernel⟩⟩ <;>
    decide +kernel

/-- R191, R115: every block waits for the last strip write; then they change at one moment, and CONFIGURE is DONE. -/
theorem test_configure_waits :
    (waitingS.cfg = some cfgC ∧ waitingS.su = configW.su ∧ waitingS.cam 0 = configW.cam 0 ∧
      waitingS.cmp.dma = [gone writeX]) ∧
    ((after (.stripWriteComplete 0 0 true) waitingS).cfg = some (configFields configB) ∧
      (after (.stripWriteComplete 0 0 true) waitingS).cu.draining = none ∧
      (after (.stripWriteComplete 0 0 true) waitingS).cam 0 = .reset ∧
      (after (.stripWriteComplete 0 0 true) waitingS).cmp.dma.getLast? = some (writeback .normal 1024 2 .done 0 5000)) := by
  refine ⟨?_, ?_⟩ <;> decide +kernel

def noticeS (out changes : Bool) : State :=
  awaits (.readTripTable 4096 1280) (xfer .imageWrite .normal) (ring.tu' fun u => { u with noticeOut := out, changesPending := changes })
def countX : Transfer := { xfer .imageWrite .normal with segs := [(4096, le 4 4294967295 ++ le 4 3 ++ fill 88 ++ [1] ++ fill 31)] }

theorem witness_ReadCommands :
    (State.reset.counters[23]? = some 0 ∧ State.reset.counters[24]? = none ∧
      ((takes .normal (.readRoster 0 512) ring).taken .normal = some (.readRoster 0 512) ∧
      (takes .normal (.readTripTable 0 1279) ring).taken .normal = some (.readTripTable 0 1279) ∧
      (takes .normal (.readLineState 0 200) ring).taken .normal = some (.readLineState 0 200) ∧
      (takes .normal (.readCounters 0 127) ring).taken .normal = some (.readCounters 0 127) ∧ 511 < 512 ∧ 1279 < 1280)) ∧
    (ring.cmp.ready .imageWrite .normal = none ∧
      (awaits (.readRoster 0 512) (xfer .imageWrite .normal) ring).working = some (.readRoster 0 512) ∧
      (awaits (.readLineState 0 200) (xfer .imageWrite .normal) ring).working = some (.readLineState 0 200) ∧
      (noticeS true true).cmp.ready .imageWrite .normal = some (xfer .imageWrite .normal)) ∧
    ((noticeS true true).working = some (.readTripTable 4096 1280) ∧ (noticeS false false).tu.noticeOut = false ∧
      (noticeS true false).tu.noticeOut = true ∧ (noticeS true false).tu.changesPending = false ∧
      (noticeS true true).tu.changesPending = true) ∧
    ((awaits (.readCounters 4096 128) countX ring).working = some (.readCounters 4096 128) ∧
      (awaits (.readCounters 4096 128) countX ring).cmp.ready .imageWrite .normal = some countX ∧
      countX.segs.length = 1 ∧ rd (le 4 4294967295 ++ le 4 3 ++ fill 88 ++ [1] ++ fill 31) 96 1 = 1 ∧
      rd (fill 128) 96 1 ≠ 1) := by
  refine ⟨?_, ?_, ?_, ?_⟩ <;> decide +kernel

def failS (p : Purpose) (u : DmaUnit) : State :=
  flying [xfer p u] (ring.cmp' fun c =>
    { c with
      normal := { c.normal with inFlight := some ⟨2, .configure 4096 512, .working⟩ }
      event := { c.event with awaiting := [evA], writing := true }, dmaErr := some default })

theorem witness_TransferFailures :
    (∀ x ∈ (failS .configRead .normal).cmp.dma, max (failS .configRead .normal).now 1004999 < x.issued + 1000000) ∧
    (∀ p, p ∈ [Purpose.configRead, .markTableRead, .pageMapRead, .publishListRead, .imageWrite, .tileRead] →
      FailsTransfer 1005000 (.dmaTimeout 1005000) .timeout (xfer p .normal) (failS p .normal)) ∧
    (FailsTransfer 0 (.configReadComplete 0 .error) .errorCompletion (xfer .configRead .normal) (failS .configRead .normal) ∧
      (failS .configRead .normal).cmp.normal.inFlight = some ⟨2, .configure 4096 512, .working⟩) ∧
    FailsTransfer 0 (.descriptorReadComplete 0 .urgent .error) .errorCompletion (xfer .descriptorRead .urgent)
      (failS .descriptorRead .urgent) ∧
    (FailsTransfer 0 (.writebackComplete 0 .normal false) .errorCompletion (xfer .resultWriteback .normal)
        (failS .resultWriteback .normal) ∧ HostCmd.configure 4096 512 ≠ .warmReset) ∧
    (FailsTransfer 0 (.eventWriteComplete 0 false) .errorCompletion (xfer .eventWrite .event) (failS .eventWrite .event) ∧
      (failS .eventWrite .event).cmp.event.awaiting = evA :: [] ∧ (failS .eventWrite .event).cmp.dmaErr.isSome = true) := by
  refine ⟨by decide +kernel, ?_, ⟨.inr ⟨rfl, by decide +kernel, rfl, rfl⟩, by decide +kernel⟩,
    .inr ⟨rfl, by decide +kernel, .urgent, rfl, rfl⟩, ⟨.inr ⟨rfl, by decide +kernel, .normal, rfl, rfl⟩, by decide⟩,
    .inr ⟨rfl, by decide +kernel, rfl, rfl⟩, by decide +kernel⟩
  intro p _
  refine .inl ⟨rfl, rfl, ?_⟩
  cases p <;> decide +kernel

/-! ## Witnesses: over every step, and frames on the fibre -/

def loaded : State := { ring with pending := [.tickStart], tu := { ring.tu with first := some default } }

theorem tick_steps {s : State} (h : s.pending = [.tickStart]) : ∃ u, step s = .next u := by
  unfold step
  rw [h]
  exact ⟨_, rfl⟩

theorem witness_FirstTripFrozen : loaded.tu.first = some default ∧ loaded.pending.head? ≠ some .acknowledgeTrips ∧
    (∀ t, loaded.pending.head? ≠ some (.coldReset t)) ∧ ∃ u, step loaded = .next u :=
  ⟨rfl, by decide +kernel, fun t => by simp [loaded], tick_steps rfl⟩

/-- Frames wait in both lanes and outside them, and the watch is full. -/
def crowded : State :=
  { loaded with
    rp :=
      { ring.rp with
        urgent := List.replicate 8 hello0, bulk := List.replicate 32 tileF, waitList := [4, 6], held := [tileF]
        watch := (List.range 16).map fun n => ⟨n, 5000⟩, consecMissing := 3 }
    mu := { ring.mu with sendList := List.replicate 8 corrF } }

theorem witness_LanesStayBounded : crowded.LanesBounded ∧ ∃ u, step crowded = .next u :=
  ⟨⟨by decide +kernel, by decide +kernel, by decide +kernel, by decide +kernel, by decide +kernel, by decide +kernel,
    by decide +kernel⟩, tick_steps rfl⟩

def fullTables : State :=
  { loaded with
    su := { ring.su with list := (List.range 8).map fun n => .release 3 n (9 + n) }
    tu := { ring.tu with table := tripE 12 20 0 .normalStop .here .active 0 :: full.take 31 }
    au := { ring.au with localStop := .normal } }

theorem witness_TablesStayBounded : fullTables.listBounded ∧ fullTables.tripsBounded ∧ ∃ u, step fullTables = .next u :=
  ⟨by decide +kernel, by decide +kernel, tick_steps rfl⟩

def fast : State :=
  { loaded with
    su :=
      { ring.su with
        line := { Line.initial with speed := 6000000, target := 6000000 }, next := ⟨6000000, 0, 0, false⟩
        list := [setE 9] } }

theorem witness_SpeedStaysSafe : fast.speedSafe ∧ ∃ u, step fast = .next u :=
  ⟨⟨by decide +kernel, by decide +kernel, by decide +kernel, by
    intro origin num target accel decel beat h
    have h := List.mem_singleton.mp h
    cases h; decide +kernel⟩, tick_steps rfl⟩

/-- Axis 0 is COUPLED with phase 7 at line angle 1,000,000. -/
def coupledS : State :=
  { loaded with
    su := { ring.su with line := { Line.initial with angle := 1000000, speed := 5000, target := 5000 } }
    au := { ring.au with axes := ring.au.axes.modify 0 fun a =>
      { a with state := .coupled, g := directG axisC 1000000 7, rmd := directRmd axisC 1000000, phase := 7 } } }

theorem witness_TorqueStaysSafe : coupledS.torqueSafe ∧ (coupledS.axis 0).state.energised = true ∧
    ∃ u, step coupledS = .next u :=
  ⟨by unfold State.torqueSafe; decide +kernel, by decide +kernel, tick_steps rfl⟩

theorem witness_GearsStayExact : coupledS.geared ∧ (coupledS.axis 0).state = .coupled ∧ ∃ u, step coupledS = .next u := by
  refine ⟨?_, by decide +kernel, tick_steps rfl⟩
  intro i c h
  match i, h with
  | 0, h =>
    have e : c = axisC := (Option.some.inj h).symm
    subst e
    decide +kernel
  | 1, h => exact absurd h (by simp [State.axisCfg, coupledS, loaded, ring, parked, cfgC, Quad.get])
  | 2, h => exact absurd h (by simp [State.axisCfg, coupledS, loaded, ring, parked, cfgC, Quad.get])
  | 3, h => exact absurd h (by simp [State.axisCfg, coupledS, loaded, ring, parked, cfgC, Quad.get])

def stored : State :=
  { loaded with
    cu := { ring.cu with
      cams := ring.cu.cams.modify 0 fun c => { c with queue := List.replicate 16 (record .even []) }
      cache := ring.cu.cache.set 7 (some ⟨0, 1, 8192⟩), pointer := 7 }
    scu := { ring.scu with
      tiles := fullStore.take 16, fills := slots8, viewers := ring.scu.viewers.set 3 viewers8 } }

theorem witness_StoresStayBounded : stored.StoresBounded ∧ ∃ u, step stored = .next u :=
  ⟨⟨by decide +kernel, by decide +kernel, by decide +kernel, by decide +kernel, by decide +kernel, by decide +kernel⟩,
    tick_steps rfl⟩

theorem witness_FrameChecks :
    (part.length ≤ 256 ∧ (⟨.tileData, 0, 254, 255, fill 256, 0⟩ : LaneFrame).payload.length ≤ 256 ∧ 254 < 255 ∧ 255 < 256) ∧
    ((hdr .hello 3 0 2 8).length = 20 ∧ tailGood (hdr .hello 3 0 2 8) (bodyOf (hdr .hello 3 0 2 8) helloP) .endDelim = true) := by
  refine ⟨?_, ?_⟩ <;> decide +kernel

def entryTop : Entry := .set 255 65535 4294967295 65535 65535 4294967295

theorem witness_WireCodec :
    (⟨15, 7, 255, 255, 255, 255, 255, 65535, 65535, 255, 255, 65535⟩ : Header).Sendable ∧ entryTop.Sendable ∧
    (Entry.release 255 65535 4294967295).Sendable ∧ (Entry.stop 255 21 255 true 4294967295).Sendable ∧
    (⟨4294967295, ⟨4294967295, 65535, 4294967295, 4294967295, 65535, 65535, .fast, some (255, 65535)⟩, .alone, 255,
      [entryTop, entryTop]⟩ : ShaftMsg).Sendable ∧
    (TileCtl.invalidate 255 1 [(255, 65535, 65535)]).Sendable ∧ (TileCtl.request (some 65535) 255 65535).Sendable ∧
    (TileCtl.touch true 255 255 65535 255).Sendable ∧ (TileCtl.viewRequest 255 255 255 65535).Sendable ∧
    (TileCtl.viewStop 255 255).Sendable ∧ (TileCtl.viewRefusal 255 255 2).Sendable ∧
    Category.torqueOff ≠ .masked ∧ part.length = 128 := by
  simp [Header.Sendable, Entry.Sendable, ShaftMsg.Sendable, TileCtl.Sendable, entryTop, part]

/-! ## The worked examples of the data book -/

/-- 01, transit across three stations: residence 168 with hop delay 1,800, then residence 1,208 with hop delay 600. -/
def passing (transit hopDelay : Nat) : State :=
  { ring.rp' fun r => { r with pass := [⟨rewriteHeader (hdr .shaft 5 0 0 32) 1 transit, fill 36, 5000, false, some .endDelim⟩] } with
    cfg := some { cfgC with hopDelay := hopDelay } }

def forwarded (s : State) : Nat :=
  match s.rp.tx with
  | .forward f => (parseHeader f.header).transit
  | .idle | .abortDelim | .test _ _ | .own _ _ _ _ _ => 0

theorem test_transitBoundary_transit : forwarded (after (.transmitBoundary 5168 0) (passing 0 1800)) = 1968 ∧
    forwarded (after (.transmitBoundary 6208 0) (passing 1968 600)) = 3776 := by decide +kernel

/-- 01, an urgent frame held back: at fill 822 the pass buffer goes first, at fill 560 the urgent frame. -/
theorem test_transmitBoundary_urgent :
    (after (.transmitBoundary 0 790) (sending [hello0] [] [passF] [])).rp.urgent = [hello0] ∧
    (after (.transmitBoundary 0 528) (sending [hello0] [] [passF] [])).rp.urgent = [] := by decide +kernel

/-- 01, three returns missing: the third one in a row raises cause 7. -/
theorem test_returnWatchExpiry_third :
    (after (.returnWatchExpiry 4010000) (ring.rp' fun r => { r with watch := [⟨44, 2010000⟩], consecMissing := 2 })).causeTrue 7 0 = true ∧
    (after (.returnWatchExpiry 3000000) (ring.rp' fun r => { r with watch := [⟨43, 1000000⟩], consecMissing := 1 })).causeTrue 7 0 = false := by
  decide +kernel

/-- The published check values of the two CRCs of R202 over the digits 1 to 9. -/
theorem test_crc : crc8 ((List.range 9).map fun n => byte (0x31 + n)) = 0xF4 ∧
    crc32 ((List.range 9).map fun n => byte (0x31 + n)) = 0xCBF43926 := by decide +kernel

/-- 03, the tick arithmetic: the first three ticks, the wrap, and the 125 ticks of a fast stop. -/
theorem test_ticks : (Line.ticks 1 1 1 (lineW 0 0 5120000 2560 .none)).angle = 2560 ∧
    (Line.ticks 1 1 2 (lineW 0 0 5120000 2560 .none)).angle = 7680 ∧
    (Line.ticks 1 1 3 (lineW 0 0 5120000 2560 .none)).angle = 15360 ∧
    (lineW 4294960000 5120000 5120000 1 .none).tick 1 1 = { speed := 5120000, angle := 5112704, rev := 1, revStep := true } ∧
    (Line.ticks 1 40960 124 (lineW 0 5120000 0 1 .fast)).speed = 40960 ∧
    (Line.ticks 1 40960 125 (lineW 0 5120000 0 1 .fast)).speed = 0 ∧
    (Line.ticks 1 40960 125 (lineW 0 5120000 0 1 .fast)).angle = 317440000 := by decide +kernel

theorem test_tickStart_wrap :
    (after .tickStart (ticking (lineW 4294960000 5120000 5120000 1 .none))).su.next =
      { speed := 5120000, angle := 5112704, rev := 1, revStep := true } := by decide +kernel

/-- 03, two commands for one beat: the higher origin prevails in either order, and one entry is counted dropped. -/
def set14 : Entry := .set 14 77 3000000 1 1 1004
def set22 : Entry := .set 22 5 2500000 1 1 1004
def at1000 : Su := { Su.reset 0 with beat := 1000 }

theorem test_install_rivals :
    ((at1000.install 6000000 false set14).1.install 6000000 false set22).1.list = [set22] ∧
    ((at1000.install 6000000 false set22).1.install 6000000 false set14).1.list = [set22] ∧
    ((at1000.install 6000000 false set14).1.install 6000000 false set22).1.droppedEntries = 1 ∧
    ((at1000.install 6000000 false set22).1.install 6000000 false set14).1.droppedEntries = 1 := by decide +kernel

/-- 03, a full list: of nine entries the SET at the latest beat goes. -/
def eight : List Entry :=
  [.stop 3 1 0 true 2001, .stop 3 1 1 true 2002] ++ (List.range 6).map fun n => .set 3 n 1 1 1 (2003 + n)
def at2000 : Su := { Su.reset 0 with beat := 2000, list := eight }

theorem test_install_full :
    (at2000.install 6000000 false (.release 4 9 2005)).1.list =
      eight.take 4 ++ [.release 4 9 2005] ++ (eight.drop 4).take 3 ∧
    (at2000.install 6000000 false (.set 4 9 1 1 1 2009)).1.list = eight := by decide +kernel

/-- 03, an offset: 5,500 − 1,800 − 2,600 − 900 = 200 ns after the own beat. -/
def offsetC : Copy :=
  { cop .shaft 3 (shaftPayload (shaftM 12 [])) with
    header := rewriteHeader (launchHeader (wholeFrame .shaft 0 (fill 32)) 3 5 0 900) 2 2600, arrival := 5000 + 5500 }

theorem test_shaftCopy_offset : (after .shaftCopy { ring with inSu := [offsetC] }).su.reports = [⟨3, .valid, 200⟩] := by
  decide +kernel

/-- 03, a midpoint with five peers: 525 ns, five ticks of 125,066 ns and three of 125,065 ns. -/
theorem test_midpoint : midpoint [1200, -400, 300, 9000, -150] = 525 ∧
    slewTicks 525 = [125066, 125066, 125066, 125066, 125066, 125065, 125065, 125065] ∧ (slewTicks 525).sum = 1000525 := by
  decide +kernel

/-- 04, one tick of gearing, and the next. -/
theorem test_gear : gear { axisC with m := 8388608 } 5120001 0 = (30000, 3) ∧
    gear { axisC with m := 8388608 } 5120001 3 = (30000, 6) := by decide +kernel

/-- 04, coupling: the first tick and the fourth, at which the axis is COUPLED. -/
def axisW : AxisCfg := { axisC with n := 1, d := 1, m := 16777216 }
def couplingA (setpoint : Nat) : Axis := { Axis.reset .coupling with setpoint := setpoint }
def tickW (counts : Nat) : TickResult := ⟨5120000, 256 * counts, 0, false⟩

theorem test_coupling : ((couplingA 4993950).arithmetic axisW (tickW 5020000)).2 = 5015950 ∧
    ((couplingA 4993950).arithmetic axisW (tickW 5020000)).1.state = .coupling ∧
    ((couplingA 5059950).arithmetic axisW (tickW 5080000)).2 = 5080000 ∧
    ((couplingA 5059950).arithmetic axisW (tickW 5080000)).1.state = .coupled ∧
    ((couplingA 5059950).arithmetic axisW (tickW 5080000)).1.g = 5080000 := by decide +kernel

/-- 04, a correction of −84,000 fine line counts is −328 axis counts, trimmed 100 in a tick. -/
theorem test_correctionCopy_trim :
    ((after .correctionCopy { trimming 0 (-84000) (inState .coupled) with
      cfg := some { cfgC with axes := ⟨some axisW, none, none, none⟩ } }).axis 0).trimPending = -328 ∧
    ({ Axis.reset .coupled with g := 5080000, trimPending := -328 } : Axis).arithmetic axisW (tickW 5100000) =
      ({ Axis.reset .coupled with g := 5100000, trimPending := -228, trimApplied := -100 }, 5099900) := by decide +kernel

/-- 04, a drive line falls silent: the third unanswered message takes the torque. -/
theorem test_answerWindowClose_third :
    ((after (.answerWindowClose 0) (windowed .coupled 0 55000 0 1)).axis 0).state = .coupled ∧
    ((after (.answerWindowClose 0) (windowed .coupled 0 55000 0 2)).axis 0).state = .torqueOff ∧
    (after (.answerWindowClose 0) (windowed .coupled 0 55000 0 2)).causeTrue 15 0 = true := by decide +kernel

/-- R86: a COUPLED axis that enters TORQUE_OFF keeps the position reached in the jog accumulator. -/
theorem test_eStopAsserted_position :
    ((after (.eStopAsserted 0) (ring.axis0 fun a => { a with state := .coupled, setpoint := 30000 })).axis 0).p = 7680000 ∧
    ((after (.eStopAsserted 0) (ring.axis0 fun a => { a with state := .decoupled, p := 512 })).axis 0).p = 512 := by
  decide +kernel

/-- 05, the trigger of R100's example, and the triggers at a revolution seam. -/
def camW : CamCfg := { camC with phase := 640000, pitch := 1280000 }
def seam : Sweep := ⟨0, 125066, 4290000000, 5120000, 811⟩

theorem test_triggers : (⟨0, 125000, 1000000, 5120000, 0⟩ : Sweep).delay 3560000 = 62500 ∧
    nextDue camW 4290000000 = (4291200000, 3352) ∧ nextDue camW 4293760000 = (4293760000, 3354) ∧
    nextDue camW 4293760001 = (4294967296 + 640000, 0) ∧
    seam.delay 4291200000 = 29313 ∧ seam.delay 4292480000 = 60579 ∧ seam.delay 4293760000 = 91846 ∧
    (⟨0, 125066, 152704, 5120000, 812⟩ : Sweep).delay 640000 = 11904 := by decide +kernel

/-- 05, lines skipped at speed: 1,563 ns after the last one sent a trigger is skipped, after 3,125 ns it is sent. -/
def skipS (cursor sent : Nat) : State :=
  { ring.cam0 (fun c => { c with cursor := cursor, lastSent := some sent, owed := true }) with
    cfg := some { cfgC with cams := ⟨some { camC with phase := 0, pitch := 8000 }, none, none, none⟩ }
    cu := { (ring.cam0 fun c => { c with cursor := cursor, lastSent := some sent, owed := true }).cu with
      sweep := some ⟨5000, 125000, 0, 640000, 3⟩ } }

theorem test_triggerDue_skips : (after (.triggerDue 0) (skipS 1 5000)).cu.skippedLines = 1 ∧
    (after (.triggerDue 0) (skipS 1 5000)).now = 6563 ∧
    ((after (.triggerDue 0) (skipS 8001 5000)).cam 0).trigs = [⟨0, ⟨3, 2, 16000, true, false⟩, 8125⟩] := by decide +kernel

/-- R100: a trigger due exactly at the end of its tick is offered at that moment, also when the next tick starts first. -/
def tickEndS : State :=
  ((drives id).onCu fun u => { u with sweep := some ⟨5000, 125000, 40641, 200000, 3⟩ }).onCam 0 fun c =>
    { c with cursor := 180641 }

theorem test_triggerDue_tickEnd : ((after (.triggerDue 0) tickEndS).cam 0).trigs.map (·.sent) = [130000] ∧
    ((after (.triggerDue 0) (after .tickStart tickEndS)).cam 0).trigs = [⟨0, ⟨3, 4, 240640, false, false⟩, 130000⟩] := by
  decide +kernel

/-- R197: no transfer comes back before a write issued earlier. -/
theorem test_writesInOrder :
    (flying [xfer .stripWrite (.camera 0), xfer .eventWrite .event, xfer .mapEntryRead (.camera 1)] ring).cmp.ready .eventWrite
      .event = none ∧
    (flying [xfer .mapEntryRead (.camera 1), xfer .eventWrite .event, xfer .mapEntryRead (.camera 0)] ring).cmp.ready .eventWrite
      .event = some (xfer .eventWrite .event) ∧
    (flying [xfer .mapEntryRead (.camera 1), xfer .eventWrite .event, xfer .mapEntryRead (.camera 0)] ring).cmp.ready .mapEntryRead
      (.camera 0) = none := by decide +kernel

/-- 05, translations: a record of 1,032 bytes at strip address 7,224 is cut at its page boundary. -/
theorem test_cutPages : (cutPages 7224 (fill 1032)).map (fun p => (p.page, p.offset, p.bytes.length)) =
    [(0, 7224, 968), (1, 0, 64)] ∧ (cutPages 15480 (fill 1032)).map (fun p => (p.page, p.offset, p.bytes.length)) =
    [(1, 7288, 904), (2, 0, 128)] := by decide +kernel

/-- 06, the centre of a reference mark, with all five lines and without the third. -/
def lineAt (e : MarkEntry) (p : Nat × Nat) : MarkEntry :=
  e.takeLine camC ⟨3, 0, 40000000 + p.1, false, false⟩ p.2
def open3 : MarkEntry := { refWin with acc := some ⟨3, 0, 0⟩ }

theorem test_mark_centre :
    ([(0, 40), (600, 90), (1200, 130), (1800, 95), (2400, 42)].foldl lineAt open3).acc = some ⟨3, 222, 271800⟩ ∧
    (MarkEntry.close 50 { refWin with acc := some ⟨3, 222, 271800⟩ }).results = [⟨3, some 40001224⟩] ∧
    (MarkEntry.close 50 { refWin with acc := some ⟨3, 127, 157800⟩ }).results = [⟨3, some 40001243⟩] := by decide +kernel

/-- 06, one revolution of an active loop. -/
def activeLoop : Loop :=
  { state := .active, missing := 1, seek := 2
    entries :=
      [{ refWin with results := [⟨3120, some 40001224⟩] },
       { MarkEntry.empty with
         enabled := true, station := 9, axis := 0, gain := 8, start := 44000200, length := 3000, nominal := 4000000
         deadband := 2000, maxStep := 200000, tolerance := 100000, missing := 2, results := [⟨3120, none⟩] },
       { MarkEntry.empty with
         enabled := true, station := 17, axis := 1, gain := 8, start := 48556000, length := 3000, nominal := 8388608
         deadband := 2000, maxStep := 200000, tolerance := 100000, tolCount := 1
         results := [⟨3120, some (48556000 + roundHalfDown 137400 75)⟩] }] ++ List.replicate 5 .empty }
def evaluated : State :=
  State.evaluate 0 { camC with missingLimit := 3, toleranceCount := 3, minSpeed := 25000 } 3120
    { ring.loop0 fun _ => activeLoop with cfg := some { cfgC with station := 9 } }

theorem test_evaluate : (evaluated.loop 0).state = .active ∧ (evaluated.loop 0).missing = 0 ∧
    ((evaluated.loop 0).entry 1).missing = 3 ∧ ((evaluated.loop 0).entry 1).hold = true ∧
    ((evaluated.loop 0).entry 2).tolCount = 2 ∧ evaluated.causeTrue 17 2 = false ∧
    evaluated.rp.urgent.map (fun f => (f.dest, parseCorrection f.payload)) = [(17, some (1, -84000))] := by decide +kernel

/-- 06, a lost reference: the third missing one brings the loop to HOLD. -/
theorem test_evaluate_hold : ((State.evaluateFull 0 camC 703 none (ring.loop0 fun l => { l with state := .active, missing := 2 })).loop 0).state = .hold ∧
    ((State.evaluateFull 0 camC 702 none (ring.loop0 fun l => { l with state := .active, missing := 1 })).loop 0).state = .active := by
  decide +kernel

/-- 08, a group with a lost fragment: the first invalidate marks the tile, a later one of the same version changes nothing. -/
def t40 (st : TileState) (awaited : Option Nat) (mark : Option GroupMark) : Tile :=
  { tileT st (some 40) awaited 0 0 mark with id := ⟨3, 2, 101⟩ }

theorem test_tileInvalidate_group :
    (after .tileInvalidate (tiled [t40 .valid none none] [] [tileC (.invalidate 17 3 [(2, 100, 41), (2, 101, 41), (2, 132, 41)])])).scu.tiles =
      [{ t40 .stale (some 41) (some ⟨17, 40005000⟩) with progress := 5000 }] ∧
    (after .tileInvalidate (tiled [t40 .stale (some 41) none] [] [tileC (.invalidate 18 1 [(2, 101, 41)])])).scu.tiles =
      [t40 .stale (some 41) none] := by decide +kernel

/-- 09, events lost to a full queue: with 15 unread of 16 an event is lost; the next record written carries the count. -/
def fullQ (head tail lost : Nat) : State :=
  ring.cmp' fun c => { c with event := { c.event with size := 16, head := head, tail := tail }, lostPending := lost, eventsLost := lost }

theorem test_event_lost : ((fullQ 3 2 0).post evA).cmp.eventsLost = 1 ∧ ((fullQ 3 2 0).post evA).cmp.lostPending = 1 ∧
    (after (.eventHeadWrite 0 10) (fullQ 3 2 3)).cmp.event.unread = 8 ∧
    ((fullQ 10 2 3).post evA).cmp.lostPending = 3 ∧
    (after (.eventWriteComplete 0 true) ((fullQ 10 2 3).post evA)).cmp.lostPending = 0 := by decide +kernel

/-! ## Reserved and refused -/

theorem test_descriptor_unlisted : decodeCommand (descB 1 0) = .unlisted 0 ∧ decodeCommand (descB 1 0x1F) = .unlisted 0x1F ∧
    decodeCommand (descB 1 0x32) = .unlisted 0x32 := by decide +kernel

theorem test_idle : step State.reset = .next State.reset := rfl

end Sys2Proof.Tests
end

/-! The lanes of the Ring Port, the frames waiting for them and the return watch stay within their bounds (R7 to R9, R20, R22,
R126): first what the operations of the Ring Port do to the bounds. -/

section
namespace Sys2Proof.Machine

variable {s t : State}

/-! ## Lists of frames -/

/-- Which frames of a list are Shaft frames decides whether it holds one, and how many. -/
theorem oneShaft_congr {l m : List LaneFrame} (h : l.map LaneFrame.isShaft = m.map LaneFrame.isShaft) :
    oneShaft l ↔ oneShaft m := by
  have count (x : List LaneFrame) : (x.filter LaneFrame.isShaft).length = (x.map LaneFrame.isShaft).count true := by
    rw [← List.countP_eq_length_filter, List.count, List.countP_map]
    exact List.countP_congr fun y _ => by simp
  rw [oneShaft, oneShaft, count, count, h]

theorem anyShaft_congr {l m : List LaneFrame} (h : l.map LaneFrame.isShaft = m.map LaneFrame.isShaft) :
    l.any LaneFrame.isShaft = m.any LaneFrame.isShaft := by
  have any (x : List LaneFrame) : x.any LaneFrame.isShaft = (x.map LaneFrame.isShaft).any id := by simp [List.any_map]
  rw [any, any, h]

/-- A frame that takes the place of one of its own sort changes neither. -/
theorem map_isShaft_replaceFirst (p : LaneFrame → Bool) (f : LaneFrame) (l : List LaneFrame)
    (h : ∀ x, p x = true → x.isShaft = f.isShaft) :
    (replaceFirst p f l).map LaneFrame.isShaft = l.map LaneFrame.isShaft := by
  induction l with
  | nil => rfl
  | cons x xs ih =>
    unfold replaceFirst
    split
    · next k => simp [h x k]
    · simp [ih]

theorem length_replaceFirst (p : LaneFrame → Bool) (f : LaneFrame) (l : List LaneFrame) :
    (replaceFirst p f l).length = l.length := by
  induction l with
  | nil => rfl
  | cons x xs ih => unfold replaceFirst; split <;> simp [ih]

theorem oneShaft_sublist {l m : List LaneFrame} (h : l.Sublist m) (k : oneShaft m) : oneShaft l :=
  (h.filter _).length_le.trans k

/-- A frame joins the end of a list: it is no Shaft frame, or the list holds none. -/
theorem oneShaft_append {l : List LaneFrame} {f : LaneFrame} (h : oneShaft l)
    (k : f.isShaft = true → l.any LaneFrame.isShaft = false) : oneShaft (l ++ [f]) := by
  unfold oneShaft at *
  rw [List.filter_append, List.length_append]
  by_cases hf : f.isShaft = true
  · have none : l.filter LaneFrame.isShaft = [] := by
      simpa [List.filter_eq_nil_iff, List.any_eq_false] using k hf
    simp [none, hf]
  · simpa [hf] using h

/-- The Shaft class is that of Shaft frames alone (R5). -/
theorem LaneFrame.cls_eq_one (f : LaneFrame) : f.cls = 1 ↔ f.isShaft = true := by
  cases h : f.kind <;> simp [LaneFrame.cls, LaneFrame.isShaft, Kind.cls, h]

/-! ## What the bounds depend on -/

/-- What the bounds speak of in the Ring Port. -/
def Rp.lanes (r : Rp) : List LaneFrame × List LaneFrame × List Nat × List LaneFrame × List WatchEntry × Nat :=
  (r.urgent, r.bulk, r.waitList, r.held, r.watch, r.consecMissing)

/-- Beside the Ring Port the bounds speak of the send list alone. -/
theorem State.LanesBounded.congr (h : s.LanesBounded) (hr : t.rp.lanes = s.rp.lanes)
    (hl : t.mu.sendList = s.mu.sendList) : t.LanesBounded := by
  simp only [Rp.lanes, Prod.mk.injEq] at hr
  obtain ⟨hu, hb, hw, hh, hwatch, hc⟩ := hr
  exact
    { urgent := by rw [hu]; exact h.urgent
      bulk := by rw [hb]; exact h.bulk
      wait := by rw [hw, hh]; exact h.wait
      shaftWaits := by rw [hw, hh]; exact h.shaftWaits
      shaftAlone := by rw [hw, hb]; exact h.shaftAlone
      corrections := by rw [hl]; exact h.corrections
      watch := by rw [hwatch, hc]; exact h.watch }

/-- Bounds of the Ring Port's lists as they stand after a change of the Ring Port alone. -/
theorem State.LanesBounded.withWatch (h : s.LanesBounded) {r : Rp}
    (lanes : r.urgent = s.rp.urgent ∧ r.bulk = s.rp.bulk ∧ r.waitList = s.rp.waitList ∧ r.held = s.rp.held)
    (hw : r.watch.length ≤ 16 ∧ (r.watch.map (·.sequence)).Nodup ∧ r.consecMissing ≤ 3) :
    State.LanesBounded { s with rp := r } := by
  obtain ⟨hu, hb, hl, hh⟩ := lanes
  exact
    { urgent := by simpa [hu] using h.urgent
      bulk := by simpa [hb] using h.bulk
      wait := by simpa [hl, hh] using h.wait
      shaftWaits := by simpa [hl, hh] using h.shaftWaits
      shaftAlone := by simpa [hl, hb] using h.shaftAlone
      corrections := h.corrections
      watch := hw }

/-! ## Offers (R8, R9) -/

theorem State.LanesBounded.offerUrgent (h : s.LanesBounded) (f : LaneFrame) :
    State.LanesBounded { s with rp := (s.rp.offerUrgent f).1 } := by
  obtain ⟨hlen, hone⟩ := h.urgent
  have bounded (l : List LaneFrame) (n : Nat) (hl : l.length ≤ 8 ∧ oneShaft l) :
      State.LanesBounded { s with rp := { s.rp with urgent := l, urgentOverflow := n } } :=
    ⟨hl, h.bulk, h.wait, h.shaftWaits, h.shaftAlone, h.corrections, h.watch⟩
  unfold Rp.offerUrgent
  split
  · next k =>
    simp only [Bool.and_eq_true] at k
    refine bounded _ _ ⟨by rw [length_replaceFirst]; exact hlen, (oneShaft_congr ?_).mpr hone⟩
    exact map_isShaft_replaceFirst _ _ _ fun x hx => hx.trans k.1.symm
  · next k =>
    split
    · refine bounded _ _ ⟨by simp; omega, oneShaft_append hone fun hf => ?_⟩
      simpa [hf] using k
    · exact bounded _ _ ⟨hlen, hone⟩

theorem State.LanesBounded.offerBulk (h : s.LanesBounded) (f : LaneFrame) :
    State.LanesBounded { s with rp := (s.rp.offerBulk f).1 } := by
  obtain ⟨hlen, hone⟩ := h.bulk
  obtain ⟨hnodup, hheld⟩ := h.wait
  unfold Rp.offerBulk
  split
  · next k =>
    simp only [Bool.and_eq_true] at k
    have same := map_isShaft_replaceFirst LaneFrame.isShaft f s.rp.bulk fun x hx => hx.trans k.1.symm
    exact
      { h with
        bulk := ⟨by simpa [length_replaceFirst] using hlen, (oneShaft_congr same).mpr hone⟩
        shaftAlone := fun w => (anyShaft_congr same).trans (h.shaftAlone w) }
  · next k =>
    have alone (hf : f.isShaft = true) : s.rp.bulk.any LaneFrame.isShaft = false := by simpa [hf] using k
    split
    · next w =>
      have waits : f.cls ∈ s.rp.waitList := by simpa using w
      split
      · next hk =>
        have same := map_isShaft_replaceFirst (fun x => x.kind == f.kind) f s.rp.held fun x hx => by
          simp only [beq_iff_eq] at hx; simp [LaneFrame.isShaft, hx]
        exact
          { h with
            wait := ⟨hnodup, (oneShaft_congr same).mpr hheld⟩
            shaftWaits := fun a => h.shaftWaits ((anyShaft_congr same).symm.trans a) }
      · next hk =>
        have hf : f.isShaft = false := by
          simp only [Bool.or_eq_true, not_or, Bool.not_eq_true] at hk; exact hk.1
        split
        · exact h.congr rfl rfl
        · exact
            { h with
              wait := ⟨hnodup, oneShaft_append hheld fun k => by simp [hf] at k⟩
              shaftWaits := fun a => h.shaftWaits (by simpa [hf] using a) }
    · next w =>
      have fresh : f.cls ∉ s.rp.waitList := by simpa using w
      split
      · next room =>
        simp only [Bool.and_eq_true, List.isEmpty_iff, decide_eq_true_eq] at room
        exact
          { h with
            bulk := ⟨by simp; omega, oneShaft_append hone alone⟩
            shaftAlone := fun x => by simp [room.1] at x }
      · have nodup : (s.rp.waitList ++ [f.cls]).Nodup := by
          rw [List.nodup_append]; simp [hnodup]; rintro a ha rfl; exact fresh ha
        have shaftless : f.isShaft = true → s.rp.held.any LaneFrame.isShaft = false := fun hf => by
          by_contra x
          exact fresh ((LaneFrame.cls_eq_one f).mpr hf ▸ h.shaftWaits (by simpa using x))
        have lone (x : 1 ∈ s.rp.waitList ++ [f.cls]) : s.rp.bulk.any LaneFrame.isShaft = false := by
          rcases List.mem_append.mp x with x | x
          · exact h.shaftAlone x
          · exact alone ((LaneFrame.cls_eq_one f).mp (List.mem_singleton.mp x).symm)
        split
        · exact
            { h with
              wait := ⟨nodup, hheld⟩
              shaftWaits := fun a => List.mem_append_left _ (h.shaftWaits a)
              shaftAlone := lone }
        · refine { h with wait := ⟨nodup, oneShaft_append hheld shaftless⟩, shaftWaits := fun a => ?_, shaftAlone := lone }
          simp only [List.any_append, Bool.or_eq_true, List.any_cons, List.any_nil, Bool.or_false] at a
          rcases a with a | a
          · exact List.mem_append_left _ (h.shaftWaits a)
          · exact List.mem_append_right _ (by simp [(LaneFrame.cls_eq_one f).mpr a])

@[simp] theorem State.LanesBounded.offerR (h : s.LanesBounded) (f : LaneFrame) : (s.offerR f).1.LanesBounded := by
  unfold State.offerR
  split
  · split
    · exact h.offerUrgent f
    · exact h.offerBulk f
  · exact h

@[simp] theorem State.LanesBounded.offer (h : s.LanesBounded) (f : LaneFrame) : (s.offer f).LanesBounded := h.offerR f

/-! ## What leaves the bounds as they are -/

theorem State.lanesBounded_congr (hr : t.rp.lanes = s.rp.lanes) (hl : t.mu.sendList = s.mu.sendList) :
    t.LanesBounded ↔ s.LanesBounded :=
  ⟨fun h => h.congr hr.symm hl.symm, fun h => h.congr hr hl⟩

@[simp] theorem State.atTime_lanes (t : Nat) (s : State) : (s.atTime t).LanesBounded ↔ s.LanesBounded :=
  lanesBounded_congr rfl rfl
@[simp] theorem State.onPins_lanes (f : Pins → Pins) (s : State) : (s.onPins f).LanesBounded ↔ s.LanesBounded :=
  lanesBounded_congr rfl rfl
@[simp] theorem State.onMc_lanes (f : Mc → Mc) (s : State) : (s.onMc f).LanesBounded ↔ s.LanesBounded :=
  lanesBounded_congr rfl rfl
@[simp] theorem State.onSu_lanes (f : Su → Su) (s : State) : (s.onSu f).LanesBounded ↔ s.LanesBounded :=
  lanesBounded_congr rfl rfl
@[simp] theorem State.onAu_lanes (f : Au → Au) (s : State) : (s.onAu f).LanesBounded ↔ s.LanesBounded :=
  lanesBounded_congr rfl rfl
@[simp] theorem State.onCu_lanes (f : Cu → Cu) (s : State) : (s.onCu f).LanesBounded ↔ s.LanesBounded :=
  lanesBounded_congr rfl rfl
@[simp] theorem State.onTu_lanes (f : Tu → Tu) (s : State) : (s.onTu f).LanesBounded ↔ s.LanesBounded :=
  lanesBounded_congr rfl rfl
@[simp] theorem State.onScu_lanes (f : Scu → Scu) (s : State) : (s.onScu f).LanesBounded ↔ s.LanesBounded :=
  lanesBounded_congr rfl rfl
@[simp] theorem State.onCmp_lanes (f : Cmp → Cmp) (s : State) : (s.onCmp f).LanesBounded ↔ s.LanesBounded :=
  lanesBounded_congr rfl rfl
@[simp] theorem State.onQ_lanes (q : CmdQueue) (f : CmdQ → CmdQ) (s : State) :
    (s.onQ q f).LanesBounded ↔ s.LanesBounded := lanesBounded_congr rfl rfl
@[simp] theorem State.onAxis_lanes (i : Fin 4) (f : Axis → Axis) (s : State) :
    (s.onAxis i f).LanesBounded ↔ s.LanesBounded := lanesBounded_congr rfl rfl
@[simp] theorem State.onCam_lanes (i : Fin 4) (f : Cam → Cam) (s : State) :
    (s.onCam i f).LanesBounded ↔ s.LanesBounded := lanesBounded_congr rfl rfl
@[simp] theorem State.onLoop_lanes (i : Fin 4) (f : Loop → Loop) (s : State) :
    (s.onLoop i f).LanesBounded ↔ s.LanesBounded := lanesBounded_congr rfl rfl
@[simp] theorem State.issue_lanes (x : Transfer) (s : State) : (s.issue x).LanesBounded ↔ s.LanesBounded :=
  lanesBounded_congr rfl rfl
@[simp] theorem State.issueRead_lanes (p : Purpose) (u : DmaUnit) (a l : Nat) (s : State) :
    (s.issueRead p u a l).LanesBounded ↔ s.LanesBounded := lanesBounded_congr rfl rfl
@[simp] theorem State.issueWrite_lanes (p : Purpose) (u : DmaUnit) (a : Nat) (g : List (Nat × List Byte)) (s : State) :
    (s.issueWrite p u a g).LanesBounded ↔ s.LanesBounded := lanesBounded_congr rfl rfl
@[simp] theorem State.dropDma_lanes (p : Transfer → Bool) (s : State) :
    (s.dropDma p).LanesBounded ↔ s.LanesBounded := lanesBounded_congr rfl rfl
@[simp] theorem State.setWorking_lanes (s : State) : s.setWorking.LanesBounded ↔ s.LanesBounded :=
  lanesBounded_congr rfl rfl
@[simp] theorem State.updateLocalStop_lanes (s : State) : s.updateLocalStop.LanesBounded ↔ s.LanesBounded :=
  lanesBounded_congr rfl rfl
@[simp] theorem State.loseEvent_lanes (s : State) : s.loseEvent.LanesBounded ↔ s.LanesBounded :=
  lanesBounded_congr rfl rfl
@[simp] theorem State.pumpEvents_lanes (s : State) : s.pumpEvents.LanesBounded ↔ s.LanesBounded := by
  rw [State.pumpEvents_eq]; exact lanesBounded_congr rfl rfl
@[simp] theorem State.post_lanes (e : Event) (s : State) : (s.post e).LanesBounded ↔ s.LanesBounded := by
  rw [State.post_eq]; exact lanesBounded_congr rfl rfl
@[simp] theorem State.enterDmaError_lanes (x : Transfer) (k : DmaKind) (s : State) :
    (s.enterDmaError x k).LanesBounded ↔ s.LanesBounded := by
  rw [State.enterDmaError_eq]; exact lanesBounded_congr rfl rfl
@[simp] theorem State.complete_lanes (q : CmdQueue) (r : Result) (d : Nat) (s : State) :
    (s.complete q r d).LanesBounded ↔ s.LanesBounded := by
  rw [State.complete_eq]; exact lanesBounded_congr rfl rfl
@[simp] theorem State.result_lanes (q : CmdQueue) (r : Result) (s : State) :
    (s.result q r).LanesBounded ↔ s.LanesBounded := s.complete_lanes q r 0

/-- A change of the Ring Port that keeps lanes, waiting offers and watch. -/
theorem State.onRp_lanes {f : Rp → Rp} (h : (f s.rp).lanes = s.rp.lanes) : (s.onRp f).LanesBounded ↔ s.LanesBounded :=
  lanesBounded_congr h rfl

/-- A fold of operations that keep the bounds keeps them. -/
theorem State.LanesBounded.foldl {α : Type} {f : State → α → State} (h : s.LanesBounded)
    (hf : ∀ s a, State.LanesBounded s → (f s a).LanesBounded) (l : List α) : (l.foldl f s).LanesBounded := by
  induction l generalizing s with
  | nil => exact h
  | cons a l ih => exact ih (hf s a h)

theorem State.LanesBounded.eachAxis {f : Fin 4 → State → State} (h : s.LanesBounded)
    (hf : ∀ i s, State.LanesBounded s → (f i s).LanesBounded) : (s.eachAxis f).LanesBounded :=
  hf 3 _ (hf 2 _ (hf 1 _ (hf 0 _ h)))

/-! ## Axes losing torque, trips and reports of causes -/

@[simp] theorem State.axisEvent_lanes (i : Fin 4) (p : AxisState) (r : AxisReason) (s : State) :
    (s.axisEvent i p r).LanesBounded ↔ s.LanesBounded := State.post_lanes _ s
@[simp] theorem State.changeAxis_lanes (i : Fin 4) (f : Axis → Axis) (r : AxisReason) (s : State) :
    (s.changeAxis i f r).LanesBounded ↔ s.LanesBounded := by simp [State.changeAxis]
@[simp] theorem State.enterTorqueOff_lanes (r : AxisReason) (i : Fin 4) (s : State) :
    (s.enterTorqueOff r i).LanesBounded ↔ s.LanesBounded := by
  unfold State.enterTorqueOff; split <;> simp
@[simp] theorem State.torqueOffAll_lanes (r : AxisReason) (s : State) :
    (s.torqueOffAll r).LanesBounded ↔ s.LanesBounded := by simp [State.torqueOffAll, State.eachAxis]

@[simp] theorem State.postNotice_lanes (s : State) : s.postNotice.LanesBounded ↔ s.LanesBounded := by
  simp [State.postNotice]
@[simp] theorem State.markChange_lanes (s : State) : s.markChange.LanesBounded ↔ s.LanesBounded := by
  unfold State.markChange; split <;> simp
@[simp] theorem State.raiseEffects_lanes (r : Raise) (s : State) :
    (s.raiseEffects r).1.LanesBounded ↔ s.LanesBounded := by
  have torque : (if r.category = .torqueOff then s.torqueOffAll .torqueOff else s).LanesBounded ↔ s.LanesBounded := by
    split <;> simp
  rw [← torque]
  unfold State.raiseEffects
  cases r.lineStop <;> exact lanesBounded_congr rfl rfl
@[simp] theorem State.raise_lanes (r : Raise) (s : State) : (s.raise r).1.LanesBounded ↔ s.LanesBounded := by
  unfold State.raise
  split
  · simp [State.offerFirstTrip]
  · dsimp only; split <;> simp
@[simp] theorem State.clearTrip_lanes (k : TripKey) (s : State) : (s.clearTrip k).LanesBounded ↔ s.LanesBounded := by
  unfold State.clearTrip
  split
  · rfl
  · split <;> simp
@[simp] theorem State.orphanTrip_lanes (k : TripKey) (s : State) : (s.orphanTrip k).LanesBounded ↔ s.LanesBounded := by
  simp [State.orphanTrip]

@[simp] theorem State.LanesBounded.orphanWhere (h : s.LanesBounded) (p : Nat → Bool) : (s.orphanWhere p).LanesBounded :=
  h.foldl (fun s k h => (s.orphanTrip_lanes k).mpr h) _

/-- A cause that becomes true may offer its RAISE (R148). -/
@[simp] theorem State.LanesBounded.causeOn (h : s.LanesBounded) (c d : Nat) : (s.causeOn c d).1.LanesBounded := by
  unfold State.causeOn
  dsimp only
  split
  · simpa using h
  · split <;> simp [h]

/-- A cause that becomes false may offer its CLEAR (R150). -/
@[simp] theorem State.LanesBounded.causeOff (h : s.LanesBounded) (c d : Nat) : (s.causeOff c d).LanesBounded := by
  unfold State.causeOff
  split
  · exact h
  · dsimp only
    split
    · split <;> simp [h]
    · simpa using h

@[simp] theorem State.LanesBounded.reportLate (h : s.LanesBounded) (b : Bool) : (s.reportLate b).LanesBounded := by
  unfold State.reportLate; split <;> simp [h]
@[simp] theorem State.LanesBounded.reportTrue (h : s.LanesBounded) (c d : Nat) : (s.reportTrue c d).LanesBounded := by
  unfold State.reportTrue; split <;> simp [h]
@[simp] theorem State.LanesBounded.reportFalse (h : s.LanesBounded) (c d : Nat) : (s.reportFalse c d).LanesBounded := by
  unfold State.reportFalse; split <;> simp [h]
@[simp] theorem State.LanesBounded.report (h : s.LanesBounded) (c d : Nat) (b : Bool) : (s.report c d b).LanesBounded := by
  unfold State.report; split <;> simp [h]
@[simp] theorem State.LanesBounded.reportAllFalse (h : s.LanesBounded) (c : Nat) (p : Nat → Bool) :
    (s.reportAllFalse c p).LanesBounded := h.foldl (fun _ _ h => h.reportFalse _ _) _
@[simp] theorem State.LanesBounded.takeRaise (h : s.LanesBounded) (r : Raise) : (s.takeRaise r).LanesBounded := by
  simp [State.takeRaise, h]
@[simp] theorem State.LanesBounded.takeRefresh (h : s.LanesBounded) (r : Raise) : (s.takeRefresh r).LanesBounded := by
  unfold State.takeRefresh
  split
  · split <;> simp [h]
  · simp [h]
@[simp] theorem State.LanesBounded.installEntry (h : s.LanesBounded) (e : Entry) : (s.installEntry e).LanesBounded := by
  have installed : State.LanesBounded { s with su := (s.su.install s.maxSpeed false e).1 } := h.congr rfl rfl
  exact installed.reportLate _
@[simp] theorem State.LanesBounded.offerRefreshes (h : s.LanesBounded) : s.offerRefreshes.LanesBounded := by
  unfold State.offerRefreshes
  split
  · exact h.foldl (fun s c h => by simp [State.refreshCause, h]) _
  · exact h
@[simp] theorem State.LanesBounded.raisesOnEntry (h : s.LanesBounded) : s.raisesOnEntry.LanesBounded :=
  h.foldl (fun s c h => by simp [State.raiseOnEntry, h]) _
@[simp] theorem State.LanesBounded.stepQuiet (h : s.LanesBounded) : s.stepQuiet.LanesBounded := by
  unfold State.stepQuiet; split <;> simp [h]
@[simp] theorem State.LanesBounded.reevaluate (h : s.LanesBounded) (old new : Option Cfg) (c : OwnCause) :
    (s.reevaluate old new c).LanesBounded := by
  have before : State.LanesBounded { s with cfg := old } := h.congr rfl rfl
  have after : State.LanesBounded { State.causeOff c.cause c.detail { s with cfg := old } with cfg := new } :=
    (before.causeOff c.cause c.detail).congr rfl rfl
  exact (after.causeOn _ _).reportLate _

end Sys2Proof.Machine
end

/-! The lanes stay within their bounds: the operations of the Ring Port, and of the blocks. -/

section
namespace Sys2Proof.Machine

variable {s t : State}

/-! ## Receiver errors and the return watch (R20 to R23) -/

@[simp] theorem State.LanesBounded.receiverError (h : s.LanesBounded) : s.receiverError.LanesBounded := by
  have counted : (s.onRp fun r => { r with receiverErrors := bump r.receiverErrors, errWindow := r.errWindow + 1
      }).LanesBounded := (State.onRp_lanes rfl).mpr h
  unfold State.receiverError
  dsimp only
  split
  · exact counted.reportTrue 9 0
  · exact counted

@[simp] theorem State.LanesBounded.rollErrorWindow (h : s.LanesBounded) : s.rollErrorWindow.LanesBounded := by
  have rolled : (s.onRp fun r => { r with errWindow := 0 }).LanesBounded := (State.onRp_lanes rfl).mpr h
  unfold State.rollErrorWindow
  dsimp only
  split
  · exact rolled.reportFalse 9 0
  · exact rolled

@[simp] theorem State.LanesBounded.countAborted (h : s.LanesBounded) : s.countAborted.LanesBounded :=
  (State.onRp_lanes rfl).mpr h

theorem dropWatch_sublist (q : Nat) (w : List WatchEntry) : (dropWatch q w).Sublist w := List.eraseP_sublist

/-- A watch of distinct sequences holds the one dropped no more. -/
theorem not_mem_dropWatch {q : Nat} {w : List WatchEntry} (h : (w.map (·.sequence)).Nodup) :
    q ∉ (dropWatch q w).map (·.sequence) := by
  induction w with
  | nil => simp [dropWatch]
  | cons e w ih =>
    simp only [List.map_cons, List.nodup_cons] at h
    unfold dropWatch at ih ⊢
    by_cases k : e.sequence = q
    · rw [List.eraseP_cons_of_pos (by simpa using k)]
      exact k ▸ h.1
    · rw [List.eraseP_cons_of_neg (by simpa using k)]
      simp only [List.map_cons, List.mem_cons, not_or]
      exact ⟨fun x => k x.symm, ih h.2⟩

/-- The watch keeps its bounds when entries leave it. -/
theorem State.LanesBounded.shrinkWatch (h : s.LanesBounded) {r : Rp} (hr : r =
    { r with urgent := s.rp.urgent, bulk := s.rp.bulk, waitList := s.rp.waitList, held := s.rp.held })
    (hw : r.watch.Sublist s.rp.watch) (hc : r.consecMissing ≤ 3) : State.LanesBounded { s with rp := r } := by
  obtain ⟨hlen, hnodup, -⟩ := h.watch
  rw [hr]
  exact h.withWatch ⟨rfl, rfl, rfl, rfl⟩ ⟨hw.length_le.trans hlen, (hw.map _).nodup hnodup, hc⟩

/-- The Ring Port with the entry of a sequence dropped from the watch as missing (R22). -/
def Rp.missed (q : Nat) (r : Rp) : Rp :=
  { r with
    watch := dropWatch q r.watch, returnMissing := bump r.returnMissing, consecMissing := min (r.consecMissing + 1) 3 }

theorem State.watchMissing_eq (q : Nat) (s : State) :
    s.watchMissing q = if (s.rp.missed q).consecMissing = 3 then (s.onRp (Rp.missed q)).reportTrue 7 0
      else s.onRp (Rp.missed q) := rfl

@[simp] theorem State.LanesBounded.missed (h : s.LanesBounded) (q : Nat) : (s.onRp (Rp.missed q)).LanesBounded :=
  h.shrinkWatch rfl (dropWatch_sublist q _) (Nat.min_le_right _ _)

@[simp] theorem State.LanesBounded.watchMissing (h : s.LanesBounded) (q : Nat) : (s.watchMissing q).LanesBounded := by
  rw [State.watchMissing_eq]
  split
  · exact (h.missed q).reportTrue 7 0
  · exact h.missed q

/-- A report leaves the return watch as it is. -/
theorem State.reportTrue_watch (c d : Nat) (s : State) : (s.reportTrue c d).rp.watch = s.rp.watch := by
  rw [(State.reportTrue_reported c d s).ring]

theorem State.watchMissing_watch (q : Nat) (s : State) : (s.watchMissing q).rp.watch = dropWatch q s.rp.watch := by
  rw [State.watchMissing_eq]
  split
  · rw [State.reportTrue_watch]; rfl
  · rfl

@[simp] theorem State.LanesBounded.watchLaunch (h : s.LanesBounded) (q : Nat) : (s.watchLaunch q).LanesBounded := by
  have base : (if s.rp.watches q then s.watchMissing q else s).LanesBounded ∧
      q ∉ (if s.rp.watches q then s.watchMissing q else s).rp.watch.map (·.sequence) := by
    split
    · rw [State.watchMissing_watch]
      exact ⟨h.watchMissing q, not_mem_dropWatch h.watch.2.1⟩
    · next k => exact ⟨h, by simpa [Rp.watches] using k⟩
  unfold State.watchLaunch
  dsimp only
  generalize (if s.rp.watches q then s.watchMissing q else s) = v at base ⊢
  obtain ⟨hv, fresh⟩ := base
  obtain ⟨-, hnodup, hc⟩ := hv.watch
  unfold State.onRp
  dsimp only
  split
  · refine hv.withWatch ⟨rfl, rfl, rfl, rfl⟩ ⟨by simp; omega, ?_, hc⟩
    rw [List.map_append, List.nodup_append]
    simp [hnodup]
    rintro a ha x
    exact fresh (List.mem_map.mpr ⟨a, ha, x⟩)
  · exact hv.withWatch ⟨rfl, rfl, rfl, rfl⟩ hv.watch

@[simp] theorem State.LanesBounded.takeReturn (h : s.LanesBounded) (c q : Nat) : (s.takeReturn c q).LanesBounded := by
  unfold State.takeReturn
  split
  · exact h
  · split
    · have dropped : (s.onRp fun r => { r with watch := dropWatch q r.watch, consecMissing := 0 }).LanesBounded :=
        h.shrinkWatch rfl (dropWatch_sublist q _) (Nat.zero_le _)
      exact dropped.reportFalse 7 0
    · exact (State.onRp_lanes rfl).mpr h

/-! ## Waiting offers (R9, R126, R167) -/

/-- Of the Mark Unit the bounds see the send list, which loses its head when a Correction frame is offered (R126). -/
theorem State.LanesBounded.sendLess (h : s.LanesBounded) {l : List LaneFrame} (hl : l <:+ s.mu.sendList) :
    (s.onMu fun m => { m with sendList := l }).LanesBounded := by
  obtain ⟨hlen, hkind⟩ := h.corrections
  exact
    { urgent := h.urgent, bulk := h.bulk, wait := h.wait, shaftWaits := h.shaftWaits, shaftAlone := h.shaftAlone
      corrections := ⟨hl.length_le.trans hlen, fun f hf => hkind f (hl.subset hf)⟩, watch := h.watch }

@[simp] theorem State.LanesBounded.muPumpN (n : Nat) (h : s.LanesBounded) : (s.muPumpN n).LanesBounded := by
  induction n generalizing s with
  | zero => exact h
  | succ n ih =>
    unfold State.muPumpN
    split
    · exact h
    · next f rest k =>
      have sent : (s.offerR f).1.mu.sendList = f :: rest := by rw [State.offerR_eq]; exact k
      dsimp only
      split
      · exact h.offerR f
      · exact ih ((h.offerR f).sendLess (sent ▸ List.suffix_cons f rest))

@[simp] theorem State.LanesBounded.muPump (h : s.LanesBounded) : s.muPump.LanesBounded := h.muPumpN _

@[simp] theorem State.LanesBounded.pubAdvance (h : s.LanesBounded) : s.pubAdvance.LanesBounded := by
  unfold State.pubAdvance
  split
  · exact h
  · split
    · exact h
    · split <;> simp [h]

@[simp] theorem State.refusedFrame_lanes (f : LaneFrame) (s : State) : (s.refusedFrame f).LanesBounded ↔ s.LanesBounded := by
  unfold State.refusedFrame
  split
  · split <;> simp
  · rfl

@[simp] theorem State.LanesBounded.offerScreen (h : s.LanesBounded) (f : LaneFrame) : (s.offerScreen f).LanesBounded := by
  unfold State.offerScreen
  dsimp only
  split <;> simp [h]

@[simp] theorem State.LanesBounded.offerAll (h : s.LanesBounded) (fs : List LaneFrame) : (s.offerAll fs).LanesBounded :=
  h.foldl (fun _ f h => h.offerScreen f) fs

/-- With the bulk lane and the wait list emptied nothing of them is left to bound. -/
theorem State.LanesBounded.emptied (h : s.LanesBounded) :
    (s.onRp fun r => { r with bulk := [], waitList := [], held := [] }).LanesBounded where
  urgent := h.urgent
  bulk := by simp [State.onRp]
  wait := by simp [State.onRp]
  shaftWaits := by simp [State.onRp]
  shaftAlone := by simp [State.onRp]
  corrections := h.corrections
  watch := h.watch

@[simp] theorem State.LanesBounded.emptyBulk (h : s.LanesBounded) : s.emptyBulk.LanesBounded := by
  have told := h.emptied.foldl (fun s f h => (s.refusedFrame_lanes f).mpr h) s.rp.waitingFrames
  unfold State.emptyBulk
  dsimp only
  split
  · exact (((told.sendLess (List.drop_suffix 1 _)).offerAll _).muPump).pubAdvance
  · exact ((told.offerAll _).muPump).pubAdvance

/-- The wait list loses its head, and no Shaft frame is kept where the Shaft class was its head. -/
theorem State.LanesBounded.unwait (h : s.LanesBounded) {c : Nat} {rest : List Nat} (hw : s.rp.waitList = c :: rest)
    (hc : c = 1 → s.rp.held.any LaneFrame.isShaft = false) :
    (s.onRp fun r => { r with waitList := rest }).LanesBounded := by
  obtain ⟨hnodup, hone⟩ := h.wait
  rw [hw, List.nodup_cons] at hnodup
  exact
    { h with
      wait := ⟨hnodup.2, hone⟩
      shaftWaits := fun a => by
        rcases List.mem_cons.mp (hw ▸ h.shaftWaits a) with e | e
        · exact absurd ((hc e.symm).symm.trans a) (by decide)
        · exact e
      shaftAlone := fun a => h.shaftAlone (hw ▸ List.mem_cons_of_mem c a) }

/-- The head of the wait list enters the bulk lane: the lane holds no Shaft frame when the head is one (R9). -/
theorem State.LanesBounded.enterBulk (h : s.LanesBounded) (room : s.rp.bulk.length < 32) {c : Nat} {rest : List Nat}
    {f : LaneFrame} {held : List LaneFrame} (hw : s.rp.waitList = c :: rest) (hf : f.isShaft = true → c = 1)
    (hsub : held.Sublist s.rp.held) (hh : c = 1 → held.any LaneFrame.isShaft = false) :
    (s.onRp fun r => { r with waitList := rest, bulk := r.bulk ++ [f], held := held }).LanesBounded := by
  obtain ⟨hnodup, hone⟩ := h.wait
  rw [hw, List.nodup_cons] at hnodup
  have headless (k : f.isShaft = true) : s.rp.bulk.any LaneFrame.isShaft = false :=
    h.shaftAlone (hw ▸ hf k ▸ List.mem_cons_self)
  exact
    { h with
      bulk := ⟨by simp; omega, oneShaft_append h.bulk.2 headless⟩
      wait := ⟨hnodup.2, oneShaft_sublist hsub hone⟩
      shaftWaits := fun a => by
        have kept : s.rp.held.any LaneFrame.isShaft = true := by
          obtain ⟨x, hx, k⟩ := List.any_eq_true.mp a
          exact List.any_eq_true.mpr ⟨x, hsub.subset hx, k⟩
        rcases List.mem_cons.mp (hw ▸ h.shaftWaits kept) with e | e
        · exact absurd ((hh e.symm).symm.trans a) (by decide)
        · exact e
      shaftAlone := fun a => by
        have notOne : c ≠ 1 := fun e => hnodup.1 (e ▸ a)
        have plain : f.isShaft = false := by
          cases k : f.isShaft
          · rfl
          · exact absurd (hf k) notOne
        simpa [plain] using h.shaftAlone (hw ▸ List.mem_cons_of_mem c a) }

@[simp] theorem State.LanesBounded.admitWaiting (h : s.LanesBounded) (room : s.rp.bulk.length < 32) :
    s.admitWaiting.LanesBounded := by
  unfold State.admitWaiting
  split
  · exact h
  · next rest hw =>
    split
    · exact h.unwait hw (by simp)
    · next f more hl =>
      have plain : f.isShaft = false := by
        have := h.corrections.2 f (by simp [hl])
        simp [LaneFrame.isShaft, this]
      have entered := h.enterBulk room hw (f := f) (by simp [plain]) (List.Sublist.refl _) (by simp)
      exact (entered.sendLess (l := more) (by simp [hl])).muPump
  · next c rest _ hw =>
    split
    · next hn =>
      refine h.unwait hw fun hc => List.any_eq_false.mpr fun x hx k => ?_
      have := List.filter_eq_nil_iff.mp hn x hx
      simp [(LaneFrame.cls_eq_one x).mpr k, hc] at this
    · next f more hl =>
      have own : f.cls = c := by
        have := List.mem_filter.mp (hl ▸ List.mem_cons_self : f ∈ s.rp.held.filter fun f => f.cls == c)
        simpa using this.2
      refine ((h.enterBulk room hw (f := f) (fun k => ?_) List.filter_sublist fun hc => ?_).offerAll more).pubAdvance
      · rw [← own]; exact (LaneFrame.cls_eq_one f).mpr k
      · refine List.any_eq_false.mpr fun x hx k => ?_
        have := (List.mem_filter.mp hx).2
        simp [(LaneFrame.cls_eq_one x).mpr k, hc] at this

/-! ## Reception and transmission (R11 to R19) -/

@[simp] theorem State.handCopy_lanes (k : Kind) (c : Copy) (s : State) : (s.handCopy k c).LanesBounded ↔ s.LanesBounded := by
  cases k
  case tileControl => unfold State.handCopy; dsimp only; split <;> exact lanesBounded_congr rfl rfl
  all_goals exact lanesBounded_congr rfl rfl

/-- Closing the frame in reception touches the transmitter and the pass buffer alone. -/
theorem Rp.closeForwarded_eq (b : List Byte) (c : Closing) (r : Rp) : r.closeForwarded b c =
    { r with pass := (r.closeForwarded b c).pass, tx := (r.closeForwarded b c).tx } := by
  unfold Rp.closeForwarded
  split
  · split <;> rfl
  all_goals rfl

@[simp] theorem State.closeForwarded_lanes (b : List Byte) (c : Closing) (s : State) :
    (s.onRp fun r => r.closeForwarded b c).LanesBounded ↔ s.LanesBounded :=
  State.onRp_lanes (by rw [Rp.closeForwarded_eq]; rfl)

@[simp] theorem State.endReception_lanes (h : s.LanesBounded) (rx : Reception) (b : List Byte) (e : FrameEnding) :
    (s.endReception rx b e).LanesBounded := by
  have ended : (s.onRp fun r => { r with rx := none }).LanesBounded := (State.onRp_lanes rfl).mpr h
  unfold State.endReception
  dsimp only
  generalize (s.onRp fun r => { r with rx := none }) = v at ended ⊢
  split
  · exact ended
  · split
    · exact ended.countAborted
    · split
      · exact ended.receiverError
      · split <;> simp [ended]
  · split
    · simp [ended]
    · split
      · simp [ended]
      · split
        · simp [ended]
        · split
          · split <;> simp [ended]
          · simp [ended]

@[simp] theorem State.LanesBounded.cutReception (h : s.LanesBounded) (m : Bool) (a : List Byte) :
    (s.cutReception m a).LanesBounded := by
  unfold State.cutReception
  split
  · simp [h]
  · split <;> simp [h]

@[simp] theorem State.sendTest_lanes (s : State) : s.sendTest.LanesBounded ↔ s.LanesBounded := State.onRp_lanes rfl

/-- The frame of a lane being sent, before an urgent one enters the return watch (R19, R20). -/
def State.launched (lane : Lane) (f : LaneFrame) (s : State) : State :=
  s.onRp fun r =>
    { r with
      tx := .own lane f.kind (launchHeader f s.ownStation s.rp.seq (launchTimes f s.now).2 (launchTimes f s.now).1)
        f.payload (le 4 (frameCrc (launchHeader f s.ownStation s.rp.seq (launchTimes f s.now).2 (launchTimes f s.now).1)
          f.payload))
      seq := (s.rp.seq + 1) % 256 }

theorem State.launch_urgent (f : LaneFrame) (s : State) :
    s.launch .urgent f = (s.launched .urgent f).watchLaunch s.rp.seq := rfl

theorem State.launch_bulk (f : LaneFrame) (s : State) : s.launch .bulk f = s.launched .bulk f := rfl

@[simp] theorem State.launched_lanes (lane : Lane) (f : LaneFrame) (s : State) :
    (s.launched lane f).LanesBounded ↔ s.LanesBounded := State.onRp_lanes rfl

/-- The head of the urgent lane is launched (R17, R20). -/
theorem State.LanesBounded.launchUrgent (h : s.LanesBounded) {f : LaneFrame} {rest : List LaneFrame}
    (hu : s.rp.urgent = f :: rest) : ((s.onRp fun r => { r with urgent := rest }).launch .urgent f).LanesBounded := by
  have shorter : rest.Sublist s.rp.urgent := hu ▸ List.sublist_cons_self f rest
  have taken : (s.onRp fun r => { r with urgent := rest }).LanesBounded :=
    { h with urgent := ⟨shorter.length_le.trans h.urgent.1, oneShaft_sublist shorter h.urgent.2⟩ }
  rw [State.launch_urgent]
  simp [taken]

theorem State.LanesBounded.launchBulk (h : s.LanesBounded) {f : LaneFrame} {rest : List LaneFrame}
    (hb : s.rp.bulk = f :: rest) : ((s.onRp fun r => { r with bulk := rest }).launch .bulk f).LanesBounded := by
  have shorter : rest.Sublist s.rp.bulk := hb ▸ List.sublist_cons_self f rest
  have taken : (s.onRp fun r => { r with bulk := rest }).LanesBounded :=
    { h with
      bulk := ⟨shorter.length_le.trans h.bulk.1, oneShaft_sublist shorter h.bulk.2⟩
      shaftAlone := fun w => by have := h.shaftAlone w; rw [hb] at this; simp at this; simpa using this.2 }
  rw [State.launch_bulk]
  simp [taken]

@[simp] theorem State.LanesBounded.arbitrate (h : s.LanesBounded) (n : Nat) : (s.arbitrate n).LanesBounded := by
  have idle : (s.onRp fun r => { r with tx := .idle }).LanesBounded := (State.onRp_lanes rfl).mpr h
  have forward (p : PassFrame) (ps : List PassFrame) :
      (s.onRp fun r => { r with pass := ps, tx := .forward { p with header := s.forwardHeader p } }).LanesBounded :=
    (State.onRp_lanes rfl).mpr h
  unfold State.arbitrate
  dsimp only
  split
  · exact idle
  · exact idle
  · simp [h]
  · split
    · exact forward _ _
    · exact idle
  all_goals
    split
    · next hu _ =>
      split
      · exact h.launchUrgent hu
      · exact forward _ _
    · next hu _ =>
      split
      · exact h.launchUrgent hu
      · exact idle
    · exact forward _ _
    · next hb =>
      split
      · exact h.launchBulk hb
      · exact idle
    · exact idle

end Sys2Proof.Machine
end

/-! The lanes stay within their bounds: the operations of the blocks beside the Ring Port. -/

section
namespace Sys2Proof.Machine

variable {s t : State}

/-! ## Axes (R75 to R94) -/

@[simp] theorem State.historyDecouple_lanes (v : Nat) (i : Fin 4) (s : State) :
    (s.historyDecouple v i).LanesBounded ↔ s.LanesBounded := by
  unfold State.historyDecouple
  split
  · split <;> simp
  · rfl

@[simp] theorem State.stopEntry_lanes (c : AxisCfg) (v : Nat) (i : Fin 4) (s : State) :
    (s.stopEntry c v i).LanesBounded ↔ s.LanesBounded := by
  unfold State.stopEntry
  dsimp only
  split
  · rfl
  · split <;> simp

@[simp] theorem State.axisTick_lanes (i : Fin 4) (s : State) : (s.axisTick i).LanesBounded ↔ s.LanesBounded := by
  unfold State.axisTick
  split
  · split
    · rfl
    · unfold State.axisArithmetic
      dsimp only
      split <;> simp
  · rfl

@[simp] theorem State.axisTickEnd_lanes (i : Fin 4) (s : State) : (s.axisTickEnd i).LanesBounded ↔ s.LanesBounded := by
  unfold State.axisTickEnd
  dsimp only
  repeat' split
  all_goals simp

@[simp] theorem State.takeCorrection_lanes (a : Nat) (e : Int) (s : State) :
    (s.takeCorrection a e).LanesBounded ↔ s.LanesBounded := by
  unfold State.takeCorrection State.discardCorrection
  repeat' split
  all_goals simp

@[simp] theorem State.LanesBounded.driveTrip (h : s.LanesBounded) (r : AxisReason) (c : Nat) (i : Fin 4) :
    (s.driveTrip r c i).LanesBounded := by simp [State.driveTrip, h]

@[simp] theorem State.LanesBounded.answer (h : s.LanesBounded) (c : AxisCfg) (p : Nat) (x : Answer) (i : Fin 4) :
    (s.answer c p x i).LanesBounded := by
  unfold State.answer State.judgeAnswer
  dsimp only
  repeat' split
  all_goals simp [h]

@[simp] theorem State.LanesBounded.closeWindow (h : s.LanesBounded) (c : AxisCfg) (i : Fin 4) :
    (s.closeWindow c i).LanesBounded := by
  unfold State.closeWindow
  dsimp only
  split <;> simp [h]

/-! ## The Mark Unit (R119 to R133) -/

@[simp] theorem State.loopEvent_lanes (i : Fin 4) (p : LoopState) (r : LoopReason) (n : Option Nat) (s : State) :
    (s.loopEvent i p r n).LanesBounded ↔ s.LanesBounded := State.post_lanes _ s

/-- The send list takes a Correction frame only while it holds fewer than eight (R126). -/
@[simp] theorem State.LanesBounded.sendCorrection (h : s.LanesBounded) (n a : Nat) (e : Int) :
    (s.sendCorrection n a e).LanesBounded := by
  unfold State.sendCorrection
  refine State.LanesBounded.muPump ?_
  obtain ⟨hlen, hkind⟩ := h.corrections
  refine ⟨h.urgent, h.bulk, h.wait, h.shaftWaits, h.shaftAlone, ?_, h.watch⟩
  simp only [State.onMu_mu]
  split
  · refine ⟨by simp; omega, fun f hf => ?_⟩
    rcases List.mem_append.mp hf with k | k
    · exact hkind f k
    · rw [List.mem_singleton.mp k]; rfl
  · exact ⟨hlen, hkind⟩

@[simp] theorem State.LanesBounded.issueCorrection (h : s.LanesBounded) (x : MarkEntry) (e : Int) :
    (s.issueCorrection x e).LanesBounded := by
  unfold State.issueCorrection; split <;> simp [h]

@[simp] theorem State.LanesBounded.stepTolerance (h : s.LanesBounded) (i : Fin 4) (c : CamCfg) (n : Nat) (e : Int) :
    (s.stepTolerance i c n e).LanesBounded := by
  unfold State.stepTolerance
  dsimp only
  repeat' split
  all_goals simp [h]

@[simp] theorem State.LanesBounded.clearTolerance (h : s.LanesBounded) (i : Fin 4) : (s.clearTolerance i).LanesBounded := by
  simp [State.clearTolerance, h]

@[simp] theorem State.markMissing_lanes (i : Fin 4) (c : CamCfg) (n : Nat) (s : State) :
    (s.markMissing i c n).LanesBounded ↔ s.LanesBounded := by
  unfold State.markMissing
  dsimp only
  split <;> simp

@[simp] theorem State.LanesBounded.markFound (h : s.LanesBounded) (i : Fin 4) (c : CamCfg) (n p r : Nat) :
    (s.markFound i c n p r).LanesBounded := by
  unfold State.markFound
  dsimp only
  split <;> simp [h]

@[simp] theorem State.LanesBounded.judge (h : s.LanesBounded) (i : Fin 4) (c : CamCfg) (r p n : Nat) :
    (s.judge i c r p n).LanesBounded := by
  unfold State.judge
  dsimp only
  split
  · exact h
  · split <;> simp [h]

@[simp] theorem State.LanesBounded.evaluateFull (h : s.LanesBounded) (i : Fin 4) (c : CamCfg) (r : Nat) (p : Option Nat) :
    (s.evaluateFull i c r p).LanesBounded := by
  unfold State.evaluateFull
  dsimp only
  split
  · split <;> simp [h]
  · exact State.LanesBounded.foldl (by simpa using h) (fun s n h => h.judge i c r _ n) _

@[simp] theorem State.evaluateSeek_lanes (i : Fin 4) (c : CamCfg) (p : Option Nat) (s : State) :
    (s.evaluateSeek i c p).LanesBounded ↔ s.LanesBounded := by
  unfold State.evaluateSeek
  dsimp only
  split
  · simp
  · split <;> simp

@[simp] theorem State.LanesBounded.evaluate (h : s.LanesBounded) (i : Fin 4) (c : CamCfg) (r : Nat) :
    (s.evaluate i c r).LanesBounded := by
  unfold State.evaluate
  split
  · exact h
  · split <;> simp [h]

@[simp] theorem State.LanesBounded.loopTick (h : s.LanesBounded) (n : Cov) (i : Fin 4) : (s.loopTick n i).LanesBounded := by
  unfold State.loopTick
  split
  · exact h
  · split
    · exact h
    · dsimp only
      split <;> simp [h]

@[simp] theorem State.loopCompare_lanes (i : Fin 4) (s : State) : (s.loopCompare i).LanesBounded ↔ s.LanesBounded := by
  unfold State.loopCompare State.loopSpeed
  dsimp only
  repeat' split
  all_goals simp

@[simp] theorem State.LanesBounded.markTick (h : s.LanesBounded) : s.markTick.LanesBounded := by
  have ticked : ((s.eachAxis (State.loopTick s.su.covers)).eachAxis State.loopCompare).LanesBounded :=
    (h.eachAxis fun i s h => h.loopTick _ i).eachAxis fun i s h => (s.loopCompare_lanes i).mpr h
  exact ticked.congr rfl rfl

@[simp] theorem State.LanesBounded.enterSeeking (h : s.LanesBounded) (i : Fin 4) (r : LoopReason) :
    (s.enterSeeking i r).LanesBounded := by simp [State.enterSeeking, h]

@[simp] theorem State.LanesBounded.enterOff (h : s.LanesBounded) (i : Fin 4) (r : LoopReason) :
    (s.enterOff i r).LanesBounded := by
  unfold State.enterOff
  dsimp only
  split <;> simp [h]

@[simp] theorem State.LanesBounded.configureLoop (h : s.LanesBounded) (i : Fin 4) : (s.configureLoop i).LanesBounded := by
  unfold State.configureLoop
  dsimp only
  split <;> simp [h]

@[simp] theorem State.markLine_lanes (i : Fin 4) (c : CamCfg) (g : LineTag) (p : List Byte) (s : State) :
    (s.markLine i c g p).LanesBounded ↔ s.LanesBounded := by
  unfold State.markLine; split <;> simp

/-! ## The Camera Unit (R99 to R115) -/

@[simp] theorem State.triggerDue_lanes (i : Fin 4) (s : State) : (s.triggerDue i).LanesBounded ↔ s.LanesBounded := by
  have offered (w : Sweep) (d : Nat × Nat) (s : State) : (s.offerTrigger i w d).LanesBounded ↔ s.LanesBounded := by
    unfold State.offerTrigger State.skipTrigger State.sendTrigger
    dsimp only
    split <;> simp
  unfold State.triggerDue
  dsimp only
  repeat' split
  all_goals simp [offered]

@[simp] theorem State.LanesBounded.rearmTick (h : s.LanesBounded) : s.rearmTick.LanesBounded := by
  unfold State.rearmTick
  split
  · exact h.eachAxis fun i s h => by unfold State.rearmCamera; split <;> simp [h]
  · exact h

@[simp] theorem State.LanesBounded.judgeWeb (h : s.LanesBounded) (i : Fin 4) (c : CamCfg) (p : List Byte) :
    (s.judgeWeb i c p).LanesBounded := by
  unfold State.judgeWeb
  dsimp only
  split
  · exact h
  · repeat' split
    all_goals simp [h]

@[simp] theorem State.stripDone_lanes (i : Fin 4) (f : Half) (n : Nat) (s : State) :
    (s.stripDone i f n).LanesBounded ↔ s.LanesBounded := by simp [State.stripDone]

@[simp] theorem State.pumpStripN_lanes (i : Fin 4) (b n : Nat) (s : State) :
    (s.pumpStripN i b n).LanesBounded ↔ s.LanesBounded := by
  induction n generalizing s with
  | zero => rfl
  | succ n ih =>
    unfold State.pumpStripN
    split
    · rfl
    · split
      · rfl
      · split
        · rfl
        · dsimp only
          split
          · rw [ih]; simp
          · simp

@[simp] theorem State.pumpStrip_lanes (i : Fin 4) (s : State) : (s.pumpStrip i).LanesBounded ↔ s.LanesBounded := by
  unfold State.pumpStrip; split <;> simp

@[simp] theorem State.acceptLine_lanes (i : Fin 4) (c : CamCfg) (g : LineTag) (p : List Byte) (s : State) :
    (s.acceptLine i c g p).LanesBounded ↔ s.LanesBounded := by
  unfold State.acceptLine
  dsimp only
  split
  · simp
  · split <;> simp

@[simp] theorem State.fillStrip_lanes (i : Fin 4) (c : CamCfg) (g : LineTag) (p : List Byte) (s : State) :
    (s.fillStrip i c g p).LanesBounded ↔ s.LanesBounded := by
  unfold State.fillStrip
  split
  · rfl
  · split
    · simp
    · split
      · simp [State.startStrip]
      · unfold State.dropLine
        dsimp only
        split <;> simp

@[simp] theorem State.finishAborted_lanes (i : Fin 4) (f : Half) (s : State) :
    (s.finishAborted i f).LanesBounded ↔ s.LanesBounded := by
  unfold State.finishAborted
  dsimp only
  split <;> simp

@[simp] theorem State.abortStrip_lanes (i : Fin 4) (f : Half) (b : Bool) (s : State) :
    (s.abortStrip i f b).LanesBounded ↔ s.LanesBounded := by
  unfold State.abortStrip
  dsimp only
  split <;> simp

@[simp] theorem State.mapEntryRead_lanes (i : Fin 4) (x : Transfer) (b : List Byte) (s : State) :
    (s.mapEntryRead i x b).LanesBounded ↔ s.LanesBounded := by
  unfold State.mapEntryRead State.cacheTranslation State.countMapError
  dsimp only
  repeat' split
  all_goals simp

@[simp] theorem State.stripWritten_lanes (i : Fin 4) (x : Transfer) (s : State) :
    (s.stripWritten i x).LanesBounded ↔ s.LanesBounded := by
  unfold State.stripWritten
  dsimp only
  repeat' split
  all_goals simp

@[simp] theorem State.stripTransferFailed_lanes (i : Fin 4) (x : Transfer) (k : DmaKind) (s : State) :
    (s.stripTransferFailed i x k).LanesBounded ↔ s.LanesBounded := by
  unfold State.stripTransferFailed
  repeat' split
  all_goals simp

@[simp] theorem State.LanesBounded.freshCameras (h : s.LanesBounded) : s.freshCameras.LanesBounded := by
  simp [State.freshCameras, h]

/-! ## The Screen Unit (R162 to R183) -/

@[simp] theorem State.LanesBounded.requestTile (h : s.LanesBounded) (id : TileId) (v : Option Nat) :
    (s.requestTile id v).LanesBounded := by
  unfold State.requestTile; split <;> simp [h]

/-- A change of the Screen Unit alone. -/
theorem State.LanesBounded.withScu (h : s.LanesBounded) (c : Scu) : State.LanesBounded { s with scu := c } :=
  h.congr rfl rfl

@[simp] theorem State.LanesBounded.allocate (h : s.LanesBounded) (id : TileId) : (s.allocate id).LanesBounded := by
  unfold State.allocate
  split
  · simpa using h
  · exact (h.withScu _).requestTile id none

@[simp] theorem State.LanesBounded.assign (h : s.LanesBounded) (a : Nat × Content) : (s.assign a).LanesBounded := by
  unfold State.assign
  dsimp only
  split
  · split <;> simp [h]
  · simpa using h
  · simpa using h

@[simp] theorem State.takeRefusal_lanes (n i c r : Nat) (s : State) :
    (s.takeRefusal n i c r).LanesBounded ↔ s.LanesBounded := by
  unfold State.takeRefusal
  dsimp only
  repeat' split
  all_goals simp

@[simp] theorem State.LanesBounded.takeViewRequest (h : s.LanesBounded) (n i c k w : Nat) :
    (s.takeViewRequest n i c k w).LanesBounded := by
  unfold State.takeViewRequest
  dsimp only
  generalize s.scu.viewRequest s.camCfg n i c k w = p
  have taken := h.withScu p.1
  split
  · exact taken
  · split <;> simp [taken]

@[simp] theorem State.LanesBounded.requestView (h : s.LanesBounded) (i : Fin 2) : (s.requestView i).LanesBounded := by
  unfold State.requestView
  dsimp only
  split <;> simp [h]

@[simp] theorem State.LanesBounded.repeatViews (h : s.LanesBounded) : s.repeatViews.LanesBounded := by
  unfold State.repeatViews
  dsimp only
  repeat' split
  all_goals simp [h]

@[simp] theorem State.LanesBounded.viewLineFor (h : s.LanesBounded) (i : Fin 4) (g : LineTag) (p : List Byte)
    (v : Viewer) : (s.viewLineFor i g p v).LanesBounded := by
  unfold State.viewLineFor
  dsimp only
  repeat' split
  all_goals simp [h]

@[simp] theorem State.LanesBounded.viewersTake (h : s.LanesBounded) (i : Fin 4) (g : LineTag) (p : List Byte) :
    (s.viewersTake i g p).LanesBounded := h.foldl (fun _ v h => h.viewLineFor i g p v) _

@[simp] theorem State.LanesBounded.routeTouch (h : s.LanesBounded) (b : Bool) (x y : Nat) :
    (s.routeTouch b x y).LanesBounded := by
  unfold State.routeTouch
  dsimp only
  repeat' split
  all_goals simp [h]

@[simp] theorem State.takeViewStop_lanes (n i c : Nat) (s : State) :
    (s.takeViewStop n i c).LanesBounded ↔ s.LanesBounded := by
  unfold State.takeViewStop; split <;> simp

@[simp] theorem State.LanesBounded.publish (h : s.LanesBounded) (l : List PubTile) : (s.publish l).LanesBounded := by
  simp [State.publish, h]

@[simp] theorem State.LanesBounded.takeTile (h : s.LanesBounded) (b : List Byte) : (s.takeTile b).LanesBounded := by
  unfold State.takeTile
  dsimp only
  repeat' split
  all_goals simp [h]

/-! ## Membership and step states (R26 to R69) -/

@[simp] theorem State.onSlot_lanes (n : Nat) (f : RosterSlot → RosterSlot) (s : State) :
    (s.onSlot n f).LanesBounded ↔ s.LanesBounded := by
  unfold State.onSlot; split <;> simp

@[simp] theorem State.LanesBounded.offerHello (h : s.LanesBounded) : s.offerHello.LanesBounded := h.offer _

@[simp] theorem State.changeStep_lanes (f : Su → Su) (s : State) : (s.changeStep f).LanesBounded ↔ s.LanesBounded := by
  simp [State.changeStep, State.stepEvent]

@[simp] theorem State.LanesBounded.forgetViews (h : s.LanesBounded) : s.forgetViews.LanesBounded := by
  simp [State.forgetViews, h]

@[simp] theorem State.LanesBounded.shaftMembered (h : s.LanesBounded) : s.shaftMembered.LanesBounded := by
  unfold State.shaftMembered
  dsimp only
  split <;> simp [h]

@[simp] theorem State.LanesBounded.shaftOut (h : s.LanesBounded) : s.shaftOut.LanesBounded := by
  have idle : (if (s.su.step != .shaftIdle || s.su.adopted) = true then
      s.changeStep fun u => { u with step := .shaftIdle, adopted := false } else s).LanesBounded := by
    split <;> simp [h]
  exact State.LanesBounded.reportFalse
    (State.LanesBounded.reportFalse ((State.onSu_lanes _ _).mpr idle.forgetViews) 10 0) 12 0

@[simp] theorem State.linkEvent_lanes (p : LinkState) (a e : Nat) (s : State) :
    (s.linkEvent p a e).LanesBounded ↔ s.LanesBounded := State.post_lanes _ s

/-- With the urgent lane and the watch emptied nothing of them is left to bound. -/
theorem State.LanesBounded.quieted (h : s.LanesBounded) :
    (s.onRp fun r =>
      { r with urgent := [], pass := [], watch := [], consecMissing := 0, errWindow := 0, tx := r.tx.cutOff
        }).LanesBounded where
  urgent := by simp [State.onRp]
  bulk := h.bulk
  wait := h.wait
  shaftWaits := h.shaftWaits
  shaftAlone := h.shaftAlone
  corrections := h.corrections
  watch := by simp [State.onRp]

@[simp] theorem State.LanesBounded.ringOut (h : s.LanesBounded) : s.ringOut.LanesBounded :=
  ((h.quieted.emptyBulk.reportFalse 6 0).reportFalse 7 0).reportFalse 9 0

@[simp] theorem State.LanesBounded.memberOut (h : s.LanesBounded) (b : Bool) : (s.memberOut b).LanesBounded := by
  unfold State.memberOut
  dsimp only
  refine State.LanesBounded.reportFalse (State.LanesBounded.reportAllFalse ?_ 8 _) 9 1
  rw [State.onScu_lanes]
  split <;> simp [h]

@[simp] theorem State.LanesBounded.changeLink (h : s.LanesBounded) (l : LinkState) (r : BypassReason) (a e : Nat) :
    (s.changeLink l r a e).LanesBounded := by
  have switched : (if l.bypass = s.mc.link.bypass then s else s.switchBypass).LanesBounded := by
    split <;> simp [State.switchBypass, h]
  unfold State.changeLink
  dsimp only
  generalize (if l.bypass = s.mc.link.bypass then s else s.switchBypass) = v at switched ⊢
  split
  · exact State.LanesBounded.shaftOut (State.LanesBounded.memberOut (by simp [switched]) _)
  · exact State.LanesBounded.shaftOut (State.LanesBounded.memberOut (by simp [switched]) _)
  · simp [switched]
  · exact (State.onRp_lanes rfl).mpr (by simpa using switched)
  all_goals simp [switched]

@[simp] theorem State.LanesBounded.startAttempt (h : s.LanesBounded) : s.startAttempt.LanesBounded := by
  simp [State.startAttempt, h]

@[simp] theorem State.LanesBounded.endAttempt (h : s.LanesBounded) (n : Nat) : (s.endAttempt n).LanesBounded := by
  unfold State.endAttempt
  dsimp only
  repeat' split
  all_goals simp [h]

@[simp] theorem State.LanesBounded.dropPeer (h : s.LanesBounded) (n : Nat) : (s.dropPeer n).LanesBounded := by
  have left : (((((s.onSlot n fun r => .absent r.required).orphanWhere fun o => o == n).onScu
      (Scu.dropStation n)).onSu fun u => { u with reports := u.reports.filter fun r => r.peer != n }).reportFalse
        11 n).LanesBounded := by simp [h]
  unfold State.dropPeer
  dsimp only
  split
  · exact left.reportTrue 8 n
  · exact left

@[simp] theorem State.LanesBounded.removePeer (h : s.LanesBounded) (n : Nat) (r : RosterReason) :
    (s.removePeer n r).LanesBounded := by simp [State.removePeer, h]

@[simp] theorem State.LanesBounded.removeSilent (h : s.LanesBounded) (n : Nat) : (s.removeSilent n).LanesBounded := by
  unfold State.removeSilent; split <;> simp [h]

@[simp] theorem State.LanesBounded.makePresent (h : s.LanesBounded) (n d : Nat) (m : HelloMsg) :
    (s.makePresent n d m).LanesBounded := by simp [State.makePresent, h]

@[simp] theorem State.LanesBounded.slotHello (h : s.LanesBounded) (n d : Nat) (m : HelloMsg) :
    (s.slotHello n d m).LanesBounded := by
  unfold State.slotHello
  dsimp only
  repeat' split
  all_goals simp [h]

@[simp] theorem State.LanesBounded.endDuplicate (h : s.LanesBounded) : s.endDuplicate.LanesBounded := by
  unfold State.endDuplicate; split <;> simp [h]

@[simp] theorem State.LanesBounded.foreignHello (h : s.LanesBounded) (d : Nat) (m : HelloMsg) :
    (s.foreignHello d m).LanesBounded := by
  unfold State.foreignHello
  dsimp only
  repeat' split
  all_goals simp [h]

@[simp] theorem State.LanesBounded.takeHello (h : s.LanesBounded) (c : Copy) : (s.takeHello c).LanesBounded := by
  unfold State.takeHello State.ownHello State.peerHello
  dsimp only
  repeat' split
  all_goals simp [h]

@[simp] theorem State.enterAlone_lanes (s : State) : s.enterAlone.LanesBounded ↔ s.LanesBounded := by
  unfold State.enterAlone; split <;> simp

@[simp] theorem State.LanesBounded.takeReport (h : s.LanesBounded) (x : Header) (b : Int) (m : ShaftMsg) :
    (s.takeReport x b m).LanesBounded := by
  unfold State.takeReport
  dsimp only
  repeat' split
  all_goals simp [h]

@[simp] theorem State.LanesBounded.offerCarried (h : s.LanesBounded) (m : ShaftMsg) : (s.offerCarried m).LanesBounded := by
  unfold State.offerCarried
  split
  · exact h.foldl (fun _ e h => h.installEntry e) _
  · exact h

@[simp] theorem State.LanesBounded.lineReplaced (h : s.LanesBounded) (v : Nat) : (s.lineReplaced v).LanesBounded := by
  have left := h.eachAxis fun i s h => (s.historyDecouple_lanes v i).mpr h
  exact left.congr rfl rfl

@[simp] theorem State.resubmitStops_lanes (s : State) : s.resubmitStops.LanesBounded ↔ s.LanesBounded :=
  lanesBounded_congr rfl rfl

@[simp] theorem State.LanesBounded.adopt (h : s.LanesBounded) (b : Int) (m : ShaftMsg) : (s.adopt b m).LanesBounded := by
  unfold State.adopt
  dsimp only
  split <;> simp [h]

@[simp] theorem State.LanesBounded.examine (h : s.LanesBounded) (f : Bool) (x : Header) (b : Int) (m : ShaftMsg) :
    (s.examine f x b m).LanesBounded := by
  unfold State.examine; split <;> simp [h]

@[simp] theorem State.LanesBounded.measure (h : s.LanesBounded) (x : Header) (b : Int) (m : ShaftMsg) :
    (s.measure x b m).LanesBounded := by
  unfold State.measure; split <;> simp [h]

@[simp] theorem State.LanesBounded.takeShaft (h : s.LanesBounded) (c : Copy) : (s.takeShaft c).LanesBounded := by
  unfold State.takeShaft
  dsimp only
  repeat' split
  all_goals simp [h]

@[simp] theorem State.LanesBounded.takeSpeed (h : s.LanesBounded) (c : Copy) : (s.takeSpeed c).LanesBounded := by
  unfold State.takeSpeed
  dsimp only
  repeat' split
  all_goals simp [h]

@[simp] theorem State.LanesBounded.endTick (h : s.LanesBounded) : s.endTick.LanesBounded := by
  unfold State.endTick
  split
  · exact State.LanesBounded.eachAxis (by simpa using h) fun i s h => (s.axisTickEnd_lanes i).mpr h
  · exact h

@[simp] theorem State.LanesBounded.tickBlocks (h : s.LanesBounded) : s.tickBlocks.LanesBounded := by
  have ticked := h.eachAxis fun i s h => (s.axisTick_lanes i).mpr h
  have swept : (s.eachAxis State.axisTick).sweepTick.LanesBounded := ticked.congr rfl rfl
  exact swept.rearmTick.markTick

@[simp] theorem State.LanesBounded.tickAt (h : s.LanesBounded) (b : Int) : (s.tickAt b).LanesBounded := by
  simp [State.tickAt, h]

@[simp] theorem State.LanesBounded.startBeat (h : s.LanesBounded) : s.startBeat.LanesBounded := by
  unfold State.startBeat State.offerShaft
  dsimp only
  split <;> simp [h]

@[simp] theorem State.LanesBounded.loseStep (h : s.LanesBounded) : s.loseStep.LanesBounded := by
  unfold State.loseStep; split <;> simp [h]

@[simp] theorem State.LanesBounded.found (h : s.LanesBounded) : s.found.LanesBounded := by
  simp [State.found, h]

@[simp] theorem State.LanesBounded.command (h : s.LanesBounded) (e : Entry) : (s.command e).LanesBounded := by
  simp [State.command, h]

@[simp] theorem State.LanesBounded.lapseTrip (h : s.LanesBounded) (k : TripKey) : (s.lapseTrip k).LanesBounded := by
  unfold State.lapseTrip; split <;> simp [h]

@[simp] theorem State.LanesBounded.takeTrip (h : s.LanesBounded) (c : Copy) : (s.takeTrip c).LanesBounded := by
  unfold State.takeTrip
  dsimp only
  repeat' split
  all_goals simp [h]

/-! ## Roster beats (R23, R32, R34, R41) -/

@[simp] theorem State.stepSilences_lanes (s : State) : s.stepSilences.LanesBounded ↔ s.LanesBounded := by
  unfold State.stepSilences; split <;> simp

@[simp] theorem State.stepDuplicate_lanes (s : State) : s.stepDuplicate.LanesBounded ↔ s.LanesBounded := by
  unfold State.stepDuplicate; split <;> simp

@[simp] theorem State.LanesBounded.stepListen (h : s.LanesBounded) : s.stepListen.LanesBounded := by
  unfold State.stepListen State.countSinceMember
  dsimp only
  repeat' split
  all_goals simp [h]

/-! ## Resets, the host link and the configuration (R25, R191, R199) -/

@[simp] theorem State.LanesBounded.reportInputs (h : s.LanesBounded) : s.reportInputs.LanesBounded := by
  have input {s : State} (h : s.LanesBounded) (b : Bool) (c : Nat) : (s.reportInput b c).LanesBounded := by
    unfold State.reportInput; split <;> simp [h]
  exact input (input (input (input (input (input (input h _ 0) _ 1) _ 2) _ 3) _ 4) _ 5) _ 20

/-- Empty lanes with nothing waiting and an empty watch are within their bounds. -/
theorem State.LanesBounded.of_empty (hr : s.rp.lanes = ([], [], [], [], [], 0)) (hl : s.mu.sendList = []) :
    s.LanesBounded := by
  simp only [Rp.lanes, Prod.mk.injEq] at hr
  obtain ⟨hu, hb, hw, hh, hwatch, hc⟩ := hr
  constructor <;> simp [*]

@[simp] theorem State.coldReset_lanes (s : State) : s.coldReset.LanesBounded :=
  State.LanesBounded.reportInputs (.of_empty rfl rfl)

@[simp] theorem State.warmReset_lanes (s : State) : s.warmReset.LanesBounded :=
  State.LanesBounded.reportInputs (.of_empty rfl rfl)

/-- Fragments kept behind the waiting one go; a Shaft frame stays (R185). -/
theorem State.LanesBounded.dropFragments (h : s.LanesBounded) : (s.onRp Rp.dropFragments).LanesBounded := by
  have notShaft {x : LaneFrame} (k : x.kind = .tileData) : x.isShaft = false := by simp [LaneFrame.isShaft, k]
  have dropped : ((s.rp.held.filter fun f => f.kind == .tileData).take 1).filter LaneFrame.isShaft = [] :=
    List.filter_eq_nil_iff.mpr fun x hx => by
      have := (List.mem_filter.mp (List.mem_of_mem_take hx)).2
      simp [notShaft (by simpa using this)]
  have kept : s.rp.dropFragments.held.filter LaneFrame.isShaft =
      (s.rp.held.filter fun f => f.kind != .tileData).filter LaneFrame.isShaft := by
    simp only [Rp.dropFragments, List.filter_append, dropped, List.nil_append]
  exact
    { h with
      wait := ⟨h.wait.1, by
        show (s.rp.dropFragments.held.filter LaneFrame.isShaft).length ≤ 1
        rw [kept]; exact oneShaft_sublist List.filter_sublist h.wait.2⟩
      shaftWaits := fun a => h.shaftWaits (by
        obtain ⟨x, hx, k⟩ := List.any_eq_true.mp a
        have : x ∈ s.rp.dropFragments.held.filter LaneFrame.isShaft := List.mem_filter.mpr ⟨hx, k⟩
        rw [kept] at this
        exact List.any_eq_true.mpr ⟨x, (List.mem_filter.mp (List.mem_filter.mp this).1).1, k⟩) }

@[simp] theorem State.LanesBounded.linkLoss (h : s.LanesBounded) : s.linkLoss.LanesBounded := by
  have lost (u : State) (hu : u.LanesBounded) : (u.onRp Rp.dropFragments).LanesBounded := hu.dropFragments
  simp [State.linkLoss, State.discardEvents, lost, h]

@[simp] theorem State.LanesBounded.portBecameReady (h : s.LanesBounded) : s.portBecameReady.LanesBounded := by
  unfold State.portBecameReady
  dsimp only
  split <;> simp [h]

@[simp] theorem State.configureAxis_lanes (i : Fin 4) (s : State) : (s.configureAxis i).LanesBounded ↔ s.LanesBounded := by
  unfold State.configureAxis
  dsimp only
  split <;> simp

@[simp] theorem State.LanesBounded.configure (h : s.LanesBounded) (c : Cfg) : (s.configure c).LanesBounded := by
  have taken : State.LanesBounded { s with cfg := some c } := h.congr rfl rfl
  unfold State.configure
  dsimp only
  rw [State.updateLocalStop_lanes, State.onScu_lanes]
  refine State.LanesBounded.eachAxis (State.LanesBounded.freshCameras ?_) fun i s h => h.configureLoop i
  rw [State.onCmp_lanes]
  refine ((State.LanesBounded.reportAllFalse ?_ 13 _).reportAllFalse 14 _).reportAllFalse 15 _
  refine State.LanesBounded.eachAxis ?_ fun i s h => (s.configureAxis_lanes i).mpr h
  refine State.LanesBounded.foldl ?_ (fun s k h => h.reevaluate _ _ k) _
  simpa using taken

@[simp] theorem State.LanesBounded.finishConfigure (h : s.LanesBounded) : s.finishConfigure.LanesBounded := by
  unfold State.finishConfigure
  split
  · split <;> simp [h]
  · exact h

@[simp] theorem State.LanesBounded.awaitStripWrites (h : s.LanesBounded) (c : Cfg) : (s.awaitStripWrites c).LanesBounded := by
  simp [State.awaitStripWrites, h]

/-! ## The Command Port (R187 to R198) -/

@[simp] theorem State.LanesBounded.writeRun (h : s.LanesBounded) (q : QueueId) (b : Bool) : (s.writeRun q b).LanesBounded := by
  unfold State.writeRun State.setRunFlag
  dsimp only
  repeat' split
  all_goals simp [h]

@[simp] theorem State.setupWrite_lanes (q : QueueId) (b n : Nat) (s : State) :
    (s.setupWrite q b n).LanesBounded ↔ s.LanesBounded := by
  unfold State.setupWrite; split <;> simp

@[simp] theorem State.LanesBounded.sizeWrite (h : s.LanesBounded) (q : QueueId) (n : Nat) (b : Bool) :
    (s.sizeWrite q n b).LanesBounded := by
  unfold State.sizeWrite
  repeat' split
  all_goals simp [h]

@[simp] theorem State.startImage_lanes (a l : Nat) (b : List Byte) (s : State) :
    (s.startImage a l b).LanesBounded ↔ s.LanesBounded := by
  unfold State.startImage; split <;> simp

@[simp] theorem State.startRead_lanes (p : Purpose) (a l : Nat) (s : State) :
    (s.startRead p a l).LanesBounded ↔ s.LanesBounded := by simp [State.startRead]

@[simp] theorem State.failCommand_lanes (k : DmaKind) (s : State) : (s.failCommand k).LanesBounded ↔ s.LanesBounded :=
  s.complete_lanes _ _ _

@[simp] theorem State.LanesBounded.endCommand (h : s.LanesBounded) (q : CmdQueue) : (s.endCommand q).LanesBounded := by
  unfold State.endCommand
  dsimp only
  split <;> simp [h]

@[simp] theorem State.closeNotice_lanes (s : State) : s.closeNotice.LanesBounded ↔ s.LanesBounded := by
  unfold State.closeNotice
  dsimp only
  repeat' split
  all_goals simp

@[simp] theorem State.settleCounters_lanes (b : List Byte) (s : State) :
    (s.settleCounters b).LanesBounded ↔ s.LanesBounded := by
  unfold State.settleCounters
  dsimp only
  split <;> exact lanesBounded_congr rfl rfl

@[simp] theorem State.imageWritten_lanes (b : List Byte) (s : State) :
    (s.imageWritten b).LanesBounded ↔ s.LanesBounded := by
  unfold State.imageWritten; split <;> simp

@[simp] theorem State.nextEvent_lanes (s : State) : s.nextEvent.LanesBounded ↔ s.LanesBounded := by
  simp [State.nextEvent]

@[simp] theorem State.eventWritten_lanes (x : Transfer) (s : State) : (s.eventWritten x).LanesBounded ↔ s.LanesBounded := by
  simp [State.eventWritten]

@[simp] theorem State.LanesBounded.failTransfer (h : s.LanesBounded) (x : Transfer) (k : DmaKind) :
    (s.failTransfer x k).LanesBounded := by
  unfold State.failTransfer
  repeat' split
  all_goals simp [h]

theorem State.LanesBounded.withTransfer {f : Transfer → State → State} (h : s.LanesBounded)
    (hf : ∀ x s, State.LanesBounded s → (f x s).LanesBounded) (p : Purpose) (u : DmaUnit) :
    (s.withTransfer p u f).LanesBounded := by
  unfold State.withTransfer
  split
  · exact hf _ _ (by simpa using h)
  · exact h

theorem State.LanesBounded.withReply {f : Transfer → List Byte → State → State} (h : s.LanesBounded)
    (hf : ∀ x b s, State.LanesBounded s → (f x b s).LanesBounded) (p : Purpose) (u : DmaUnit) (r : DmaReply) :
    (s.withReply p u r f).LanesBounded :=
  h.withTransfer (fun x s h => by
    cases r with
    | data b => exact hf x b s h
    | error => exact h.failTransfer x _) p u

theorem State.LanesBounded.withWrite {f : Transfer → State → State} (h : s.LanesBounded)
    (hf : ∀ x s, State.LanesBounded s → (f x s).LanesBounded) (p : Purpose) (u : DmaUnit) (ok : Bool) :
    (s.withWrite p u ok f).LanesBounded :=
  h.withTransfer (fun x s h => by
    cases ok with
    | true => exact hf x s h
    | false => exact h.failTransfer x _) p u

@[simp] theorem State.takeDescriptor_lanes (q : CmdQueue) (d : List Byte) (s : State) :
    (s.takeDescriptor q d).LanesBounded ↔ s.LanesBounded := by
  unfold State.takeDescriptor
  dsimp only
  repeat' split
  all_goals simp

end Sys2Proof.Machine
end

/-! The lanes stay within their bounds: every step. -/

section
namespace Sys2Proof.Machine

variable {s : State}

/-- A state that an answer gives keeps the bounds. -/
def KeepsLanes (a : Answered) : Prop := ∀ u, a = .next u → u.LanesBounded

@[simp] theorem keepsLanes_next (s : State) : KeepsLanes (.next s) ↔ s.LanesBounded :=
  ⟨fun h => h s rfl, fun h u e => by cases e; exact h⟩

/-! ## The ring -/

@[simp] theorem State.LanesBounded.lockLost (h : s.LanesBounded) (m : Bool) (a : List Byte) :
    (s.lockLost m a).LanesBounded := by
  have cut : (s.cutBlock m a).LanesBounded := by
    unfold State.cutBlock State.countBlock; split <;> simp [h]
  unfold State.lockLost
  dsimp only
  split <;> simp [cut]

@[simp] theorem State.LanesBounded.lockGained (h : s.LanesBounded) : s.lockGained.LanesBounded := by
  unfold State.lockGained
  split
  · split <;> simp [h]
  all_goals simp [h]

@[simp] theorem State.takeHeader_lanes (a : Nat) (b : List Byte) (s : State) :
    (s.takeHeader a b).LanesBounded ↔ s.LanesBounded := by
  unfold State.takeHeader
  dsimp only
  split <;> exact lanesBounded_congr rfl rfl

@[simp] theorem State.LanesBounded.headless (h : s.LanesBounded) (e : FrameEnding) : (s.headless e).LanesBounded := by
  cases e <;> simp [State.headless, h]

theorem execFrameEndArrival_lanes (h : s.LanesBounded) (t : Nat) (b : List Byte) (e : FrameEnding) :
    KeepsLanes (execFrameEndArrival t b e s) := by
  simp only [execFrameEndArrival, keepsLanes_next]
  split
  · split <;> simp [h]
  · simp [h]

theorem execBulkWaitAdmit_lanes (h : s.LanesBounded) : KeepsLanes (execBulkWaitAdmit s) := by
  rw [execBulkWaitAdmit, keepsLanes_next]
  split
  · next room => exact h.admitWaiting room
  · exact h

/-! ## Copies handed on -/

theorem execHelloCopy_lanes (h : s.LanesBounded) : KeepsLanes (execHelloCopy s) := by
  rw [execHelloCopy, keepsLanes_next]
  split
  · exact h
  · next c rest _ =>
    have taken : State.LanesBounded { s with inMc := rest } := h.congr rfl rfl
    exact taken.takeHello c

theorem execShaftCopy_lanes (h : s.LanesBounded) : KeepsLanes (execShaftCopy s) := by
  rw [execShaftCopy, keepsLanes_next]
  split
  · exact h
  · next c rest _ =>
    have taken : State.LanesBounded { s with inSu := rest } := h.congr rfl rfl
    split
    · exact taken.takeShaft c
    · exact h

theorem execSpeedCopy_lanes (h : s.LanesBounded) : KeepsLanes (execSpeedCopy s) := by
  rw [execSpeedCopy, keepsLanes_next]
  split
  · exact h
  · next c rest _ =>
    have taken : State.LanesBounded { s with inSu := rest } := h.congr rfl rfl
    split
    · exact taken.takeSpeed c
    · exact h

theorem execTripCopy_lanes (h : s.LanesBounded) : KeepsLanes (execTripCopy s) := by
  rw [execTripCopy, keepsLanes_next]
  split
  · exact h
  · next c rest _ =>
    have taken : State.LanesBounded { s with inTu := rest } := h.congr rfl rfl
    exact taken.takeTrip c

theorem execCorrectionCopy_lanes (h : s.LanesBounded) : KeepsLanes (execCorrectionCopy s) := by
  rw [execCorrectionCopy, keepsLanes_next]
  split
  · exact h
  · next c rest _ =>
    have taken : State.LanesBounded { s with inAu := rest } := h.congr rfl rfl
    dsimp only
    split
    · rw [State.takeCorrection_lanes]; exact taken
    · exact taken

/-- A copy of the Screen Unit's inbox taken by operations that keep the bounds. -/
theorem State.LanesBounded.takeScreen {f : Copy → Option (State → State)} (h : s.LanesBounded)
    (hf : ∀ c g s, f c = some g → State.LanesBounded s → (g s).LanesBounded) : (s.takeScreen f).LanesBounded := by
  unfold State.takeScreen
  split
  · exact h
  · split
    · next hg => exact hf _ _ _ hg (h.congr rfl rfl)
    · exact h

/-- The steps that take a Tile control copy. -/
theorem tileControlCopies_lanes (h : s.LanesBounded) :
    KeepsLanes (execTileInvalidate s) ∧ KeepsLanes (execTileRequestCopy s) ∧ KeepsLanes (execTouchCopy s) ∧
      KeepsLanes (execViewRequest s) ∧ KeepsLanes (execViewStop s) ∧ KeepsLanes (execViewRefusal s) := by
  refine ⟨?_, ?_, ?_, ?_, ?_, ?_⟩
  all_goals
    refine (keepsLanes_next _).mpr (h.takeScreen fun c g s hg h => ?_)
    split at hg
    · cases hg
      simp [h]
    · cases hg

/-- The steps that take a copy of pixels. -/
theorem pixelCopies_lanes (h : s.LanesBounded) : KeepsLanes (execTileDataFragment s) ∧ KeepsLanes (execViewLine s) := by
  constructor
  all_goals
    refine (keepsLanes_next _).mpr (h.takeScreen fun c g s hg h => ?_)
    dsimp only at hg
    split at hg
    · cases hg
      dsimp only
      split <;> simp [h]
    · cases hg

/-! ## Cameras -/

theorem execCameraLine_lanes (h : s.LanesBounded) (t : Nat) (i : Fin 4) (n : Nat) (p : List Byte) :
    KeepsLanes (execCameraLine t i n p s) := by
  have entry (u : State) (hu : u.LanesBounded) : (u.takeEntry i n).LanesBounded := by simp [State.takeEntry, hu]
  have line (u : State) (hu : u.LanesBounded) (c : CamCfg) (g : LineTag) (q : List Byte) :
      (u.goodLine i c g q).LanesBounded := by simp [State.goodLine, hu]
  simp only [execCameraLine, keepsLanes_next]
  split
  · exact line _ (entry _ (by simpa using h)) _ _ _
  · simpa using h

@[simp] theorem State.LanesBounded.missLine (h : s.LanesBounded) (i : Fin 4) : (s.missLine i).LanesBounded := by
  unfold State.missLine
  dsimp only
  split <;> simp [h]

/-! ## Membership -/

@[simp] theorem State.takeBlock_lanes (b : List Byte) (f : Bool) (s : State) :
    (s.takeBlock b f).LanesBounded ↔ s.LanesBounded := lanesBounded_congr rfl rfl

theorem execRosterBeatStart_lanes (h : s.LanesBounded) : KeepsLanes (execRosterBeatStart s) := by
  simp only [execRosterBeatStart, keepsLanes_next]
  split
  · have rolled : ((s.onSu fun u => { u with rosterDue := false }).stepSilences).rollErrorWindow.LanesBounded := by
      simp [h]
    have counted := State.LanesBounded.stepQuiet ((State.stepDuplicate_lanes _).mpr rolled)
    exact counted.stepListen.offerRefreshes.repeatViews
  · exact h

theorem execEnterMember_lanes (h : s.LanesBounded) : KeepsLanes (execEnterMember s) := by
  simp only [execEnterMember, keepsLanes_next]
  split
  · exact ((h.changeLink .member .none 0 0).foldl (fun s n h => h.reportTrue 8 n) _).offerHello
  · exact h

@[simp] theorem State.LanesBounded.beginJoin (h : s.LanesBounded) : s.beginJoin.LanesBounded := by
  simp [State.beginJoin, h]

@[simp] theorem State.LanesBounded.beginLeave (h : s.LanesBounded) : s.beginLeave.LanesBounded := by
  simp [State.beginLeave, h]

/-! ## Commands of the axes and of the register loops -/

theorem State.LanesBounded.axisCommand {f : Fin 4 → AxisCfg → State → State} (h : s.LanesBounded)
    (hf : ∀ i c, (f i c s).LanesBounded) (a : Nat) : (s.axisCommand a f).LanesBounded := by
  unfold State.axisCommand
  split
  · simpa using h
  · split
    · simpa using h
    · split
      · simpa using h
      · exact hf _ _

theorem State.LanesBounded.cameraCommand {f : Fin 4 → State → State} (h : s.LanesBounded)
    (hf : ∀ i, (f i s).LanesBounded) (a : Nat) : (s.cameraCommand a f).LanesBounded := by
  unfold State.cameraCommand
  split
  · simpa using h
  · exact hf _

@[simp] theorem State.LanesBounded.enableAxis (h : s.LanesBounded) (i : Fin 4) : (s.enableAxis i).LanesBounded := by
  have changed : (s.changeAxis i Axis.enable .command).LanesBounded := by simpa using h
  exact ((changed.reportFalse 13 i.val).reportFalse 14 i.val).reportFalse 15 i.val

/-- The axis commands of the urgent queue. -/
theorem axisCommands_lanes (h : s.LanesBounded) :
    KeepsLanes (execEnableAxis s) ∧ KeepsLanes (execDisableAxis s) ∧ KeepsLanes (execCoupleAxis s) ∧
      KeepsLanes (execDecoupleAxis s) ∧ KeepsLanes (execJogAxis s) ∧ KeepsLanes (execTrimAxis s) := by
  refine ⟨?_, ?_, ?_, ?_, ?_, ?_⟩
  case refine_4 =>
    rw [execDecoupleAxis, keepsLanes_next]
    split
    · split
      · simpa using h
      · refine h.axisCommand (fun i c => ?_) _
        repeat' split
        all_goals simp [h]
    · exact h
  all_goals
    refine (keepsLanes_next _).mpr ?_
    split
    · refine h.axisCommand (fun i c => ?_) _
      repeat' split
      all_goals simp [h]
    · exact h

@[simp] theorem State.takeMarkTable_lanes (i : Fin 4) (b : List Byte) (s : State) :
    (s.takeMarkTable i b).LanesBounded ↔ s.LanesBounded := by
  unfold State.takeMarkTable; split <;> simp

@[simp] theorem State.rearmEntries_lanes (i : Fin 4) (s : State) : (s.rearmEntries i).LanesBounded ↔ s.LanesBounded := by
  unfold State.rearmEntries
  dsimp only
  split <;> simp

/-- The register commands of the normal queue. -/
theorem registerCommands_lanes (h : s.LanesBounded) :
    KeepsLanes (execLoadMarkTable s) ∧ KeepsLanes (execStartRegister s) ∧ KeepsLanes (execStopRegister s) ∧
      KeepsLanes (execRearmRegister s) := by
  refine ⟨?_, ?_, ?_, ?_⟩
  all_goals
    refine (keepsLanes_next _).mpr ?_
    split
    · refine h.cameraCommand (fun i => ?_) _
      repeat' split
      all_goals simp [h]
    · exact h

/-! ## Transfers that come back -/

theorem execMarkTableReadComplete_lanes (h : s.LanesBounded) (t : Nat) (r : DmaReply) :
    KeepsLanes (execMarkTableReadComplete t r s) := by
  refine (keepsLanes_next _).mpr (State.LanesBounded.withReply (by simpa using h) (fun _ b s h => ?_) _ _ r)
  split
  · exact h.cameraCommand (fun i => by simpa using h) _
  · exact h

@[simp] theorem State.LanesBounded.takeConfig (h : s.LanesBounded) (b : List Byte) : (s.takeConfig b).LanesBounded := by
  unfold State.takeConfig; split <;> simp [h]

@[simp] theorem State.LanesBounded.takePageMap (h : s.LanesBounded) (n : Nat) (b : List Byte) :
    (s.takePageMap n b).LanesBounded := by
  unfold State.takePageMap
  split
  · simpa using h
  · rw [State.result_lanes]; exact h.foldl (fun s a h => h.assign a) _

@[simp] theorem State.LanesBounded.takePublish (h : s.LanesBounded) (n : Nat) (b : List Byte) :
    (s.takePublish n b).LanesBounded := by
  unfold State.takePublish; split <;> simp [h]

theorem execPageMapReadComplete_lanes (h : s.LanesBounded) (t : Nat) (r : DmaReply) :
    KeepsLanes (execPageMapReadComplete t r s) := by
  refine (keepsLanes_next _).mpr (State.LanesBounded.withReply (by simpa using h) (fun _ b s h => ?_) _ _ r)
  split <;> simp [h]

theorem execPublishListReadComplete_lanes (h : s.LanesBounded) (t : Nat) (r : DmaReply) :
    KeepsLanes (execPublishListReadComplete t r s) := by
  refine (keepsLanes_next _).mpr (State.LanesBounded.withReply (by simpa using h) (fun _ b s h => ?_) _ _ r)
  split <;> simp [h]

/-! ## Screens -/

@[simp] theorem State.LanesBounded.noProgress (h : s.LanesBounded) (x : Tile) : (s.noProgress x).LanesBounded := by
  unfold State.noProgress; split <;> simp [h]

@[simp] theorem State.LanesBounded.openView (h : s.LanesBounded) (i : Fin 2) (v : ViewSlot) :
    (s.openView i v).LanesBounded := by simp [State.openView, h]

@[simp] theorem State.LanesBounded.closeView (h : s.LanesBounded) (i : Fin 2) : (s.closeView i).LanesBounded := by
  unfold State.closeView State.stopView
  dsimp only
  rw [State.onScu_lanes]
  split
  · exact h
  · split <;> simp [h]

/-! ## Every step -/

/-- Every step keeps the bounds. -/
theorem exec_lanes (h : s.LanesBounded) (i : Instr) : KeepsLanes (exec i s) := by
  have at_ (t : Nat) : (s.atTime t).LanesBounded := (s.atTime_lanes t).mpr h
  obtain ⟨invalidate, request, touch, viewReq, viewStop, refusal⟩ := tileControlCopies_lanes h
  obtain ⟨fragment, line⟩ := pixelCopies_lanes h
  obtain ⟨enable, disable, couple, decouple, jog, trim⟩ := axisCommands_lanes h
  obtain ⟨load, start, stop, rearm⟩ := registerCommands_lanes h
  cases i
  case frameEndArrival t b e => exact execFrameEndArrival_lanes h t b e
  case bulkWaitAdmit => exact execBulkWaitAdmit_lanes h
  case helloCopy => exact execHelloCopy_lanes h
  case shaftCopy => exact execShaftCopy_lanes h
  case speedCopy => exact execSpeedCopy_lanes h
  case tripCopy => exact execTripCopy_lanes h
  case correctionCopy => exact execCorrectionCopy_lanes h
  case cameraLine t i n p => exact execCameraLine_lanes h t i n p
  case rosterBeatStart => exact execRosterBeatStart_lanes h
  case enterMember => exact execEnterMember_lanes h
  case markTableReadComplete t r => exact execMarkTableReadComplete_lanes h t r
  case pageMapReadComplete t r => exact execPageMapReadComplete_lanes h t r
  case publishListReadComplete t r => exact execPublishListReadComplete_lanes h t r
  case tileInvalidate => exact invalidate
  case tileRequestCopy => exact request
  case touchCopy => exact touch
  case viewRequest => exact viewReq
  case viewStop => exact viewStop
  case viewRefusal => exact refusal
  case tileDataFragment => exact fragment
  case viewLine => exact line
  case enableAxis => exact enable
  case disableAxis => exact disable
  case coupleAxis => exact couple
  case decoupleAxis => exact decouple
  case jogAxis => exact jog
  case trimAxis => exact trim
  case loadMarkTable => exact load
  case startRegister => exact start
  case stopRegister => exact stop
  case rearmRegister => exact rearm
  case mapEntryReadComplete t i r =>
    exact (keepsLanes_next _).mpr ((at_ t).withReply (fun x b s h => by simpa using h) _ _ r)
  case descriptorReadComplete t q r =>
    exact (keepsLanes_next _).mpr ((at_ t).withReply (fun x b s h => by simpa using h) _ _ r)
  case configReadComplete t r =>
    exact (keepsLanes_next _).mpr ((at_ t).withReply (fun x b s h => h.takeConfig b) _ _ r)
  case tileReadComplete t r => exact (keepsLanes_next _).mpr ((at_ t).withReply (fun x b s h => h.takeTile b) _ _ r)
  case stripWriteComplete t i ok =>
    refine (keepsLanes_next _).mpr ((at_ t).withWrite (fun x s h => ?_) _ _ ok)
    exact State.LanesBounded.finishConfigure ((s.stripWritten_lanes i x).mpr h)
  case writebackComplete t q ok =>
    exact (keepsLanes_next _).mpr ((at_ t).withWrite (fun x s h => h.endCommand q) _ _ ok)
  case imageWriteComplete t ok =>
    exact (keepsLanes_next _).mpr ((at_ t).withWrite (fun x s h => by simpa using h) _ _ ok)
  case eventWriteComplete t ok =>
    exact (keepsLanes_next _).mpr ((at_ t).withWrite (fun x s h => by simpa using h) _ _ ok)
  case coldReset | warmInput | hostLinkLoss | eStopAsserted | eStopReleased | tripInputChange | panelStopKey =>
    simp only [exec, execColdReset, execWarmInput, execHostLinkLoss, execEStopAsserted, execEStopReleased,
      execTripInputChange, execPanelStopKey, keepsLanes_next]
    repeat' split
    all_goals simp [h]
  case lightLost | symbolLockLost | symbolLockGained | frameHeaderArrival | transmitBoundary | returnWatchExpiry =>
    simp only [exec, execLightLost, execSymbolLockLost, execSymbolLockGained, execFrameHeaderArrival,
      execTransmitBoundary, execReturnWatchExpiry, keepsLanes_next]
    repeat' split
    all_goals simp [h]
  case testBlockReturn | lightCheckLockTimeout | lightCheckAttemptEnd | insertionTimeout | leaveTimeout |
      drainComplete | silenceRemoval | duplicateQuiet | join | leave =>
    simp only [exec, execTestBlockReturn, execLightCheckLockTimeout, execLightCheckAttemptEnd, execInsertionTimeout,
      execLeaveTimeout, execDrainComplete, execSilenceRemoval, execDuplicateQuiet, execJoin, execLeave,
      keepsLanes_next]
    repeat' split
    all_goals simp [h]
  case tickStart | beatStart | enterInStep | shaftLostStep | enterAlone | latenessClear | foundHistory | setSpeed |
      releaseStop =>
    simp only [exec, execTickStart, execBeatStart, execEnterInStep, execShaftLostStep, execEnterAlone,
      execLatenessClear, execFoundHistory, execSetSpeed, execReleaseStop, keepsLanes_next]
    repeat' split
    all_goals simp [h]
  case driveAnswer | answerWindowClose | triggerDue | triggerTimeout | giveStripBuffer | invalidateMapCache =>
    simp only [exec, execDriveAnswer, execAnswerWindowClose, execTriggerDue, execTriggerTimeout, execGiveStripBuffer,
      execInvalidateMapCache, keepsLanes_next]
    repeat' split
    all_goals simp [h]
  case tripLapse | raiseHostTrip | clearHostTrip | acknowledgeTrips =>
    simp only [exec, execTripLapse, execRaiseHostTrip, execClearHostTrip, execAcknowledgeTrips, keepsLanes_next]
    repeat' split
    all_goals simp [h]
  case touch | groupDeadline | tileProgressTimeout | displayFrameStart | setPageMap | publishTiles | openView |
      closeView =>
    simp only [exec, execTouch, execGroupDeadline, execTileProgressTimeout, execDisplayFrameStart, execSetPageMap,
      execPublishTiles, execOpenView, execCloseView, keepsLanes_next]
    repeat' split
    all_goals simp [h]
  case queueBaseWrite | queueSizeWrite | queueRunSet | queueRunClear | commandTailWrite | eventHeadWrite |
      windowWriteIgnored | descriptorFetch | configure | warmReset | readRoster | readTripTable | readLineState |
      readCounters | dmaTimeout =>
    simp only [exec, execQueueBaseWrite, execQueueSizeWrite, execQueueRunSet, execQueueRunClear, execCommandTailWrite,
      execEventHeadWrite, execWindowWriteIgnored, execDescriptorFetch, execConfigure, execWarmReset, execReadRoster,
      execReadTripTable, execReadLineState, execReadCounters, execDmaTimeout, keepsLanes_next]
    repeat' split
    all_goals simp [h]

/-- Settles O53: the step at the front of the queue is executed on the state with the queue's rest, whose lanes are the same. -/
theorem lanesStayBounded : Obligations.LanesStayBounded := by
  intro s u h e
  unfold step at e
  split at e
  · cases e
    exact h
  · next i rest _ =>
    have rested : State.LanesBounded { s with pending := rest } := h.congr rfl rfl
    exact exec_lanes rested i u e

end Sys2Proof.Machine
end

/-! The state right after power-on (R25, R43, R71, R96, R113, R116, R133, R160, R185, R201). -/

section
namespace Sys2Proof.Machine

/-- Every slot of the empty roster is absent (R43). -/
theorem emptyRoster_absent (required : BitVec 32) {r : RosterSlot} (h : r ∈ emptyRoster required) : r.present = false := by
  obtain ⟨i, -, rfl⟩ := List.mem_map.mp h
  rfl

theorem State.reset_isPresent (n : Nat) : State.reset.isPresent n = false := by
  unfold State.isPresent State.slot
  split
  · rfl
  · cases h : State.reset.mc.roster[n - 1]? with
    | none => rfl
    | some r => exact emptyRoster_absent 0 (List.mem_of_getElem? h)

@[simp] theorem Quad.get_rep {α : Type} (x : α) (i : Fin 4) : (Quad.rep x).get i = x := by
  match i with | 0 | 1 | 2 | 3 => rfl

@[simp] theorem State.reset_axis (i : Fin 4) : State.reset.axis i = Axis.reset .disabled := by
  simp [State.axis, State.reset, State.cold, Au.reset, axisResetState]

@[simp] theorem State.reset_cam (i : Fin 4) : State.reset.cam i = Cam.reset := by
  simp [State.cam, State.reset, State.cold, Cu.reset]

@[simp] theorem State.reset_loop (i : Fin 4) : State.reset.loop i = Loop.reset := by
  simp [State.loop, State.reset, State.cold, Mu.reset]

/-- The empty map cache holds no translation (R113). -/
theorem Cu.reset_lookup (i : Fin 4) (page : Nat) : Cu.reset.lookup i page = none := by
  simp +contextual [Cu.lookup, Cu.reset, Machine.emptyCache]

theorem Loop.reset_entry (n : Nat) : Loop.reset.entry n = .empty := by
  unfold Loop.entry Loop.reset
  rw [List.getD_eq_getElem?_getD, List.getElem?_replicate]
  split <;> rfl

theorem Scu.reset_blank (pos : Nat) : Scu.reset.pageMap.getD pos .blank = .blank := by
  unfold Scu.reset
  rw [List.getD_eq_getElem?_getD, List.getElem?_replicate]
  split <;> rfl

/-- Settles O2, block by block. -/
theorem resetValues : Obligations.ResetValues := by
  have axes (i : Fin 4) : (State.reset.axis i).state = .disabled ∧ State.reset.torqueOffOut i = true := by
    have off : (State.reset.au.axes.get i).state = .disabled := by
      rw [show State.reset.au.axes.get i = State.reset.axis i from rfl, State.reset_axis]; rfl
    exact ⟨off, by simp [State.torqueOffOut, off, AxisState.energised]⟩
  have buffers (i : Fin 4) (h : Half) :
      ((State.reset.cam i).buf h).partOwned = false ∧ (State.reset.cam i).trigs = [] := by
    rw [State.reset_cam]; cases h <;> exact ⟨rfl, rfl⟩
  have loops (i : Fin 4) (n : Nat) :
      (State.reset.loop i).state = .off ∧ ((State.reset.loop i).entry n).enabled = false := by
    rw [State.reset_loop, Loop.reset_entry]; exact ⟨rfl, rfl⟩
  have views (i : Fin 2) : (State.reset.scu.view i).state = .closed := by
    match i with | 0 | 1 => rfl
  have queues (q : QueueId) : State.reset.running q = false := by
    match q with | .cmd .urgent | .cmd .normal | .event => rfl
  exact ⟨rfl, rfl, rfl, rfl, State.reset_isPresent, rfl, rfl, rfl, rfl, rfl, rfl, rfl, rfl, rfl, rfl, rfl, rfl, rfl,
    axes, buffers, Cu.reset_lookup, loops, rfl, rfl, rfl, rfl, rfl, Scu.reset_blank, rfl, views, queues, rfl, rfl, rfl,
    rfl⟩

/-- No axis is energised after power-on, and every list that an invariant bounds is empty. -/
theorem State.reset_torqueSafe : State.reset.torqueSafe := by
  intro i h
  rw [show State.reset.au.axes.get i = State.reset.axis i from rfl, State.reset_axis] at h
  cases h

/-- Settles O3, invariant by invariant. -/
theorem resetMeetsInvariants : Obligations.ResetMeetsInvariants := by
  have stores : State.reset.StoresBounded :=
    { queues := fun i => by rw [State.reset_cam]; decide
      cache := by decide
      tiles := by decide
      fills := by decide
      viewers := fun i => by
        rw [show State.reset.scu.viewers.get i = [] from Quad.get_rep [] i]; decide
      positions := List.length_replicate }
  exact ⟨.of_empty rfl rfl, by decide, ⟨by decide, by decide, by decide, fun _ _ _ _ _ _ h => by cases h⟩,
    State.reset_torqueSafe, by decide, fun i c h => (nomatch h), stores⟩

end Sys2Proof.Machine
end

/-! Numbers in bytes, the header bytes of a frame, and its two checks (R6, R13, R202). -/

section
namespace Sys2Proof.Machine

/-! ## Numbers in bytes -/

@[simp] theorem byte_toNat (n : Nat) : (byte n).toNat = n % 256 := BitVec.toNat_ofNat n 8

@[simp] theorem length_le (k n : Nat) : (le k n).length = k := by simp [le]

/-- The digits of a number to base 256, put together again. -/
theorem foldr_digits (k n : Nat) :
    (List.range k).foldr (fun i acc => n / 256 ^ i % 256 + 256 * acc) 0 = n % 256 ^ k := by
  induction k generalizing n with
  | zero => simp [Nat.mod_one]
  | succ k ih =>
    rw [List.range_succ_eq_map, List.foldr_cons, List.foldr_map]
    have shift (i : Nat) : n / 256 ^ (i + 1) = n / 256 / 256 ^ i := by rw [Nat.pow_succ', Nat.div_div_eq_div_mul]
    simp only [Nat.succ_eq_add_one, shift, ih, Nat.pow_zero, Nat.div_one]
    rw [Nat.pow_succ', Nat.mod_mul]

theorem getD_le (k n i : Nat) (h : i < k) : ((le k n).getD i 0).toNat = n / 256 ^ i % 256 := by
  rw [List.getD_eq_getElem _ _ (by simpa using h)]
  simp [le]

/-- A number is read from where it was written, modulo the range of its bytes. -/
theorem rd_le (p q : List Byte) (k n : Nat) : rd (p ++ le k n ++ q) p.length k = n % 256 ^ k := by
  rw [← foldr_digits k n]
  unfold rd
  refine List.foldr_ext _ _ _ fun i hi acc => ?_
  have hik : i < k := List.mem_range.mp hi
  rw [List.append_assoc, List.getD_append_right _ _ _ _ (by omega), Nat.add_sub_cancel_left,
    List.getD_append _ _ _ _ (by simpa using hik), getD_le k n i hik]

theorem rd_one (bs : List Byte) (i : Nat) : rd bs i 1 = (bs.getD i 0).toNat := by simp [rd]

theorem rd_two (bs : List Byte) (i : Nat) : rd bs i 2 = (bs.getD i 0).toNat + 256 * (bs.getD (i + 1) 0).toNat := by
  simp [rd, List.range_succ_eq_map]

/-- Two bytes, low one first. -/
theorem le_two (n : Nat) : le 2 n = [byte n, byte (n / 256)] := by simp [le, List.range_succ_eq_map]

/-! ## The two checks (R202) -/

theorem crc8Bit_lt {c : Nat} (h : c < 256) : crc8Bit c < 256 := by
  unfold crc8Bit
  split
  · exact Nat.xor_lt_two_pow (n := 8) (by omega) (by omega)
  · omega

theorem crc32Bit_lt {c : Nat} (h : c < two32) : crc32Bit c < two32 := by
  unfold crc32Bit
  split
  · exact Nat.xor_lt_two_pow (n := 32) (by simp only [two32] at h; omega) (by omega)
  · simp only [two32] at h ⊢; omega

/-- A fold of steps that keep a bound keeps it. -/
theorem foldl_lt {α : Type} {f : Nat → α → Nat} {b : Nat} (h : ∀ x a, x < b → f x a < b) (l : List α) {x : Nat}
    (hx : x < b) : l.foldl f x < b := by
  induction l generalizing x with
  | nil => exact hx
  | cons a l ih => exact ih (h x a hx)

theorem crc8_lt (bs : List Byte) : crc8 bs < 256 :=
  foldl_lt (fun x a hx => foldl_lt (fun _ _ h => crc8Bit_lt h) _ (Nat.xor_lt_two_pow (n := 8) hx a.isLt)) bs (by decide)

theorem crc32_lt (bs : List Byte) : crc32 bs < two32 := by
  have folded : bs.foldl crc32Byte 0xFFFFFFFF < two32 :=
    foldl_lt (fun x a hx => foldl_lt (fun _ _ h => crc32Bit_lt h) _
      (Nat.xor_lt_two_pow (n := 32) hx (a.isLt.trans (by decide)))) bs (by decide)
  exact Nat.xor_lt_two_pow (n := 32) folded (by decide)

/-- A header whose check byte was computed over its other bytes passes its check. -/
theorem headerCheckOk_set (bs : List Byte) (h : 5 < bs.length) :
    headerCheckOk (bs.set 5 (byte (headerCheckOf bs))) = true := by
  have other (i : Nat) (hi : i ≠ 5) (x : Byte) : (bs.set 5 x).getD i 0 = bs.getD i 0 := by
    simp [List.getD_eq_getElem?_getD, hi.symm]
  have check (x : Byte) : (bs.set 5 x).getD 5 0 = x := by
    simp [List.getD_eq_getElem?_getD, h]
  have small : headerCheckOf bs < 256 := crc8_lt _
  unfold headerCheckOk
  rw [rd_one, check, byte_toNat, beq_iff_eq, Nat.mod_eq_of_lt small]
  simp only [headerCheckOf, other 4 (by decide), other 6 (by decide), other 7 (by decide)]

/-- The tail check of a frame whose header check matches (R6). -/
theorem tailGood_iff (header body : List Byte) :
    tailGood header body .endDelim = true ↔
      (headerCheckOk header = true ∧ rd header 12 2 ≤ 256 ∧ malformed (parseHeader header) = false) ∧
        body.length = rd header 12 2 + 4 ∧
        frameCrc header (body.take (rd header 12 2)) = rd body (rd header 12 2) 4 := by
  simp [tailGood, headerFailure, parseHeader, and_assoc]

/-! ## The header at launch (R4, R19) -/

theorem headerBytes_eq (h : Header) : headerBytes h =
    [byte (h.kindCode % 16 + h.cls % 8 * 16), byte h.origin, byte h.dest, byte h.sequence, byte h.hop, byte h.check,
     byte h.transit, byte (h.transit / 256), byte h.launchDelay, byte (h.launchDelay / 256), byte h.fragIndex,
     byte h.fragCount, byte h.length, byte (h.length / 256), 0, 0, 0, 0, 0, 0] := by
  simp [headerBytes, le_two, fill, List.replicate_succ]

/-- The header fields of a frame before its check byte is computed. -/
def LaneFrame.fields (f : LaneFrame) (origin sequence transit launchDelay : Nat) : Header :=
  { kindCode := f.kind.code, cls := f.kind.cls, origin := origin, dest := f.dest, sequence := sequence, hop := 0
    check := 0, transit := transit, launchDelay := launchDelay, fragIndex := f.fragIndex, fragCount := f.fragCount
    length := f.payload.length }

theorem launchHeader_eq (f : LaneFrame) (origin sequence transit launchDelay : Nat) :
    launchHeader f origin sequence transit launchDelay =
      (headerBytes (f.fields origin sequence transit launchDelay)).set 5
        (byte (headerCheckOf (headerBytes (f.fields origin sequence transit launchDelay)))) := rfl

/-- A kind is read from its code. -/
theorem kindOfCode_code (k : Kind) : kindOfCode k.code = some k := by cases k <;> rfl

/-- What a station reads in a header as launched: the kind with its class, the fragment numbers and the length. -/
theorem parseHeader_launch (f : LaneFrame) (origin sequence transit delay : Nat) (header : List Byte)
    (h : header = launchHeader f origin sequence transit delay) :
    (parseHeader header).kindCode = f.kind.code ∧ (parseHeader header).cls = f.kind.cls ∧
      (parseHeader header).fragIndex = f.fragIndex % 256 ∧ (parseHeader header).fragCount = f.fragCount % 256 ∧
      rd header 12 2 = f.payload.length % 65536 := by
  have code : (f.kind.code % 16 + f.kind.cls % 8 * 16) % 256 % 16 = f.kind.code ∧
      (f.kind.code % 16 + f.kind.cls % 8 * 16) % 256 / 16 % 8 = f.kind.cls := by
    cases f.kind <;> decide
  subst h
  rw [launchHeader_eq, headerBytes_eq]
  generalize headerCheckOf _ = c
  refine ⟨?_, ?_, ?_, ?_, ?_⟩
  · simpa [parseHeader, rd_one, LaneFrame.fields] using code.1
  · simpa [parseHeader, rd_one, LaneFrame.fields] using code.2
  · simp [parseHeader, rd_one, LaneFrame.fields]
  · simp [parseHeader, rd_one, LaneFrame.fields]
  · simp only [rd_two, LaneFrame.fields, List.set_cons_succ, List.set_cons_zero, List.getD_cons_succ,
      List.getD_cons_zero, byte_toNat]
    omega

/-- A frame as launched passes the tail check. -/
theorem launch_tailGood (f : LaneFrame) (origin sequence transit delay : Nat) (header : List Byte)
    (hlen : f.payload.length ≤ 256) (hfrag : f.fragIndex < f.fragCount) (hcount : f.fragCount < 256)
    (h : header = launchHeader f origin sequence transit delay) :
    header.length = 20 ∧ tailGood header (f.payload ++ le 4 (frameCrc header f.payload)) .endDelim = true := by
  obtain ⟨kind, cls, index, count, length⟩ := parseHeader_launch f origin sequence transit delay header h
  rw [Nat.mod_eq_of_lt (by omega)] at index count length
  have bytes : header.length = 20 := by rw [h, launchHeader_eq, headerBytes_eq]; rfl
  have check : headerCheckOk header = true := by
    rw [h, launchHeader_eq]
    exact headerCheckOk_set _ (by rw [headerBytes_eq]; simp)
  have formed : malformed (parseHeader header) = false := by
    unfold malformed
    rw [kind, kindOfCode_code, cls, index, count]
    simp
    omega
  refine ⟨bytes, (tailGood_iff _ _).mpr ⟨⟨check, by omega, formed⟩, by simp [length], ?_⟩⟩
  have small : frameCrc header f.payload < 256 ^ 4 := crc32_lt _
  have written := rd_le f.payload [] 4 (frameCrc header f.payload)
  rw [List.append_nil, Nat.mod_eq_of_lt small] at written
  rw [length, List.take_left, written]

/-! ## The header as a station rewrites it (R13) -/

/-- A header up to the last byte a station rewrites. -/
theorem exists_eight_of_length {bs : List Byte} (h : bs.length = 20) :
    ∃ b0 b1 b2 b3 b4 b5 b6 b7 rest, bs = b0 :: b1 :: b2 :: b3 :: b4 :: b5 :: b6 :: b7 :: rest ∧ rest.length = 12 := by
  have cons {l : List Byte} {n : Nat} (h : l.length = n + 1) : ∃ b m, l = b :: m ∧ m.length = n := by
    cases l with
    | nil => cases h
    | cons b m => exact ⟨b, m, rfl, by simpa using h⟩
  obtain ⟨b0, l0, rfl, h0⟩ := cons h
  obtain ⟨b1, l1, rfl, h1⟩ := cons h0
  obtain ⟨b2, l2, rfl, h2⟩ := cons h1
  obtain ⟨b3, l3, rfl, h3⟩ := cons h2
  obtain ⟨b4, l4, rfl, h4⟩ := cons h3
  obtain ⟨b5, l5, rfl, h5⟩ := cons h4
  obtain ⟨b6, l6, rfl, h6⟩ := cons h5
  obtain ⟨b7, l7, rfl, h7⟩ := cons h6
  exact ⟨b0, b1, b2, b3, b4, b5, b6, b7, l7, rfl, h7⟩

/-- The bytes of a rewritten header: hop count, check and transit are new. -/
theorem rewriteHeader_cons (b0 b1 b2 b3 b4 b5 b6 b7 : Byte) (rest : List Byte) (hop transit : Nat) :
    ∃ check, rewriteHeader (b0 :: b1 :: b2 :: b3 :: b4 :: b5 :: b6 :: b7 :: rest) hop transit =
      b0 :: b1 :: b2 :: b3 :: byte hop :: check :: byte transit :: byte (transit / 256) :: rest :=
  ⟨_, by unfold rewriteHeader; rw [le_two]; rfl⟩

/-- A frame that passed the tail check passes it with its header rewritten, and the new values are read from it. -/
theorem rewrite_tailGood (header body : List Byte) (hop transit : Nat) (h : header.length = 20)
    (good : tailGood header body .endDelim = true) :
    (rewriteHeader header hop transit).length = 20 ∧ tailGood (rewriteHeader header hop transit) body .endDelim = true ∧
      (parseHeader (rewriteHeader header hop transit)).hop = hop % 256 ∧
      (parseHeader (rewriteHeader header hop transit)).transit = transit % 65536 := by
  have check : headerCheckOk (rewriteHeader header hop transit) = true := headerCheckOk_set _ (by simp [h])
  obtain ⟨b0, b1, b2, b3, b4, b5, b6, b7, rest, rfl, hrest⟩ := exists_eight_of_length h
  obtain ⟨x, e⟩ := rewriteHeader_cons b0 b1 b2 b3 b4 b5 b6 b7 rest hop transit
  obtain ⟨⟨-, short, formed⟩, long, sum⟩ := (tailGood_iff _ _).mp good
  rw [e] at check ⊢
  refine ⟨by simp [hrest], (tailGood_iff _ _).mpr ⟨⟨check, short, formed⟩, long, sum⟩, ?_, ?_⟩
  · simp [parseHeader, rd_one]
  · simp [parseHeader, rd_two]
    omega

/-- Settles O59. -/
theorem frameChecks : Obligations.FrameChecks :=
  ⟨fun f origin sequence transit delay header hlen hfrag hcount h =>
    launch_tailGood f origin sequence transit delay header hlen hfrag hcount h, rewrite_tailGood⟩

end Sys2Proof.Machine
end

/-! What reports of causes leave as it is, and the frames they offer (R134, R148, R150). -/

section
namespace Sys2Proof.Machine

variable {s t : State}

/-! ## What a report leaves as it is -/

theorem State.Reported.cfg_eq (h : s.Reported t) : t.cfg = s.cfg := by rw [h.fields]
theorem State.Reported.mc_eq (h : s.Reported t) : t.mc = s.mc := by rw [h.fields]
theorem State.Reported.pins_eq (h : s.Reported t) : t.pins = s.pins := by rw [h.fields]
theorem State.Reported.now_eq (h : s.Reported t) : t.now = s.now := by rw [h.fields]
theorem State.Reported.pending_eq (h : s.Reported t) : t.pending = s.pending := by rw [h.fields]
theorem State.Reported.cu_eq (h : s.Reported t) : t.cu = s.cu := by rw [h.fields]
theorem State.Reported.mu_eq (h : s.Reported t) : t.mu = s.mu := by rw [h.fields]
theorem State.Reported.scu_eq (h : s.Reported t) : t.scu = s.scu := by rw [h.fields]
theorem State.Reported.inMc_eq (h : s.Reported t) : t.inMc = s.inMc := by rw [h.fields]
theorem State.Reported.inSu_eq (h : s.Reported t) : t.inSu = s.inSu := by rw [h.fields]
theorem State.Reported.inTu_eq (h : s.Reported t) : t.inTu = s.inTu := by rw [h.fields]
theorem State.Reported.inAu_eq (h : s.Reported t) : t.inAu = s.inAu := by rw [h.fields]
theorem State.Reported.inScu_eq (h : s.Reported t) : t.inScu = s.inScu := by rw [h.fields]

/-- An axis that is not energised is as it was after a report (R78). -/
theorem State.Reported.axis_eq (h : s.Reported t) {i : Fin 4} (off : (s.axis i).state.energised = false) :
    t.axis i = s.axis i := by
  rcases h.axis i with e | ⟨e, -⟩
  · exact e
  · rw [off] at e; cases e

/-! ## The Ring Port under a report -/

@[simp] theorem State.torqueOffAll_rp (r : AxisReason) (s : State) : (s.torqueOffAll r).rp = s.rp := by
  have one (i : Fin 4) (s : State) : (s.enterTorqueOff r i).rp = s.rp := by
    unfold State.enterTorqueOff
    split
    · simp [State.changeAxis, State.axisEvent, State.onAxis]
    · rfl
  simp [State.torqueOffAll, State.eachAxis, one]

@[simp] theorem State.markChange_rp (s : State) : s.markChange.rp = s.rp := by
  unfold State.markChange
  split <;> simp [State.postNotice]

@[simp] theorem State.raiseEffects_rp (r : Raise) (s : State) : (s.raiseEffects r).1.rp = s.rp := by
  unfold State.raiseEffects State.updateLocalStop
  split <;> split <;> simp [State.submitStop]

/-- A raise leaves the Ring Port alone: its frame is offered by the report that raises (R140, R148). -/
@[simp] theorem State.raise_rp (r : Raise) (s : State) : (s.raise r).1.rp = s.rp := by
  unfold State.raise
  split
  · simp [State.offerFirstTrip]
  · dsimp only; split <;> simp

@[simp] theorem State.clearTrip_rp (k : TripKey) (s : State) : (s.clearTrip k).rp = s.rp := by
  unfold State.clearTrip State.updateLocalStop
  split
  · rfl
  · split <;> simp

/-- The class of Trip frames is of the urgent lane in every configuration (R7). -/
theorem State.offer_trip_rp (a : TripAction) (c d b f : Nat) (t s : State) :
    (s.offer (t.tripFrame a c d b f)).rp =
      if s.mc.link.inRing then (s.rp.offerUrgent (t.tripFrame a c d b f)).1 else s.rp := by
  have urgent : s.laneOf (t.tripFrame a c d b f).cls = .urgent := rfl
  unfold State.offer State.offerR
  rw [urgent]
  split <;> rfl

/-- Two Ring Ports differ in their urgent lanes and overflow counts alone. -/
def Rp.UrgentOnly (r q : Rp) : Prop := q = { r with urgent := q.urgent, urgentOverflow := q.urgentOverflow }

theorem Rp.UrgentOnly.refl (r : Rp) : r.UrgentOnly r := rfl

theorem Rp.UrgentOnly.trans {r q p : Rp} (h : r.UrgentOnly q) (k : q.UrgentOnly p) : r.UrgentOnly p := by
  unfold Rp.UrgentOnly at *
  rw [k, h]

theorem State.offer_trip_urgentOnly (a : TripAction) (c d b f : Nat) (t s : State) :
    s.rp.UrgentOnly (s.offer (t.tripFrame a c d b f)).rp := by
  rw [State.offer_trip_rp]
  split
  · exact Rp.offerUrgent_eq _ _
  · rfl

/-- A cause that becomes true offers a Trip frame at most. -/
theorem State.causeOn_urgentOnly (c d : Nat) (s : State) : s.rp.UrgentOnly (s.causeOn c d).1.rp := by
  unfold State.causeOn
  dsimp only
  split
  · rfl
  · split
    · exact .trans (by simp [Rp.UrgentOnly]) (State.offer_trip_urgentOnly ..)
    · simp [Rp.UrgentOnly]

theorem State.reportLate_urgentOnly (b : Bool) (s : State) : s.rp.UrgentOnly (s.reportLate b).rp := by
  unfold State.reportLate
  split
  · exact State.causeOn_urgentOnly ..
  · rfl

/-- Of the Ring Port a report of a cause touches the urgent lane and its overflow count (R148). -/
theorem State.reportTrue_urgentOnly (c d : Nat) (s : State) : s.rp.UrgentOnly (s.reportTrue c d).rp := by
  unfold State.reportTrue
  split
  · rfl
  · exact (State.causeOn_urgentOnly c d s).trans (State.reportLate_urgentOnly ..)

/-! ## Reports outside the ring (R10) -/

/-- A state outside MEMBER and LEAVING sends no Trip frame: a cause that becomes true leaves the Ring Port alone. -/
theorem State.causeOn_rp_out (c d : Nat) (h : s.mc.link.isMember = false) : (s.causeOn c d).1.rp = s.rp := by
  unfold State.causeOn
  dsimp only
  split
  · rfl
  · rw [if_neg]
    · simp
    · simp [State.sendsTrips, (State.raise_reported _ _).mc_eq, h]

theorem State.reportTrue_rp_out (c d : Nat) (h : s.mc.link.isMember = false) : (s.reportTrue c d).rp = s.rp := by
  unfold State.reportTrue
  split
  · rfl
  · dsimp only
    have on := State.causeOn_rp_out c d h
    unfold State.reportLate
    split
    · rw [State.causeOn_rp_out _ _ (by rw [(State.causeOn_reported _ _ _).mc_eq]; exact h), on]
    · exact on

/-- What is true stays true under a report that another cause is true. -/
theorem State.reportTrue_keeps (c d c' d' : Nat) (h : s.causeTrue c d = true) :
    (s.reportTrue c' d').causeTrue c d = true := by
  unfold State.reportTrue State.reportLate
  dsimp only
  repeat' split
  all_goals simp [State.causeOn_true, h]

end Sys2Proof.Machine
end

/-! Frames in reception: how one ends, what a cut leaves, and what a header does (R11 to R16, R21, R23). -/

section
namespace Sys2Proof.Machine

variable {s t : State}

/-! ## The Ring Port's fields under a report -/

theorem State.Reported.rx_eq (h : s.Reported t) : t.rp.rx = s.rp.rx := by rw [h.ring]
theorem State.Reported.pass_eq (h : s.Reported t) : t.rp.pass = s.rp.pass := by rw [h.ring]
theorem State.Reported.tx_eq (h : s.Reported t) : t.rp.tx = s.rp.tx := by rw [h.ring]
theorem State.Reported.watch_eq (h : s.Reported t) : t.rp.watch = s.rp.watch := by rw [h.ring]
theorem State.Reported.consecMissing_eq (h : s.Reported t) : t.rp.consecMissing = s.rp.consecMissing := by rw [h.ring]
theorem State.Reported.unmatched_eq (h : s.Reported t) : t.rp.unmatched = s.rp.unmatched := by rw [h.ring]
theorem State.Reported.returnMissing_eq (h : s.Reported t) : t.rp.returnMissing = s.rp.returnMissing := by rw [h.ring]
theorem State.Reported.receiverErrors_eq (h : s.Reported t) : t.rp.receiverErrors = s.rp.receiverErrors := by rw [h.ring]

/-! ## Receiver errors (R23) -/

/-- The counter and the window stepped by a receiver error. -/
def Rp.erred (r : Rp) : Rp := { r with receiverErrors := bump r.receiverErrors, errWindow := r.errWindow + 1 }

theorem State.receiverError_eq (s : State) :
    s.receiverError = if 16 ≤ s.rp.errWindow + 1 then (s.onRp Rp.erred).reportTrue 9 0 else s.onRp Rp.erred := rfl

theorem State.receiverError_reported (s : State) : (s.onRp Rp.erred).Reported s.receiverError := by
  rw [State.receiverError_eq]
  exact .ite _ (State.reportTrue_reported ..) (.refl _)

/-- Up to the fifteenth error of a window only the counts step; from the sixteenth on cause 9 is true. -/
theorem State.receiverError_window (s : State) : (s.rp.errWindow < 15 → s.receiverError = s.onRp Rp.erred) ∧
    (15 ≤ s.rp.errWindow → s.receiverError.causeTrue 9 0 = true) := by
  rw [State.receiverError_eq]
  constructor
  · intro h
    rw [if_neg (by omega)]
  · intro h
    rw [if_pos (by omega)]
    exact State.reportTrue_true ..

/-! ## Closing a forwarded frame -/

@[simp] theorem Rp.closeForwarded_rx (b : List Byte) (c : Closing) (r : Rp) : (r.closeForwarded b c).rx = r.rx := by
  rw [Rp.closeForwarded_eq]

@[simp] theorem Rp.closeForwarded_aborted (b : List Byte) (c : Closing) (r : Rp) :
    (r.closeForwarded b c).aborted = r.aborted := by
  rw [Rp.closeForwarded_eq]

@[simp] theorem Rp.closeForwarded_receiverErrors (b : List Byte) (c : Closing) (r : Rp) :
    (r.closeForwarded b c).receiverErrors = r.receiverErrors := by
  rw [Rp.closeForwarded_eq]

@[simp] theorem Rp.closeForwarded_errWindow (b : List Byte) (c : Closing) (r : Rp) :
    (r.closeForwarded b c).errWindow = r.errWindow := by
  rw [Rp.closeForwarded_eq]

/-- A closing depends neither on what is in reception nor changes it. -/
theorem Rp.closeForwarded_noRx (b : List Byte) (c : Closing) (r : Rp) :
    { r with rx := none }.closeForwarded b c = { r.closeForwarded b c with rx := none } := by
  unfold Rp.closeForwarded
  dsimp only
  split
  · split <;> rfl
  all_goals rfl

/-! ## The tail check (R6) -/

/-- A frame whose tail check is good has a good header and ends with the end delimiter. -/
theorem tailGood_ending {header body : List Byte} {e : FrameEnding} (h : tailGood header body e = true) :
    headerFailure header = false ∧ e = .endDelim := by
  simp only [tailGood, Bool.and_eq_true, Bool.not_eq_true', beq_iff_eq] at h
  obtain ⟨⟨⟨⟨head, -⟩, ending⟩, -⟩, -⟩ := h
  exact ⟨head, ending⟩

theorem tailGood_broken (header body : List Byte) : tailGood header body .broken = false := by
  simp [tailGood]

/-! ## The end of a frame in reception, by what was decided of it (R11, R12, R14 to R16) -/

section
variable {rx : Reception} {body : List Byte} {e : FrameEnding}

theorem State.endReception_orphan (h : rx.fate = .orphan) (s : State) :
    s.endReception rx body e = s.onRp fun r => { r with rx := none } := by
  unfold State.endReception; rw [h]

theorem State.endReception_own_aborted (h : rx.fate = .ownOrigin) (s : State) :
    s.endReception rx body .abortDelim = (s.onRp fun r => { r with rx := none }).countAborted := by
  unfold State.endReception; rw [h]; rfl

theorem State.endReception_own_bad (h : rx.fate = .ownOrigin) (ne : e ≠ .abortDelim)
    (bad : tailGood rx.header body e = false) (s : State) :
    s.endReception rx body e = (s.onRp fun r => { r with rx := none }).receiverError := by
  unfold State.endReception; rw [h]; simp [ne, bad]

/-- A forwarded frame whose tail fails is a receiver error, but for the abort delimiter after a good header (log 16). -/
theorem State.endReception_forwarded_bad (h : rx.fate = .forwarded) (bad : tailGood rx.header body e = false)
    (k : headerFailure rx.header = true ∨ e ≠ .abortDelim) (s : State) : s.endReception rx body e =
      ((s.onRp fun r => { r with rx := none }).onRp fun r => r.closeForwarded body .abortDelim).receiverError := by
  unfold State.endReception
  rw [h]
  rcases k with k | k <;> simp [k, bad]

theorem State.endReception_forwarded_aborted (h : rx.fate = .forwarded) (k : headerFailure rx.header = false)
    (s : State) : s.endReception rx body .abortDelim =
      ((s.onRp fun r => { r with rx := none }).onRp fun r => r.closeForwarded body .abortDelim).countAborted := by
  unfold State.endReception; rw [h]; simp [k]

theorem State.endReception_forwarded_good {k : Kind} (h : rx.fate = .forwarded)
    (good : tailGood rx.header body e = true) (hk : kindOfCode (parseHeader rx.header).kindCode = some k) (s v : State)
    (hv : v = { s with rp := { s.rp with rx := none }.closeForwarded body .endDelim }) : s.endReception rx body e =
      if ((parseHeader rx.header).dest = 0 ∨ (parseHeader rx.header).dest = s.ownStation) ∧
          s.mc.link.copies k = true then
        v.handCopy k ⟨rx.header, body.take (parseHeader rx.header).length, rx.arrival⟩
      else v := by
  obtain ⟨head, rfl⟩ := tailGood_ending good
  subst hv
  unfold State.endReception
  rw [h]
  simp only [head, good, hk]
  rfl

/-- An own frame with a good tail is a return, and a Hello is handed on as well. -/
theorem State.endReception_own_good (h : rx.fate = .ownOrigin) (good : tailGood rx.header body .endDelim = true)
    (s v : State) (hv : v = (s.onRp fun r => { r with rx := none })) : s.endReception rx body .endDelim =
      (if (parseHeader rx.header).kindCode = Kind.hello.code then
        { v with inMc := v.inMc ++ [⟨rx.header, body.take (parseHeader rx.header).length, rx.arrival⟩] }
      else v).takeReturn (parseHeader rx.header).cls (parseHeader rx.header).sequence := by
  subst hv
  unfold State.endReception
  rw [h]
  simp only [good]
  rfl

end

/-! ## Returns (R21) -/

theorem State.takeReturn_bulk {c q : Nat} (h : s.laneOf c = .bulk) : s.takeReturn c q = s := by
  unfold State.takeReturn; rw [h]

theorem State.takeReturn_watched {c q : Nat} (h : s.laneOf c = .urgent) (w : s.rp.watches q = true) :
    s.takeReturn c q = (s.onRp fun r => { r with watch := dropWatch q r.watch, consecMissing := 0 }).reportFalse 7 0 := by
  unfold State.takeReturn; rw [h]; simp [w]

theorem State.takeReturn_unmatched {c q : Nat} (h : s.laneOf c = .urgent) (w : s.rp.watches q = false) :
    s.takeReturn c q = s.onRp fun r => { r with unmatched := bump r.unmatched } := by
  unfold State.takeReturn; rw [h]; simp [w]

/-- A return leaves the frame in reception, the pass buffer and the copies handed on. -/
theorem State.takeReturn_keeps (c q : Nat) (s : State) : (s.takeReturn c q).rp.rx = s.rp.rx ∧
    (s.takeReturn c q).rp.pass = s.rp.pass ∧ (s.takeReturn c q).inMc = s.inMc := by
  cases lane : s.laneOf c
  · cases w : s.rp.watches q
    · rw [State.takeReturn_unmatched lane w]
      exact ⟨rfl, rfl, rfl⟩
    · rw [State.takeReturn_watched lane w]
      have told := State.reportFalse_reported 7 0
        (s.onRp fun r => { r with watch := dropWatch q r.watch, consecMissing := 0 })
      exact ⟨told.rx_eq, told.pass_eq, told.inMc_eq⟩
  · rw [State.takeReturn_bulk lane]
    exact ⟨rfl, rfl, rfl⟩

/-! ## The step of a frame's end -/

/-- Receive handling runs: in the link states that receive, with symbol lock (R11). -/
theorem exec_frameEnd_of_rx {rx : Reception} (hr : s.mc.link.receives = true) (hl : s.pins.lock = true)
    (hx : s.rp.rx = some rx) (t : Nat) (body : List Byte) (e : FrameEnding) :
    exec (.frameEndArrival t body e) s = .next ((s.atTime t).endReception rx body e) := by
  simp [exec, execFrameEndArrival, hr, hl, hx]

theorem exec_frameEnd_of_none (hr : s.mc.link.receives = true) (hl : s.pins.lock = true) (hx : s.rp.rx = none)
    (t : Nat) (body : List Byte) (e : FrameEnding) :
    exec (.frameEndArrival t body e) s = .next ((s.atTime t).headless e) := by
  simp [exec, execFrameEndArrival, hr, hl, hx]

theorem exec_frameEnd_idle (h : s.mc.link.receives = false ∨ s.pins.lock = false) (t : Nat) (body : List Byte)
    (e : FrameEnding) : exec (.frameEndArrival t body e) s = .next (s.atTime t) := by
  rcases h with h | h <;> simp [exec, execFrameEndArrival, h]

/-- What a step that is a receiver error answers. -/
theorem State.receiverError_answers {i : Instr} {v w : State} (h : exec i s = .next w.receiverError)
    (hv : v = w.onRp Rp.erred) : ∃ u, exec i s = .next u ∧ v.Reported u ∧ (w.rp.errWindow < 15 → u = v) ∧
      (15 ≤ w.rp.errWindow → u.causeTrue 9 0 = true) := by
  subst hv
  obtain ⟨few, many⟩ := w.receiverError_window
  exact ⟨_, h, w.receiverError_reported, few, many⟩

/-- Settles O10, ending by ending. -/
theorem frameEnd : Obligations.FrameEnd := by
  refine ⟨?idle, ?good, ?abortedForward, ?badForward, ?return_, ?abortedOwn, ?badOwn, ?orphan, ?headless⟩
  case idle =>
    intro t body e s h
    exact exec_frameEnd_idle h t body e
  case good =>
    intro t body e s rx k hr hl hx fate good hk
    refine ⟨_, rfl, ?_⟩
    rw [exec_frameEnd_of_rx hr hl hx]
    exact congrArg _ (State.endReception_forwarded_good fate good hk (s.atTime t) _ rfl)
  case abortedForward =>
    intro t body s rx hr hl hx fate head
    rw [exec_frameEnd_of_rx hr hl hx, State.endReception_forwarded_aborted fate head]
    simp [State.countAborted, State.onRp, State.atTime]
  case badForward =>
    intro t body e s rx v hr hl hx fate bad why hv
    have run := exec_frameEnd_of_rx hr hl hx t body e
    rw [State.endReception_forwarded_bad fate bad why] at run
    obtain ⟨u, next, told, few, many⟩ := State.receiverError_answers run
      (hv.trans (by simp [Rp.erred, State.onRp, State.atTime]))
    simp only [State.onRp_rp, Rp.closeForwarded_errWindow] at few many
    exact ⟨u, next, told, few, many⟩
  case return_ =>
    intro t body s rx hr hl hx fate good
    refine ⟨_, (exec_frameEnd_of_rx hr hl hx ..).trans
      (congrArg _ (State.endReception_own_good fate good (s.atTime t) _ rfl)), ?_⟩
    generalize hw : (if (parseHeader rx.header).kindCode = Kind.hello.code then _ else _ : State) = w
    have ring : w.rp = { s.rp with rx := none } := by rw [← hw]; split <;> rfl
    have lanes (c : Nat) : w.laneOf c = s.laneOf c := by rw [← hw]; split <;> rfl
    have watches (q : Nat) : w.rp.watches q = s.rp.watches q := by rw [ring]; rfl
    obtain ⟨keepsRx, keepsPass, keepsIn⟩ :=
      State.takeReturn_keeps (parseHeader rx.header).cls (parseHeader rx.header).sequence w
    refine ⟨by rw [keepsRx, ring], by rw [keepsPass, ring], fun bulk => ?_, fun urgent held => ?_,
      fun urgent missing => ?_, fun hello => ?_, fun other => ?_⟩
    · rw [State.takeReturn_bulk ((lanes _).trans bulk), ring]
    · rw [State.takeReturn_watched ((lanes _).trans urgent) ((watches _).trans held)]
      have told := State.reportFalse_reported 7 0
        (w.onRp fun r => { r with watch := dropWatch (parseHeader rx.header).sequence r.watch, consecMissing := 0 })
      refine ⟨?_, told.consecMissing_eq, ?_, ?_⟩
      · rw [told.watch_eq, State.onRp_rp, ring]
      · rw [told.unmatched_eq, State.onRp_rp, ring]
      · rw [State.reportFalse_causeTrue]
        simp
    · rw [State.takeReturn_unmatched ((lanes _).trans urgent) ((watches _).trans missing), State.onRp_rp, ring]
    · rw [keepsIn, ← hw, if_pos hello]
      rfl
    · rw [keepsIn, ← hw, if_neg other]
      rfl
  case abortedOwn =>
    intro t body s rx hr hl hx fate
    rw [exec_frameEnd_of_rx hr hl hx, State.endReception_own_aborted fate]
    rfl
  case badOwn =>
    intro t body e s rx v hr hl hx fate ne bad hv
    have run := exec_frameEnd_of_rx hr hl hx t body e
    rw [State.endReception_own_bad fate ne bad] at run
    obtain ⟨u, next, told, few, many⟩ := State.receiverError_answers run
      (hv.trans (by simp [Rp.erred, State.onRp, State.atTime]))
    exact ⟨u, next, told, few, many⟩
  case orphan =>
    intro t body e s rx hr hl hx fate
    rw [exec_frameEnd_of_rx hr hl hx, State.endReception_orphan fate]
    rfl
  case headless =>
    intro t body e s v hr hl hx hv
    have run := exec_frameEnd_of_none hr hl hx t body e
    refine ⟨_, run, fun aborted => by rw [aborted]; rfl, fun ne => ?_⟩
    have err : (s.atTime t).headless e = (s.atTime t).receiverError := by cases e <;> simp_all [State.headless]
    have told := (s.atTime t).receiverError_reported
    obtain ⟨few, many⟩ := (s.atTime t).receiverError_window
    rw [err]
    subst hv
    exact ⟨told, few, many⟩

/-! ## A cut (R1, R15) -/

/-- The Ring Port after the frame in reception is cut: `counts` tells whether a header cut short is a receiver error. -/
def Rp.cutRx (counts : Bool) (arrived : List Byte) (r : Rp) : Rp :=
  match r.rx with
  | none => if counts then r.erred else r
  | some rx =>
    match rx.fate with
    | .orphan => { r with rx := none }
    | .ownOrigin => { r with rx := none }.erred
    | .forwarded => ({ r with rx := none }.closeForwarded arrived .abortDelim).erred

/-- A cut does that, and the report of a receiver error at most. -/
theorem State.cutReception_reported (m : Bool) (a : List Byte) (s : State) :
    (s.onRp (Rp.cutRx (m && s.mc.link.receives) a)).Reported (s.cutReception m a) := by
  unfold State.cutReception
  split
  · next rx hx =>
    cases fate : rx.fate
    case orphan =>
      rw [State.endReception_orphan fate]
      simpa [State.onRp, Rp.cutRx, hx, fate] using State.Reported.refl (s.onRp fun r => { r with rx := none })
    case ownOrigin =>
      rw [State.endReception_own_bad fate (by decide) (tailGood_broken ..)]
      have told := State.receiverError_reported (s.onRp fun r => { r with rx := none })
      simpa [State.onRp, Rp.cutRx, hx, fate] using told
    case forwarded =>
      rw [State.endReception_forwarded_bad fate (tailGood_broken ..) (.inr (by decide))]
      have told := State.receiverError_reported
        ((s.onRp fun r => { r with rx := none }).onRp fun r => r.closeForwarded a .abortDelim)
      simpa [State.onRp, Rp.cutRx, hx, fate] using told
  · next hx =>
    cases counts : (m && s.mc.link.receives)
    · simpa [State.onRp, Rp.cutRx, hx] using State.Reported.refl s
    · simpa [State.onRp, Rp.cutRx, hx] using State.receiverError_reported s

@[simp] theorem Rp.cutRx_rx (b : Bool) (a : List Byte) (r : Rp) : (r.cutRx b a).rx = none := by
  unfold Rp.cutRx
  split
  · next h => split <;> simp [Rp.erred, h]
  · split <;> simp [Rp.erred]

/-! ## A header (R11 to R13) -/

theorem exec_frameHeader (hr : s.mc.link.receives = true) (hl : s.pins.lock = true) (a : Nat) (header : List Byte) :
    exec (.frameHeaderArrival a header) s = .next (((s.atTime (a + 168)).cutReception false []).takeHeader a header) := by
  simp [exec, execFrameHeaderArrival, hr, hl]

/-- Settles O9: the header's fate is that of its origin, hop count and check. -/
theorem headerArrival : Obligations.HeaderArrival := by
  refine fun arrival header s => ⟨fun hr hl => ?_, fun h => ?_⟩
  · have own : ((s.atTime (arrival + 168)).cutReception false []).ownStation = s.ownStation := by
      rw [State.ownStation, (State.cutReception_reported ..).cfg_eq]
      rfl
    refine ⟨_, _, rfl, exec_frameHeader hr hl .., ?_⟩
    generalize (s.atTime (arrival + 168)).cutReception false [] = b at own
    unfold State.takeHeader
    rw [own]
    by_cases origin : (parseHeader header).origin = s.ownStation
    · simp [rxFate, origin, State.onRp]
    · by_cases orphan : headerCheckOk header = true ∧ (parseHeader header).hop = 31
      · simp [rxFate, origin, orphan, State.onRp]
      · have fate : rxFate s.ownStation header = .forwarded := by simp [rxFate, origin, orphan]
        simp only [fate, State.onRp]
        refine ⟨trivial, fun h => absurd h origin, fun _ check hop => absurd ⟨check, hop⟩ orphan, ?_⟩
        exact fun _ _ => ⟨trivial, trivial, trivial⟩
  · rcases h with h | h <;> simp [exec, execFrameHeaderArrival, h]

end Sys2Proof.Machine
end

/-! Light and symbol lock, lost and gained (R1, R3, R15, R29, R31). -/

section
namespace Sys2Proof.Machine

variable {s t : State}

/-! ## What offers and events depend on -/

/-- What an offer does to the Ring Port depends on the Ring Port, the link state and the configuration alone. -/
theorem State.offer_rp_congr (hr : t.rp = s.rp) (hl : t.mc.link = s.mc.link) (hc : t.cfg = s.cfg) (f : LaneFrame) :
    (t.offer f).rp = (s.offer f).rp := by
  have lane : t.laneOf f.cls = s.laneOf f.cls := by rw [State.laneOf, State.laneOf, hc]
  unfold State.offer State.offerR
  rw [hl, lane, hr]
  split
  · split <;> rfl
  · exact hr

/-- What posting an event does is seen in the Command Port alone. -/
theorem Posts.congr {e : Event} {s' t' : State} (h : Posts e s t) (hs : s'.cmp = s.cmp) (ht : t'.cmp = t.cmp) :
    Posts e s' t' := by
  unfold Posts at *
  rw [hs, ht]
  exact h

theorem State.Reported.onPins (h : s.Reported t) (f : Pins → Pins) : (s.onPins f).Reported (t.onPins f) :=
  { h with fields := by rw [State.onPins, h.fields]; rfl }

/-! ## Lock lost (R3, R15, R29) -/

/-- The Membership Controller after lock is lost: a test block that arrives is in error (R29). -/
def State.blockCut (m : Bool) (a : List Byte) (s : State) : Mc :=
  if s.mc.link = .lightCheck ∧ s.pins.lock = true ∧ s.mc.check.lockAt ≠ none ∧
      s.mc.check.returned < s.repeats ∧ (m = true ∨ a ≠ []) then
    { s.mc with check := { s.mc.check with returned := s.mc.check.returned + 1, errors := s.mc.check.errors + 1 } }
  else s.mc

theorem State.cutBlock_eq (m : Bool) (a : List Byte) (s : State) :
    s.cutBlock m a = { s with mc := s.blockCut m a } := by
  have takes : (s.takesBlocks && (m || !a.isEmpty)) = true ↔ s.mc.link = .lightCheck ∧ s.pins.lock = true ∧
      s.mc.check.lockAt ≠ none ∧ s.mc.check.returned < s.repeats ∧ (m = true ∨ a ≠ []) := by
    simp [State.takesBlocks, Option.isSome_iff_ne_none, and_assoc]
  unfold State.cutBlock State.blockCut
  by_cases h : (s.takesBlocks && (m || !a.isEmpty)) = true
  · rw [if_pos h, if_pos (takes.mp h)]
    rfl
  · rw [if_neg h, if_neg (mt takes.mpr h)]

theorem State.blockCut_link (m : Bool) (a : List Byte) (s : State) : (s.blockCut m a).link = s.mc.link := by
  unfold State.blockCut
  split <;> rfl

/-- The state a loss of lock leaves, but for the reports of causes 9 and 6. -/
def State.lockCut (m : Bool) (a : List Byte) (s : State) : State :=
  { s with
    pins := { s.pins with lock := false }, mc := s.blockCut m a, rp := s.rp.cutRx (m && s.mc.link.receives) a }

/-- The cut itself, before cause 6 is reported. -/
theorem State.cut_reported (m : Bool) (a : List Byte) (s : State) : (s.lockCut m a).Reported
    (((s.cutBlock m a).cutReception m a).onPins fun p => { p with lock := false }) := by
  have cut := (State.cutReception_reported m a (s.cutBlock m a)).onPins fun p => { p with lock := false }
  rw [State.cutBlock_eq] at cut ⊢
  simp only [State.blockCut_link] at cut
  exact cut

theorem State.lockLost_reported (m : Bool) (a : List Byte) (s : State) : (s.lockCut m a).Reported (s.lockLost m a) :=
  (State.cut_reported m a s).trans (.ite _ (State.reportTrue_reported ..) (.refl _))

/-- In the ring cause 6 is true after a loss of lock. -/
theorem State.lockLost_true (m : Bool) (a : List Byte) (h : s.mc.link.inRing = true) :
    (s.lockLost m a).causeTrue 6 0 = true := by
  have link : (((s.cutBlock m a).cutReception m a).onPins fun p => { p with lock := false }).mc.link.inRing = true := by
    rw [(State.cut_reported m a s).mc_eq]
    exact (congrArg LinkState.inRing (State.blockCut_link m a s)).trans h
  unfold State.lockLost
  dsimp only
  rw [if_pos link]
  exact State.reportTrue_true ..

/-- Both losses are a loss of lock on a state that differs from `s` in the clock and the pins. -/
theorem exec_lockLost {t : Nat} {mid : Bool} {arrived : List Byte} {s : State} {i : Instr} {p : Pins}
    (h : (i = .lightLost t mid arrived ∧ s.pins.light = true ∧ p = { s.pins with light := false, lock := false }) ∨
      (i = .symbolLockLost t mid arrived ∧ s.pins.lock = true ∧ p = { s.pins with lock := false })) :
    ∃ q : Pins, exec i s = .next (State.lockLost mid arrived { s.atTime t with pins := q }) ∧
      q.lock = s.pins.lock ∧ { q with lock := false } = p := by
  rcases h with ⟨rfl, held, rfl⟩ | ⟨rfl, held, rfl⟩
  · refine ⟨{ s.pins with light := false }, ?_, rfl, rfl⟩
    simp [exec, execLightLost, held, State.onPins, State.atTime]
  · refine ⟨s.pins, ?_, rfl, rfl⟩
    simp only [exec, execSymbolLockLost, State.atTime_pins, held]
    rfl

/-! ## Lock gained (R3, R29, R31) -/

theorem exec_lockGained (h : s.pins.lock = false) (t : Nat) : exec (.symbolLockGained t) s =
    .next (State.lockGained { s.atTime t with pins := { s.pins with light := true, lock := true } }) := by
  simp [exec, execSymbolLockGained, h, State.onPins]

/-- A light check whose blocks have not started sends block 0 from the moment of lock on. -/
theorem State.lockGained_lightCheck (hl : s.mc.link = .lightCheck) (hn : s.mc.check.lockAt = none) :
    s.lockGained = { s with
      mc := { s.mc with check := { s.mc.check with lockAt := some s.now } }
      rp := { s.rp with tx := if 0 < s.repeats then .test s.mc.attempt 0 else .idle } } := by
  have block : State.testTx { s with mc := { s.mc with check := { s.mc.check with lockAt := some s.now } } } =
      if 0 < s.repeats then .test s.mc.attempt 0 else .idle := by
    simp only [State.testTx, Nat.sub_self, Nat.zero_div, Nat.zero_mod, Nat.reduceLT, and_true]
    rfl
  have sent : s.lockGained =
      (s.onMc fun m => { m with check := { m.check with lockAt := some s.now } }).sendTest := by
    unfold State.lockGained
    rw [hl]
    exact if_pos (by rw [hn]; rfl)
  rw [sent, ← block]
  rfl

theorem State.lockGained_inserting (hl : s.mc.link = .inserting) :
    s.lockGained = s.changeLink .listen .none 0 0 := by
  simp [State.lockGained, hl]

theorem State.lockGained_inRing (hl : s.mc.link.inRing = true) : s.lockGained = s.reportFalse 6 0 := by
  cases h : s.mc.link <;> simp_all [State.lockGained, LinkState.inRing]

theorem State.lockGained_out (hl : s.mc.link.isOut = true) : s.lockGained = s := by
  cases h : s.mc.link <;> simp_all [State.lockGained, LinkState.isOut]

/-- The Hello frame of a station in LISTEN. -/
def State.listenHello (s : State) : LaneFrame :=
  wholeFrame .hello 0 (helloPayload
    { link := .listen, shaftMember := s.shaftMember, speedAuthority := s.speedAuthority, step := s.su.step
      founder := s.su.founder, stamp := s.mc.joinStamp })

/-- INSERTING ends in LISTEN: the event is posted and the Hello offered (R31). -/
theorem State.enterListen (hl : s.mc.link = .inserting) (u : State) (hu : u = s.changeLink .listen .none 0 0) :
    u = { s with mc := { s.mc with link := .listen, listen := 0, insTimer := none }
                 su := { s.su with heardQualifying := false }, rp := u.rp, cmp := u.cmp } ∧
      Posts (.linkChanged .listen .inserting .none 0 0) s u ∧
      u.rp = ({ s with mc := { s.mc with link := .listen, listen := 0, insTimer := none } }.offer s.listenHello).rp := by
  have event : (s.onMc fun m => { m with link := .listen }).linkEvent .inserting 0 0 =
      (s.onMc fun m => { m with link := .listen }).post (.linkChanged .listen .inserting .none 0 0) := rfl
  have changed : s.changeLink .listen .none 0 0 =
      ((((s.onMc fun m => { m with link := .listen }).post (.linkChanged .listen .inserting .none 0 0)).onMc
        fun m => { m with listen := 0, insTimer := none }).onSu
          fun u => { u with heardQualifying := false }).offerHello := by
    rw [← event]
    simp [State.changeLink, hl, LinkState.bypass]
  have posts := State.post_posts (.linkChanged .listen .inserting .none 0 0) (s.onMc fun m => { m with link := .listen })
  rw [changed, State.post_eq] at hu
  generalize hc : ((s.onMc fun m => { m with link := .listen }).post (.linkChanged .listen .inserting .none 0 0)).cmp = c
    at hu
  have before : u = State.offer s.listenHello { s with
      mc := { s.mc with link := .listen, listen := 0, insTimer := none }
      su := { s.su with heardQualifying := false }, cmp := c } := hu
  subst before
  refine ⟨?_, posts.congr rfl ?_, State.offer_rp_congr (by rfl) (by rfl) (by rfl) _⟩
  · rw [State.offer_eq]
  · rw [State.offer_eq, hc]

/-- The clock and the pins are as they were in every link state. -/
theorem State.lockGained_pins_now (s : State) : s.lockGained.pins = s.pins ∧ s.lockGained.now = s.now := by
  cases hl : s.mc.link
  case lightCheck =>
    cases hn : s.mc.check.lockAt
    · rw [State.lockGained_lightCheck hl hn]
      exact ⟨rfl, rfl⟩
    · simp [State.lockGained, hl, hn]
  case inserting =>
    rw [State.lockGained_inserting hl, (State.enterListen hl _ rfl).1]
    exact ⟨rfl, rfl⟩
  case listen | member | leaving =>
    rw [State.lockGained_inRing (by rw [hl]; rfl)]
    have told := State.reportFalse_reported 6 0 s
    exact ⟨told.pins_eq, told.now_eq⟩
  case dark | bypassed =>
    rw [State.lockGained_out (by rw [hl]; rfl)]
    exact ⟨rfl, rfl⟩

/-- Settles O8. -/
theorem lightAndLock : Obligations.LightAndLock := by
  refine ⟨?lost, ?dark, ?unlocked, ?held, ?gained⟩
  case lost =>
    intro t mid arrived s i p h
    obtain ⟨q, next, lock, rfl⟩ := exec_lockLost h
    generalize hw : State.mk _ _ _ _ _ _ _ q _ _ _ _ _ _ _ _ _ _ = w at next
    have told := State.lockLost_reported mid arrived w
    have mc : (w.lockLost mid arrived).mc = w.blockCut mid arrived := told.mc_eq
    subst hw
    refine ⟨_, next, told.pins_eq, told.now_eq, ?_, told.cfg_eq, told.cu_eq, told.mu_eq, told.scu_eq, told.inMc_eq,
      told.inSu_eq, told.inTu_eq, told.inAu_eq, told.inScu_eq, told.rx_eq.trans (Rp.cutRx_rx ..),
      fun ring => State.lockLost_true _ _ ring, fun rx hx fate => ?_, fun none short => ?_⟩
    · rw [mc, State.blockCut, lock]
      rfl
    · have cut : s.rp.cutRx (mid && s.mc.link.receives) arrived =
          { s.rp.closeForwarded arrived .abortDelim with rx := none }.erred := by
        simp only [Rp.cutRx, hx, fate, Rp.closeForwarded_noRx]
      refine ⟨told.pass_eq.trans ?_, told.tx_eq.trans ?_, told.receiverErrors_eq.trans ?_⟩
      all_goals simp [State.lockCut, cut, Rp.erred]
    · have kept : s.rp.cutRx (mid && s.mc.link.receives) arrived = s.rp := by simp [Rp.cutRx, none, short]
      rw [mc]
      simpa [State.lockCut, kept] using told
  case dark =>
    intro t mid arrived s h
    simp [exec, execLightLost, h]
  case unlocked =>
    intro t mid arrived s h
    simp [exec, execSymbolLockLost, h]
  case held =>
    intro t s h
    simp [exec, execSymbolLockGained, h]
  case gained =>
    intro t s h
    refine ⟨_, exec_lockGained h t, ?_⟩
    generalize hw : State.mk _ _ _ _ _ _ _ { s.pins with light := true, lock := true } _ _ _ _ _ _ _ _ _ _ = w
    obtain ⟨pins, now⟩ := w.lockGained_pins_now
    have mc : w.mc = s.mc := by rw [← hw]; rfl
    refine ⟨by rw [pins, ← hw], by rw [now, ← hw]; rfl, fun link first => ?_, fun link => ?_, fun ring => ?_,
      fun out => ?_⟩
    · rw [pins, State.lockGained_lightCheck (by rw [mc]; exact link) (by rw [mc]; exact first), ← hw]
      rfl
    · have inserting : w.mc.link = .inserting := by rw [mc]; exact link
      obtain ⟨fields, posts, hello⟩ := State.enterListen inserting _ (State.lockGained_inserting inserting)
      have mc' : w.lockGained.mc = { s.mc with link := .listen, listen := 0, insTimer := none } := by
        rw [fields, mc]
      refine ⟨?_, mc', ?_, posts.congr (by rw [← hw]; rfl) rfl, hello.trans ?_⟩
      · rw [fields, ← hw]
      · rw [fields, ← hw]
        rfl
      · rw [mc']
        subst hw
        exact State.offer_rp_congr (by rfl) (by rfl) (by rfl) _
    · rw [pins, State.lockGained_inRing (by rw [mc]; exact ring)]
      refine ⟨?_, fun c d => ?_⟩
      · have told := State.reportFalse_reported 6 0 w
        subst hw
        exact told
      · rw [State.reportFalse_causeTrue, ← hw]
        rfl
    · rw [State.lockGained_out (by rw [mc]; exact out), ← hw]

end Sys2Proof.Machine
end

/-! The transmitter at a frame boundary (R2, R13, R17, R19, R20, R29). -/

section
namespace Sys2Proof.Machine

variable {s t : State}

/-! ## Launch times (R19) -/

theorem launchTimes_shaft {f : LaneFrame} (h : f.kind = .shaft) (now : Nat) : launchTimes f now =
    if 65535 < ((now : Int) - f.beatStart).toNat then (65535, 65535) else (((now : Int) - f.beatStart).toNat, 0) := by
  simp [launchTimes, h]

theorem launchTimes_other {f : LaneFrame} (h : f.kind ≠ .shaft) (now : Nat) : launchTimes f now = (0, 0) := by
  simp [launchTimes, h]

/-! ## A launch of the urgent lane and the return watch (R20) -/

/-- The return watch after a launch, when it holds no entry of the sequence. -/
def Rp.entered (q now : Nat) (r : Rp) : Rp :=
  if r.watch.length < 16 then { r with watch := r.watch ++ [⟨q, now⟩] } else { r with unwatched := bump r.unwatched }

theorem State.watchLaunch_fresh {q : Nat} (h : s.rp.watches q = false) :
    s.watchLaunch q = s.onRp (Rp.entered q s.now) := by
  simp only [State.watchLaunch, h]
  rfl

theorem Rp.entered_eq (q now : Nat) (r : Rp) : r.entered q now =
    { r with
      watch := if r.watch.length < 16 then r.watch ++ [⟨q, now⟩] else r.watch
      unwatched := if r.watch.length < 16 then r.unwatched else bump r.unwatched } := by
  unfold Rp.entered
  split <;> rfl

/-- The watch without its entry of sequence `q` is one shorter. -/
theorem dropWatch_length {q : Nat} {w : List WatchEntry} (h : w.any (fun e => e.sequence == q) = true) :
    (dropWatch q w).length + 1 = w.length := by
  obtain ⟨e, he, hq⟩ := List.any_eq_true.mp h
  have := List.length_eraseP_of_mem (p := fun e => e.sequence == q) he hq
  have := List.length_pos_of_mem he
  unfold dropWatch
  omega

/-- The missing entry's report touches of the Ring Port the urgent lane and its overflow count. -/
theorem State.watchMissing_urgentOnly (q : Nat) (s : State) : (s.rp.missed q).UrgentOnly (s.watchMissing q).rp := by
  rw [State.watchMissing_eq]
  split
  · exact State.reportTrue_urgentOnly ..
  · rfl

theorem State.watchMissing_reported (q : Nat) (s : State) : (s.onRp (Rp.missed q)).Reported (s.watchMissing q) := by
  rw [State.watchMissing_eq]
  exact .ite _ (State.reportTrue_reported ..) (.refl _)

theorem State.watchLaunch_eq (q : Nat) (s : State) : s.watchLaunch q =
    State.onRp (Rp.entered q (if s.rp.watches q then s.watchMissing q else s).now)
      (if s.rp.watches q then s.watchMissing q else s) := rfl

/-- A launch whose sequence is still watched: the old entry is counted missing, and the new one has its place. -/
theorem State.watchLaunch_again {q : Nat} (h : s.rp.watches q = true) (len : s.rp.watch.length ≤ 16) :
    (s.watchLaunch q).rp =
      { (s.watchMissing q).rp with watch := dropWatch q s.rp.watch ++ [⟨q, s.now⟩] } := by
  have room : (s.watchMissing q).rp.watch.length < 16 := by
    have := dropWatch_length h
    rw [State.watchMissing_watch]
    omega
  have now : (s.watchMissing q).now = s.now := (State.watchMissing_reported q s).now_eq
  rw [State.watchLaunch_eq, if_pos h, State.onRp_rp, now, Rp.entered, if_pos room, State.watchMissing_watch]

/-- The way into the watch leaves the Membership Controller, the transmitter and the frames of the bulk lane and of
the pass buffer. -/
theorem State.watchLaunch_keeps (q : Nat) (s : State) : (s.watchLaunch q).mc = s.mc ∧
    (s.watchLaunch q).rp.tx = s.rp.tx ∧ (s.watchLaunch q).rp.seq = s.rp.seq ∧
    (s.watchLaunch q).rp.pass = s.rp.pass ∧ (s.watchLaunch q).rp.bulk = s.rp.bulk := by
  have missing : (s.watchMissing q).mc = s.mc ∧ (s.watchMissing q).rp.tx = s.rp.tx ∧
      (s.watchMissing q).rp.seq = s.rp.seq ∧ (s.watchMissing q).rp.pass = s.rp.pass ∧
      (s.watchMissing q).rp.bulk = s.rp.bulk := by
    refine ⟨(State.watchMissing_reported q s).mc_eq, ?_⟩
    rw [State.watchMissing_urgentOnly q s]
    exact ⟨rfl, rfl, rfl, rfl⟩
  rw [State.watchLaunch_eq, State.onRp_rp, State.onRp_mc, Rp.entered_eq]
  split
  · exact missing
  · exact ⟨rfl, rfl, rfl, rfl, rfl⟩

/-! ## The arbiter's choice (R17) -/

section
variable {a : Nat}

/-- A waiting urgent frame goes out while the pass buffer holds at most 744 bytes. -/
theorem State.arbitrate_urgent {f : LaneFrame} {rest : List LaneFrame} (hr : s.mc.link.inRing = true)
    (hu : s.rp.urgent = f :: rest) (fill : s.rp.fillLevel a ≤ 744) :
    s.arbitrate a = (State.launched .urgent f (s.onRp fun r => { r with urgent := rest })).watchLaunch s.rp.seq := by
  cases hl : s.mc.link
  case listen | member | leaving =>
    unfold State.arbitrate
    rw [hl, hu]
    cases s.rp.pass <;> exact (if_pos fill).trans (State.launch_urgent ..)
  all_goals rw [hl] at hr; cases hr

/-- Else the oldest frame of the pass buffer is forwarded. -/
theorem State.arbitrate_forward {p : PassFrame} {rest : List PassFrame} (hp : s.rp.pass = p :: rest)
    (h : s.mc.link = .inserting ∨ (s.mc.link.inRing = true ∧ (s.rp.urgent = [] ∨ 744 < s.rp.fillLevel a))) :
    s.arbitrate a =
      s.onRp fun r => { r with pass := rest, tx := .forward { p with header := s.forwardHeader p } } := by
  rcases h with hl | ⟨hr, hu⟩
  · unfold State.arbitrate
    rw [hl, hp]
  · cases hl : s.mc.link
    case listen | member | leaving =>
      unfold State.arbitrate
      rw [hl, hp]
      cases urgent : s.rp.urgent with
      | nil => rfl
      | cons u us =>
        have full : 744 < s.rp.fillLevel a := by simpa [urgent] using hu
        exact if_neg (by omega)
    all_goals rw [hl] at hr; cases hr

theorem State.arbitrate_bulk {f : LaneFrame} {rest : List LaneFrame} (hr : s.mc.link.inRing = true)
    (hu : s.rp.urgent = []) (hp : s.rp.pass = []) (hb : s.rp.bulk = f :: rest) (fill : s.rp.fillLevel a = 0) :
    s.arbitrate a = (s.onRp fun r => { r with bulk := rest }).launched .bulk f := by
  cases hl : s.mc.link
  case listen | member | leaving =>
    unfold State.arbitrate
    rw [hl, hu, hp, hb]
    exact if_pos fill
  all_goals rw [hl] at hr; cases hr

/-- With nothing to send the transmitter goes idle. -/
theorem State.arbitrate_idle_ring (hr : s.mc.link.inRing = true) (hp : s.rp.pass = [])
    (h : (s.rp.urgent = [] ∧ (s.rp.bulk = [] ∨ s.rp.fillLevel a ≠ 0)) ∨
      (s.rp.urgent ≠ [] ∧ 744 < s.rp.fillLevel a)) :
    s.arbitrate a = s.onRp fun r => { r with tx := .idle } := by
  cases hl : s.mc.link
  case listen | member | leaving =>
    unfold State.arbitrate
    rw [hl, hp]
    cases urgent : s.rp.urgent with
    | nil =>
      cases bulk : s.rp.bulk with
      | nil => rfl
      | cons b bs =>
        have filled : s.rp.fillLevel a ≠ 0 := by simpa [urgent, bulk] using h
        exact if_neg filled
    | cons u us =>
      have full : 744 < s.rp.fillLevel a := by simpa [urgent] using h
      exact if_neg (by omega)
  all_goals rw [hl] at hr; cases hr

theorem State.arbitrate_idle (h : s.mc.link.isOut = true ∨ (s.mc.link = .lightCheck ∧ s.mc.check.lockAt = none) ∨
    (s.rp.pass = [] ∧ (s.mc.link = .inserting ∨
      (s.mc.link.inRing = true ∧ ((s.rp.urgent = [] ∧ (s.rp.bulk = [] ∨ s.rp.fillLevel a ≠ 0)) ∨
        (s.rp.urgent ≠ [] ∧ 744 < s.rp.fillLevel a)))))) :
    s.arbitrate a = s.onRp fun r => { r with tx := .idle } := by
  rcases h with out | ⟨hl, unlocked⟩ | ⟨hp, hl | ⟨hr, h⟩⟩
  · cases hl : s.mc.link
    case dark | bypassed => unfold State.arbitrate; rw [hl]
    all_goals rw [hl] at out; cases out
  · unfold State.arbitrate State.sendTest State.testTx
    rw [hl, unlocked]
  · unfold State.arbitrate
    rw [hl, hp]
  · exact State.arbitrate_idle_ring hr hp h

theorem State.arbitrate_lightCheck {l : Nat} (hl : s.mc.link = .lightCheck) (lock : s.mc.check.lockAt = some l) :
    s.arbitrate a = s.onRp fun r => { r with tx :=
      if (s.now - l) / 592 < s.repeats ∧ (s.now - l) % 592 < 528 then .test s.mc.attempt ((s.now - l) / 592)
      else .idle } := by
  unfold State.arbitrate State.sendTest State.testTx
  rw [hl, lock]

end

theorem exec_transmit (h : s.rp.atBoundary = true) (t a : Nat) :
    exec (.transmitBoundary t a) s = .next ((s.atTime t).arbitrate a) := by
  simp [exec, execTransmitBoundary, h]

/-- Settles O11, choice by choice. -/
theorem transmitChoice : Obligations.TransmitChoice := by
  refine ⟨fun f now => ⟨fun h => launchTimes_other h now, fun h d => ?_, fun h d => ?_⟩,
    fun t a s => ⟨fun h => by simp [exec, execTransmitBoundary, h], fun h => ?_⟩⟩
  · rw [launchTimes_shaft h, if_neg (by omega)]
  · rw [launchTimes_shaft h, if_pos (by omega)]
  have run := exec_transmit h t a
  refine ⟨fun f rest hr hu fill => ?urgent, fun p rest hp hl => ?forward, fun f rest hr hu hp hb fill => ?bulk,
    fun l hl lock => ?test, fun nothing => ?idle⟩
  case urgent =>
    rw [State.arbitrate_urgent (s := s.atTime t) hr hu fill] at run
    rw [State.atTime_rp] at run
    generalize hw : State.launched .urgent f _ = w at run
    have now : w.now = max s.now t := by rw [← hw]; rfl
    have seq : w.rp.watches s.rp.seq = s.rp.watches s.rp.seq := by rw [← hw]; rfl
    obtain ⟨mc, tx, sequence, pass, bulk⟩ := State.watchLaunch_keeps s.rp.seq w
    refine ⟨_, _, rfl, run, tx.trans ?_, sequence.trans ?_, pass.trans ?_, bulk.trans ?_, mc.trans ?_,
      fun fresh => ?_, fun again len => ?_⟩
    case refine_6 =>
      have waits : w.rp.watches s.rp.seq = false := by rw [seq]; exact fresh
      rw [State.watchLaunch_fresh waits, now, ← hw, State.onRp_rp, Rp.entered_eq]
      refine ⟨rfl, ?_⟩
      rw [State.onRp, Rp.entered_eq]
      rfl
    case refine_7 =>
      have waits : w.rp.watches s.rp.seq = true := by rw [seq]; exact again
      have short : w.rp.watch.length ≤ 16 := by rw [← hw]; exact len
      have missing : (w.watchMissing s.rp.seq).rp.returnMissing = bump s.rp.returnMissing := by
        rw [(State.watchMissing_reported ..).returnMissing_eq, ← hw]
        rfl
      rw [State.watchLaunch_again waits short, now, ← hw]
      subst hw
      exact ⟨missing, rfl⟩
    all_goals rw [← hw]; rfl
  case forward =>
    rw [State.arbitrate_forward (s := s.atTime t) hp hl] at run
    exact ⟨_, rfl, run⟩
  case bulk =>
    rw [State.arbitrate_bulk (s := s.atTime t) hr hu hp hb fill] at run
    exact ⟨_, rfl, run⟩
  case test =>
    rw [run, State.arbitrate_lightCheck (s := s.atTime t) hl lock]
    rfl
  case idle =>
    rw [run, State.arbitrate_idle (s := s.atTime t) nothing]
    rfl

end Sys2Proof.Machine
end

/-! Offers waiting for the bulk lane, and the oldest entry of the return watch (R9, R22, R126). -/

section
namespace Sys2Proof.Machine

variable {s t : State}

/-! ## An offer behind the bulk lane -/

/-- A frame other than a Shaft frame joins the bulk lane at its end, or leaves it as it is (R9). -/
theorem Rp.offerBulk_prefix {f : LaneFrame} (h : f.isShaft = false) (r : Rp) : r.bulk <+: (r.offerBulk f).1.bulk := by
  unfold Rp.offerBulk
  rw [if_neg (by simp [h])]
  split
  · split <;> exact List.prefix_refl _
  · split
    · exact List.prefix_append ..
    · exact List.prefix_refl _

theorem State.offerR_prefix {f : LaneFrame} (h : f.isShaft = false) (s : State) :
    s.rp.bulk <+: (s.offerR f).1.rp.bulk := by
  unfold State.offerR
  split
  · split
    · dsimp only
      rw [Rp.offerUrgent_eq]
    · exact Rp.offerBulk_prefix h _
  · exact List.prefix_refl _

@[simp] theorem State.refusedFrame_rp (f : LaneFrame) (s : State) : (s.refusedFrame f).rp = s.rp := by
  unfold State.refusedFrame
  split
  · split <;> simp
  · rfl

theorem State.offerScreen_rp (f : LaneFrame) (s : State) : (s.offerScreen f).rp = (s.offer f).rp := by
  unfold State.offerScreen State.offer
  dsimp only
  split <;> simp

theorem State.offerAll_prefix (s : State) {fs : List LaneFrame} (h : ∀ f ∈ fs, f.isShaft = false) :
    s.rp.bulk <+: (s.offerAll fs).rp.bulk := by
  induction fs generalizing s with
  | nil => exact List.prefix_refl _
  | cons f fs ih =>
    obtain ⟨first, others⟩ := List.forall_mem_cons.mp h
    have here : s.rp.bulk <+: (s.offerScreen f).rp.bulk := by
      rw [State.offerScreen_rp]
      exact State.offerR_prefix first s
    exact here.trans (ih (s.offerScreen f) others)

@[simp] theorem State.pubAdvance_rp (s : State) : s.pubAdvance.rp = s.rp := by
  unfold State.pubAdvance
  split
  · rfl
  · split
    · rfl
    · split
      · simp [State.result_eq]
      · rfl

theorem State.pubAdvance_none (h : s.scu.pub = none) : s.pubAdvance = s := by
  unfold State.pubAdvance
  rw [h]

/-! ## The Mark Unit's send list (R126) -/

theorem LaneFrame.not_isShaft_of_correction {f : LaneFrame} (h : f.kind = .correction) : f.isShaft = false := by
  simp [LaneFrame.isShaft, h]

/-- The pump changes the Ring Port and the send list alone: the bulk lane grows at its end, the send list shrinks at its
head. -/
theorem State.muPumpN_spec (n : Nat) (s : State) (h : ∀ f ∈ s.mu.sendList, f.kind = .correction) :
    s.muPumpN n = { s with rp := (s.muPumpN n).rp, mu := (s.muPumpN n).mu } ∧
      s.rp.bulk <+: (s.muPumpN n).rp.bulk ∧ (s.muPumpN n).mu.sendList <:+ s.mu.sendList := by
  induction n generalizing s with
  | zero => exact ⟨rfl, List.prefix_refl _, List.suffix_refl _⟩
  | succ n ih =>
    unfold State.muPumpN
    split
    · exact ⟨rfl, List.prefix_refl _, List.suffix_refl _⟩
    · next f rest hl =>
      obtain ⟨first, others⟩ := List.forall_mem_cons.mp (hl ▸ h)
      have offered : s.rp.bulk <+: (s.offerR f).1.rp.bulk :=
        State.offerR_prefix (LaneFrame.not_isShaft_of_correction first) s
      have kept := State.offerR_eq f s
      dsimp only
      split
      · rw [kept]
        exact ⟨rfl, offered, List.suffix_refl _⟩
      · obtain ⟨fields, bulk, sent⟩ := ih ((s.offerR f).1.onMu fun m => { m with sendList := rest }) others
        refine ⟨?_, offered.trans bulk, sent.trans (hl ▸ List.suffix_cons f rest)⟩
        rw [fields, kept]
        rfl

theorem State.muPump_nil (h : s.mu.sendList = []) : s.muPump = s := by
  unfold State.muPump
  rw [h]
  rfl

/-! ## The offer waiting longest (R9) -/

theorem exec_bulkWait (h : s.rp.bulk.length < 32) : exec .bulkWaitAdmit s = .next s.admitWaiting := by
  simp [exec, execBulkWaitAdmit, h]

/-- The state when the first frame of a class other than 4 has entered the lane, before its block goes on. -/
def State.entering (f : LaneFrame) (c : Nat) (rest : List Nat) (s : State) : State :=
  { s with rp := { s.rp with
    bulk := s.rp.bulk ++ [f], waitList := rest, held := s.rp.held.filter fun x => x.cls != c } }

theorem State.admitWaiting_held {c : Nat} {rest : List Nat} {f : LaneFrame} {more : List LaneFrame}
    (hw : s.rp.waitList = c :: rest) (h4 : c ≠ 4) (hf : (s.rp.held.filter fun x => x.cls == c) = f :: more) :
    s.admitWaiting = ((s.entering f c rest).offerAll more).pubAdvance := by
  unfold State.admitWaiting
  split
  · next e => rw [e] at hw; cases hw
  · next e => rw [e] at hw; cases hw; exact absurd rfl h4
  · next c' rest' _ e =>
    rw [e] at hw
    cases hw
    rw [hf]
    rfl

/-- The state when the head of the send list has entered the lane. -/
def State.sending (f : LaneFrame) (more : List LaneFrame) (rest : List Nat) (s : State) : State :=
  { s with
    rp := { s.rp with bulk := s.rp.bulk ++ [f], waitList := rest }, mu := { s.mu with sendList := more } }

theorem State.admitWaiting_sendList {rest : List Nat} {f : LaneFrame} {more : List LaneFrame}
    (hw : s.rp.waitList = 4 :: rest) (hl : s.mu.sendList = f :: more) :
    s.admitWaiting = (s.sending f more rest).muPump := by
  unfold State.admitWaiting
  rw [hw, hl]
  rfl

/-! ## The oldest entry of the watch (R22) -/

theorem dropWatch_head (e : WatchEntry) (rest : List WatchEntry) : dropWatch e.sequence (e :: rest) = rest := by
  simp [dropWatch]

/-- With two missing before it, a missing return makes cause 7 true. -/
theorem State.watchMissing_true {q : Nat} (h : 2 ≤ s.rp.consecMissing) : (s.watchMissing q).causeTrue 7 0 = true := by
  have third : (s.rp.missed q).consecMissing = 3 := by
    simp only [Rp.missed]
    omega
  rw [State.watchMissing_eq, if_pos third]
  exact State.reportTrue_true ..

/-- Settles O12. -/
theorem waitingAndWatch : Obligations.WaitingAndWatch := by
  refine ⟨?nothing, ?held, ?corrections, ?missing, ?young, ?empty⟩
  case nothing =>
    rintro s (h | h)
    · simp [exec, execBulkWaitAdmit, State.admitWaiting, h]
    · simp [exec, execBulkWaitAdmit, Nat.not_lt.mpr h]
  case held =>
    intro s c rest f more room hw h4 hf
    refine ⟨_, exec_bulkWait room, ?_⟩
    rw [State.admitWaiting_held hw h4 hf]
    refine ⟨fun h => ?_, fun last idle => ?_⟩
    · have others : ∀ x ∈ more, x.isShaft = false := by
        intro x hx
        have cls : x.cls = c := by
          have mem : x ∈ s.rp.held.filter fun x => x.cls == c := by rw [hf]; exact List.mem_cons_of_mem _ hx
          simpa using (List.mem_filter.mp mem).2
        rcases h with h | h
        · rw [Bool.eq_false_iff, ne_eq, ← LaneFrame.cls_eq_one, cls]
          exact h
        · rw [h] at hx
          cases hx
      rw [State.pubAdvance_rp]
      exact State.offerAll_prefix (s.entering f c rest) others
    · subst last
      exact State.pubAdvance_none (s := s.entering f c rest) idle
  case corrections =>
    intro s rest f more room hw hl kinds
    refine ⟨_, exec_bulkWait room, ?_⟩
    rw [State.admitWaiting_sendList hw hl]
    obtain ⟨fields, bulk, sent⟩ := State.muPumpN_spec more.length (s.sending f more rest) kinds
    refine ⟨bulk, sent, fields, fun last => ?_⟩
    rw [State.muPump_nil (s := s.sending f more rest) last]
    rfl
  case missing =>
    intro t s e rest hw old
    have run : exec (.returnWatchExpiry t) s = .next ((s.atTime t).watchMissing e.sequence) := by
      simp only [exec, execReturnWatchExpiry, State.atTime_rp, hw]
      exact congrArg _ (if_pos old)
    refine ⟨_, run, ?_, fun two => State.watchMissing_true two⟩
    have told := State.watchMissing_reported e.sequence (s.atTime t)
    simpa [Rp.missed, State.onRp, hw, dropWatch_head] using told
  case young =>
    intro t s e rest hw young
    simp only [exec, execReturnWatchExpiry, State.atTime_rp, hw]
    exact congrArg _ (if_neg (Nat.not_le.mpr young))
  case empty =>
    intro t s hw
    simp only [exec, execReturnWatchExpiry, State.atTime_rp, hw]

end Sys2Proof.Machine
end

/-! A touch is routed by the content at its position (R161, R176). -/

section
namespace Sys2Proof.Machine

variable {s t : State}

/-! ## Offers of the Screen Unit -/

/-- In the ring no offer is refused (R10). -/
theorem State.offerR_ring (h : s.mc.link.inRing = true) (f : LaneFrame) : (s.offerR f).2 ≠ .refused := by
  have urgent : (s.rp.offerUrgent f).2 ≠ .refused := by
    unfold Rp.offerUrgent
    repeat' split
    all_goals simp
  have bulk : (s.rp.offerBulk f).2 ≠ .refused := by
    unfold Rp.offerBulk
    repeat' split
    all_goals simp
  unfold State.offerR
  rw [if_pos h]
  split
  · exact urgent
  · exact bulk

theorem State.offerScreen_ring (h : s.mc.link.inRing = true) (f : LaneFrame) : s.offerScreen f = s.offer f :=
  if_neg (State.offerR_ring h f)

theorem State.offerScreen_out (h : s.mc.link.inRing = false) (f : LaneFrame) : s.offerScreen f = s.refusedFrame f := by
  have refused : s.offerR f = (s, .refused) := by simp [State.offerR, h]
  unfold State.offerScreen
  rw [refused]
  rfl

/-! ## The Touch frame (R176, 10.1) -/

theorem parse_touch {page x index y : Nat} (press : Bool) (hp : page < 256) (hx : x < 256) (hi : index < 65536)
    (hy : y < 256) :
    parseTileCtl (tileCtlPayload (.touch press page x index y)) = some (.touch press page x index y) := by
  have flag : ((if press = true then 1#8 else 0#8).toNat % 2 == 1) = press := by cases press <;> rfl
  have word : index % 256 + 256 * (index / 256 % 256) = index := by omega
  simp [parseTileCtl, tileCtlPayload, rd_one, rd_two, le_two, flag, word, Nat.mod_eq_of_lt, hp, hx, hy]

/-- A Touch frame refused outside the ring becomes a local event with the flag not delivered (log 103). -/
theorem State.refused_touch {page x index y : Nat} (press : Bool) (hp : page < 256) (hx : x < 256)
    (hi : index < 65536) (hy : y < 256) (d : Nat) (s : State) :
    s.refusedFrame (wholeFrame .tileControl d (tileCtlPayload (.touch press page x index y))) =
      s.post (.touch 0 press true false page x y index) := by
  unfold State.refusedFrame
  simp only [wholeFrame, parse_touch press hp hx hi hy, if_true]

/-! ## The content at the position (R161) -/

section
variable {press : Bool} {x y : Nat}

/-- The state in which a touch is routed. -/
def State.pressed (t : Nat) (press : Bool) (s : State) : State :=
  { s.atTime t with scu := { s.scu with touchInCourse := press } }

theorem exec_touch (h : s.screen = true) (t : Nat) (press : Bool) (x y : Nat) :
    exec (.touch t press x y) s = .next ((s.pressed t press).routeTouch press x y) := by
  have screen : (s.atTime t).screen = true := h
  simp only [exec, execTouch, screen]
  rfl

theorem State.routeTouch_blank (h : s.scu.pageMap.getD (y / 32 * 32 + x / 32) .blank = .blank) :
    s.routeTouch press x y = s.post (.touch 0 press false false 0 (x % 32) (y % 32) (y / 32 * 32 + x / 32)) := by
  unfold State.routeTouch; dsimp only; rw [h]

theorem State.routeTouch_own {id : TileId} (h : s.scu.pageMap.getD (y / 32 * 32 + x / 32) .blank = .tile id)
    (own : id.publisher = s.ownStation) : s.routeTouch press x y =
      s.post (.touch s.ownStation press false false id.page (x % 32) (y % 32) id.index) := by
  unfold State.routeTouch; dsimp only; rw [h]; exact if_pos own

theorem State.routeTouch_other {id : TileId} (h : s.scu.pageMap.getD (y / 32 * 32 + x / 32) .blank = .tile id)
    (other : id.publisher ≠ s.ownStation) : s.routeTouch press x y =
      s.offerScreen (wholeFrame .tileControl id.publisher
        (tileCtlPayload (.touch press id.page (x % 32) id.index (y % 32)))) := by
  unfold State.routeTouch; dsimp only; rw [h]; exact if_neg other

theorem State.routeTouch_inset {i : Fin 2} (h : s.scu.pageMap.getD (y / 32 * 32 + x / 32) .blank = .inset i) :
    s.routeTouch press x y =
      if (s.scu.view i).shows (y / 32 * 32 + x / 32) = true then
        s.post (.touch 0 press false true i.val (x - (s.scu.view i).position % 32 * 32)
          (y - (s.scu.view i).position / 32 * 32) 0)
      else s.post (.touch 0 press false false 0 (x % 32) (y % 32) (y / 32 * 32 + x / 32)) := by
  unfold State.routeTouch; dsimp only; rw [h]

end

/-- Outside the Ring Port and the Command Port a state is as it was. -/
def State.PortsOnly (s t : State) : Prop := t = { s with rp := t.rp, cmp := t.cmp }

theorem State.PortsOnly.post (e : Event) (s : State) : s.PortsOnly (s.post e) := by
  unfold State.PortsOnly
  rw [State.post_eq]

theorem State.PortsOnly.offerScreen (f : LaneFrame) (s : State) : s.PortsOnly (s.offerScreen f) := by
  cases ring : s.mc.link.inRing
  · rw [State.offerScreen_out ring, State.refusedFrame]
    split
    · split
      · exact .post _ s
      · rfl
    · rfl
  · unfold State.PortsOnly
    rw [State.offerScreen_ring ring, State.offer_eq]

theorem State.routeTouch_portsOnly (press : Bool) (x y : Nat) (s : State) :
    s.PortsOnly (s.routeTouch press x y) := by
  cases content : s.scu.pageMap.getD (y / 32 * 32 + x / 32) .blank with
  | blank =>
    rw [State.routeTouch_blank content]
    exact .post _ s
  | tile id =>
    by_cases own : id.publisher = s.ownStation
    · rw [State.routeTouch_own content own]
      exact .post _ s
    · rw [State.routeTouch_other content own]
      exact .offerScreen _ s
  | inset i =>
    rw [State.routeTouch_inset content]
    split <;> exact .post _ s

/-- Settles O7. -/
theorem touchRouted : Obligations.TouchRouted := by
  refine fun t press x y s => ⟨fun h => ?_, fun h => ?_⟩
  · have screen : (s.atTime t).screen = false := h
    simp [exec, execTouch, screen]
  refine ⟨_, exec_touch h t press x y, State.routeTouch_portsOnly .., fun blank => ?_, fun id tile own => ?_,
    fun id tile other ring => ?_, fun id tile other page index out => ?_, fun i inset shown => ?_,
    fun i inset hidden => ?_⟩
  · rw [State.routeTouch_blank (s := s.pressed t press) blank]
    exact ⟨by simp [State.pressed], (State.post_posts _ (s.pressed t press)).congr rfl rfl⟩
  · rw [State.routeTouch_own (s := s.pressed t press) tile own]
    exact ⟨by simp [State.pressed], (State.post_posts _ (s.pressed t press)).congr rfl rfl⟩
  · rw [State.routeTouch_other (s := s.pressed t press) tile other, State.offerScreen_ring (s := s.pressed t press) ring]
    exact ⟨by rw [State.offer_eq]; rfl, State.offer_rp_congr (by rfl) (by rfl) (by rfl) _⟩
  · rw [State.routeTouch_other (s := s.pressed t press) tile other, State.offerScreen_out (s := s.pressed t press) out,
      State.refused_touch press (by omega) (by omega) (by omega) (by omega)]
    exact ⟨by simp [State.pressed], (State.post_posts _ (s.pressed t press)).congr rfl rfl⟩
  · rw [State.routeTouch_inset (s := s.pressed t press) inset, if_pos]
    · exact ⟨by simp [State.pressed], (State.post_posts _ (s.pressed t press)).congr rfl rfl⟩
    · exact shown
  · rw [State.routeTouch_inset (s := s.pressed t press) inset, if_neg]
    · exact ⟨by simp [State.pressed], (State.post_posts _ (s.pressed t press)).congr rfl rfl⟩
    · exact Bool.eq_false_iff.mp hidden

end Sys2Proof.Machine
end

/-! The READ commands: the images' forms, and what completes with the write of one (R158, R193, R194; 10.5). -/

section
namespace Sys2Proof.Machine

variable {s t : State}

/-! ## The lengths of the images (10.5) -/

@[simp] theorem length_padTo (n : Nat) (bs : List Byte) : (padTo n bs).length = n := by
  simp [padTo, fill]
  omega

@[simp] theorem length_fill (n : Nat) : (fill n).length = n := by simp [fill]

theorem slotBytes_length (r : RosterSlot) : (slotBytes r).length = 16 := by simp [slotBytes]

theorem rosterImage_length (s : State) : s.rosterImage.length = 512 := by
  simp [State.rosterImage, List.length_flatMap, slotBytes_length]

theorem firstTripBytes_length (x : Option FirstTrip) : (firstTripBytes x).length = 56 := by
  cases x <;> simp [firstTripBytes]

theorem tripImage_length (s : State) : s.tripImage.length = 1280 := by
  simp [State.tripImage, List.length_flatMap, firstTripBytes_length, State.causeBitmap]

theorem lineImage_length (s : State) : s.lineImage.length = 200 := by simp [State.lineImage]

theorem dmaRecordBytes_length (x : Option DmaError) (m : Bool) : (dmaRecordBytes x m).length = 32 := by
  cases x <;> simp [dmaRecordBytes]

theorem words_length (l : List Nat) : (l.flatMap (le 4)).length = 4 * l.length := by
  simp [List.length_flatMap, Nat.mul_comm]

theorem counters_length (s : State) : s.counters.length = 24 := rfl

theorem counterImage_length (s : State) : s.counterImage.length = 128 := by
  simp [State.counterImage, counters_length, dmaRecordBytes_length]

/-! ## What the counter image holds (R194, 10.5) -/

/-- The number at place `i` of a list of words. -/
theorem rd_words {l : List Nat} {i n : Nat} (h : l[i]? = some n) (q : List Byte) :
    rd (l.flatMap (le 4) ++ q) (4 * i) 4 = n % 4294967296 := by
  obtain ⟨hi, hn⟩ := List.getElem?_eq_some_iff.mp h
  have split : l.flatMap (le 4) ++ q =
      (l.take i).flatMap (le 4) ++ le 4 n ++ ((l.drop (i + 1)).flatMap (le 4) ++ q) := by
    conv_lhs => rw [← List.take_append_drop i l, List.drop_eq_getElem_cons hi, hn]
    simp [List.flatMap_append]
  have place : 4 * i = ((l.take i).flatMap (le 4)).length := by
    rw [words_length, List.length_take]
    omega
  rw [split, place, rd_le]
  norm_num

theorem rd_counterImage {i n : Nat} (h : s.counters[i]? = some n) (small : n < 4294967296) :
    rd s.counterImage (4 * i) 4 = n := by
  rw [State.counterImage, rd_words h, Nat.mod_eq_of_lt small]

theorem rd_counterImage_dmaErr (s : State) :
    rd s.counterImage 96 1 = if s.cmp.dmaErr.isSome = true then 1 else 0 := by
  have words : (s.counters.flatMap (le 4)).length = 96 := by rw [words_length, counters_length]
  rw [rd_one, State.counterImage, List.getD_append_right _ _ _ _ (by omega), words]
  cases s.cmp.dmaErr <;> rfl

/-! ## Taking a READ command (R193) -/

theorem State.startImage_short {a l : Nat} {image : List Byte} (h : l < image.length) :
    s.startImage a l image = { s with cmp := s.cmp.answered .normal .refusedValue 0 s.now } := by
  rw [State.startImage, if_pos h, State.result_eq]

theorem State.startImage_fits {a l : Nat} {image : List Byte} (h : image.length ≤ l) :
    s.startImage a l image = { s with cmp := s.cmp.writing a image s.now } := by
  rw [State.startImage, if_neg (Nat.not_lt.mpr h)]
  simp [State.issueWrite, State.issue, State.setWorking, State.onQ, State.onCmp, Cmp.writing, Cmp.setQ, Cmp.q]

/-- Each READ command starts the write of its own image. -/
theorem exec_read {j : Instr} {cmd : HostCmd} {a l : Nat} {image : List Byte}
    (h : (j = .readRoster ∧ cmd = .readRoster a l ∧ image = s.rosterImage) ∨
      (j = .readTripTable ∧ cmd = .readTripTable a l ∧ image = s.tripImage) ∨
      (j = .readLineState ∧ cmd = .readLineState a l ∧ image = s.lineImage) ∨
      (j = .readCounters ∧ cmd = .readCounters a l ∧ image = s.counterImage))
    (taken : s.taken .normal = some cmd) : exec j s = .next (s.startImage a l image) := by
  rcases h with ⟨rfl, rfl, rfl⟩ | ⟨rfl, rfl, rfl⟩ | ⟨rfl, rfl, rfl⟩ | ⟨rfl, rfl, rfl⟩
  · simp only [exec, execReadRoster, taken]
  · simp only [exec, execReadTripTable, taken]
  · simp only [exec, execReadLineState, taken]
  · simp only [exec, execReadCounters, taken]

/-! ## The write of an image (R158, R193, R194) -/

/-- The state in which a written image is handed to its command. -/
def State.imageBack (t : Nat) (s : State) : State :=
  { s.atTime t with cmp := s.cmp.without .imageWrite .normal }

theorem exec_imageWrite {x : Transfer} (h : s.cmp.ready .imageWrite .normal = some x) (t : Nat) :
    exec (.imageWriteComplete t true) s = .next ((s.imageBack t).imageWritten x.written) := by
  have ready : (s.atTime t).cmp.ready .imageWrite .normal = some x := h
  simp only [exec, execImageWriteComplete, State.withWrite, State.withTransfer_of_ready _ ready, if_true]
  rfl

/-- An answer leaves the events and the DMA error record. -/
theorem Cmp.answered_keeps (q : CmdQueue) (r : Result) (d now : Nat) (c : Cmp) :
    (c.answered q r d now).event = c.event ∧ (c.answered q r d now).eventsLost = c.eventsLost ∧
      (c.answered q r d now).dmaErr = c.dmaErr ∧ (c.answered q r d now).dmaMore = c.dmaMore := by
  unfold Cmp.answered
  split
  · exact ⟨rfl, rfl, rfl, rfl⟩
  · cases q <;> exact ⟨rfl, rfl, rfl, rfl⟩

/-- Posting depends on the event queue alone. -/
theorem Posts.congr_event {e : Event} {s' t' : State} (h : Posts e s t) (he : s'.cmp.event = s.cmp.event)
    (hl : s'.cmp.eventsLost = s.cmp.eventsLost) (ht : t'.cmp = t.cmp) : Posts e s' t' := by
  unfold Posts Cmp.takesEvent at *
  rw [he, hl, ht]
  exact h

/-- The state with its command answered DONE. -/
def State.imageDone (t : Nat) (s : State) : State :=
  { s.atTime t with cmp := (s.cmp.without .imageWrite .normal).answered .normal .done 0 (max s.now t) }

theorem State.imageBack_result (t : Nat) (s : State) : (s.imageBack t).result .normal .done = s.imageDone t :=
  State.result_eq ..

theorem State.imageDone_event (t : Nat) (s : State) :
    (s.imageDone t).cmp.event = s.cmp.event ∧ (s.imageDone t).cmp.eventsLost = s.cmp.eventsLost ∧
      (s.imageDone t).cmp.dmaErr = s.cmp.dmaErr ∧ (s.imageDone t).cmp.dmaMore = s.cmp.dmaMore :=
  Cmp.answered_keeps .normal .done 0 (max s.now t) (s.cmp.without .imageWrite .normal)

theorem State.imageWritten_plain {cmd : HostCmd} {a l : Nat} {image : List Byte} (h : s.working = some cmd)
    (k : cmd = .readRoster a l ∨ cmd = .readLineState a l) : s.imageWritten image = s.result .normal .done := by
  unfold State.imageWritten
  rcases k with rfl | rfl <;> rw [h]

theorem State.imageWritten_trips {a l : Nat} {image : List Byte} (h : s.working = some (.readTripTable a l)) :
    s.imageWritten image = (s.result .normal .done).closeNotice := by
  unfold State.imageWritten; rw [h]

theorem State.imageWritten_counters {a l : Nat} {image : List Byte} (h : s.working = some (.readCounters a l)) :
    s.imageWritten image = (s.result .normal .done).settleCounters image := by
  unfold State.imageWritten; rw [h]

theorem State.working_inFlight {cmd : HostCmd} (h : s.working = some cmd) :
    ∃ f, s.cmp.normal.inFlight = some f := by
  unfold State.working at h
  cases f : s.cmp.normal.inFlight with
  | none => rw [f] at h; cases h
  | some x => exact ⟨x, rfl⟩

/-! ## The notice closed (R158) -/

theorem State.closeNotice_none (h : s.tu.noticeOut = false) : s.closeNotice = s := by
  simp [State.closeNotice, h]

theorem State.closeNotice_settled (h : s.tu.noticeOut = true) (k : s.tu.changesPending = false) :
    s.closeNotice = { s with tu := { s.tu with noticeOut := false } } := by
  simp only [State.closeNotice, h, k]
  cases s
  simp_all [State.onTu]

/-- The notice of the moment. -/
def State.noticeEvent (s : State) : Event :=
  .tripNotice s.tu.table.length (s.tu.table.filter fun e => e.state == .active).length s.gateOpen s.tu.lost s.tu.more

/-- With changes pending the next notice is posted at once. -/
theorem State.closeNotice_pending (h : s.tu.noticeOut = true) (k : s.tu.changesPending = true) :
    s.closeNotice = { s with tu := { s.tu with changesPending := false }, cmp := s.closeNotice.cmp } ∧
      s.cmp.Posted s.closeNotice.cmp ∧ Posts s.noticeEvent s s.closeNotice := by
  have closed : s.closeNotice =
      ((s.onTu fun u => { u with noticeOut := false, changesPending := false }).post s.noticeEvent).onTu
        fun u => { u with noticeOut := true } := by
    simp only [State.closeNotice, h, k]
    rfl
  rw [closed]
  have posts := State.post_posts s.noticeEvent (s.onTu fun u => { u with noticeOut := false, changesPending := false })
  have posted := State.post_posted s.noticeEvent (s.onTu fun u => { u with noticeOut := false, changesPending := false })
  refine ⟨?_, posted, posts.congr rfl rfl⟩
  rw [State.post_eq]
  simp [State.onTu, ← h]

/-! ## The counters read (R194) -/

/-- Each counter loses what its place of the image recorded. -/
theorem State.subtractCounters_counters (l : List Nat) (s : State) :
    (s.subtractCounters l).counters = s.counters.mapIdx fun i n => lessRecorded (l.getD i 0) n := by
  simp only [State.counters, State.subtractCounters, List.mapIdx_cons, List.mapIdx_nil]

theorem recordedCounters_getD {i : Nat} (h : i < 24) (image : List Byte) :
    (recordedCounters image).getD i 0 = rd image (4 * i) 4 := by
  simp [recordedCounters, h]

theorem State.counters_onCmp (f : Cmp → Cmp) (h : (f s.cmp).eventsLost = s.cmp.eventsLost) :
    (s.onCmp f).counters = s.counters := by
  simp only [State.counters, State.onCmp, h]

/-- Settling changes the counters and, when the image showed it, the DMA error record. -/
theorem State.settleCounters_keeps (image : List Byte) (s : State) :
    (s.settleCounters image).mc = s.mc ∧ (s.settleCounters image).tu = s.tu ∧
      (s.settleCounters image).su.line = s.su.line ∧ (s.settleCounters image).now = s.now ∧
      (s.settleCounters image).cmp.dma = s.cmp.dma ∧ (s.settleCounters image).cmp.normal = s.cmp.normal ∧
      (s.settleCounters image).counters = (s.subtractCounters (recordedCounters image)).counters := by
  have settled : s.settleCounters image = s.subtractCounters (recordedCounters image) ∨ s.settleCounters image =
      (s.subtractCounters (recordedCounters image)).onCmp fun c => { c with dmaErr := none, dmaMore := false } := by
    unfold State.settleCounters
    split
    · exact .inr rfl
    · exact .inl rfl
  refine ⟨?_, ?_, ?_, ?_, ?_, ?_, ?_⟩
  case refine_7 =>
    rcases settled with e | e
    · rw [e]
    · rw [e]
      exact State.counters_onCmp _ (by rfl)
  all_goals rcases settled with e | e <;> rw [e] <;> simp only [State.onCmp, State.subtractCounters]

theorem State.settleCounters_counter {i n : Nat} (h : s.counters[i]? = some n) (image : List Byte) :
    (s.settleCounters image).counters[i]? =
      some (if rd image (4 * i) 4 = 4294967295 then 0 else n - rd image (4 * i) 4) := by
  obtain ⟨hi, -⟩ := List.getElem?_eq_some_iff.mp h
  obtain ⟨-, -, -, -, -, -, counters⟩ := s.settleCounters_keeps image
  rw [counters, State.subtractCounters_counters, List.getElem?_mapIdx, h, Option.map_some,
    recordedCounters_getD (by simpa [counters_length] using hi)]
  rfl

theorem State.settleCounters_dmaErr (image : List Byte) (s : State) :
    (rd image 96 1 = 1 →
      (s.settleCounters image).cmp.dmaErr = none ∧ (s.settleCounters image).cmp.dmaMore = false) ∧
    (rd image 96 1 ≠ 1 →
      (s.settleCounters image).cmp.dmaErr = s.cmp.dmaErr ∧ (s.settleCounters image).cmp.dmaMore = s.cmp.dmaMore) := by
  constructor
  · intro h
    simp only [State.settleCounters, if_pos h, State.onCmp, and_self]
  · intro h
    simp only [State.settleCounters, if_neg h, State.subtractCounters, and_self]

/-- Settles O50. -/
theorem readCommands : Obligations.ReadCommands := by
  refine ⟨?lengths, ?counters, ?dmaErr, ?taken, ?nothing, ?plain, ?trips, ?settled⟩
  case lengths =>
    exact fun s => ⟨rosterImage_length s, tripImage_length s, lineImage_length s, counterImage_length s⟩
  case counters => exact fun s i n h small => rd_counterImage h small
  case dmaErr => exact rd_counterImage_dmaErr
  case taken =>
    intro s j cmd a l image which taken
    rw [exec_read which taken]
    exact ⟨fun short => congrArg _ (State.startImage_short short),
      fun fits => congrArg _ (State.startImage_fits fits)⟩
  case nothing =>
    intro t ok s none
    have ready : (s.atTime t).cmp.ready .imageWrite .normal = Option.none := none
    simp only [exec, execImageWriteComplete, State.withWrite, State.withTransfer_of_none _ ready]
  case plain =>
    intro t s x cmd a l ready working k
    rw [exec_imageWrite ready, State.imageWritten_plain (s := s.imageBack t) working k, State.imageBack_result]
    rfl
  case trips =>
    intro t s x a l v ready working hv
    have run := exec_imageWrite ready t
    rw [State.imageWritten_trips (s := s.imageBack t) working, State.imageBack_result] at run
    obtain ⟨event, lost, -, -⟩ := s.imageDone_event t
    subst hv
    refine ⟨fun closed => ?_, fun out settled => ?_, fun out pending => ?_⟩
    · rw [run, State.closeNotice_none (s := s.imageDone t) closed]
      rfl
    · rw [run, State.closeNotice_settled (s := s.imageDone t) out settled]
      rfl
    · obtain ⟨fields, posted, posts⟩ := State.closeNotice_pending (s := s.imageDone t) out pending
      exact ⟨_, run, fields, posted, posts.congr_event event.symm lost.symm rfl⟩
  case settled =>
    intro t s x a l image ready working segs
    have run := exec_imageWrite ready t
    have bytes : x.written = image := by simp [Transfer.written, segs]
    rw [State.imageWritten_counters (s := s.imageBack t) working, State.imageBack_result, bytes] at run
    obtain ⟨-, lost, err, more⟩ := s.imageDone_event t
    obtain ⟨mc, tu, line, now, dma, normal, counters⟩ := (s.imageDone t).settleCounters_keeps image
    obtain ⟨emptied, kept⟩ := (s.imageDone t).settleCounters_dmaErr image
    have same : (s.imageDone t).counters = s.counters := by
      unfold State.counters
      rw [lost]
      rfl
    refine ⟨_, run, ?_, mc, tu, line, ?_, ?_, emptied, ?_⟩
    · obtain ⟨f, hf⟩ := State.working_inFlight working
      obtain ⟨g, hg, queue, last⟩ :=
        State.complete_answers (q := .normal) (s := s.imageBack t) (f := f) .done 0 hf
      have done : (s.imageBack t).complete .normal .done 0 = s.imageDone t := State.imageBack_result t s
      rw [done] at queue last
      refine ⟨g, hg, normal.trans queue, ?_⟩
      rw [dma, now]
      exact last
    · rw [counters, State.subtractCounters_counters, List.length_mapIdx, counters_length]
    · intro i n h
      exact State.settleCounters_counter (by rw [same]; exact h) image
    · intro shown
      rw [(kept shown).1, (kept shown).2]
      exact ⟨err, more⟩

end Sys2Proof.Machine
end

/-! The two resets, and the trip inputs they report at their end (R25, R43, R71, R96, R116, R133, R136, R160, R185, R192,
R201). -/

section
namespace Sys2Proof.Machine

variable {s t : State}

/-! ## The trip inputs reported at the end of a reset (R136) -/

/-- The inputs that a reset reports at its end, each with its level and its cause. -/
def Pins.inputs (p : Pins) : List (Bool × Nat) :=
  [(p.eStop, 0), (p.guard, 1), (p.ext.get 0, 2), (p.ext.get 1, 3), (p.ext.get 2, 4), (p.ext.get 3, 5), (p.stopKey, 20)]

/-- Inputs reported in turn. -/
def State.reportEach (l : List (Bool × Nat)) (s : State) : State := l.foldl (fun x i => x.reportInput i.1 i.2) s

theorem State.reportInputs_eq (s : State) : s.reportInputs = s.reportEach s.pins.inputs := rfl

theorem State.reportEach_cons (i : Bool × Nat) (l : List (Bool × Nat)) (s : State) :
    s.reportEach (i :: l) = (s.reportInput i.1 i.2).reportEach l := rfl

theorem State.reportInput_reported (b : Bool) (c : Nat) (s : State) : s.Reported (s.reportInput b c) :=
  .ite _ (State.reportTrue_reported ..) (.refl _)

theorem State.reportEach_reported (l : List (Bool × Nat)) (s : State) : s.Reported (s.reportEach l) :=
  .foldl (fun s (i : Bool × Nat) => s.reportInput i.1 i.2) (fun s i => State.reportInput_reported i.1 i.2 s) l s

/-- Outside MEMBER and LEAVING they send no frame. -/
theorem State.reportEach_rp (l : List (Bool × Nat)) (s : State) (h : s.mc.link.isMember = false) :
    (s.reportEach l).rp = s.rp := by
  induction l generalizing s with
  | nil => rfl
  | cons i l ih =>
    have told := State.reportInput_reported i.1 i.2 s
    have here : (s.reportInput i.1 i.2).rp = s.rp := by
      unfold State.reportInput
      split
      · exact State.reportTrue_rp_out _ _ h
      · rfl
    rw [State.reportEach_cons, ih _ (by rw [told.mc_eq]; exact h), here]

theorem State.reportEach_keeps (l : List (Bool × Nat)) (s : State) {c d : Nat} (h : s.causeTrue c d = true) :
    (s.reportEach l).causeTrue c d = true := by
  induction l generalizing s with
  | nil => exact h
  | cons i l ih =>
    refine ih (s.reportInput i.1 i.2) ?_
    unfold State.reportInput
    split
    · exact State.reportTrue_keeps c d _ _ h
    · exact h

/-- An asserted input has its cause true afterwards. -/
theorem State.reportEach_true (l : List (Bool × Nat)) (s : State) {c : Nat} (h : (true, c) ∈ l) :
    (s.reportEach l).causeTrue c 0 = true := by
  induction l generalizing s with
  | nil => cases h
  | cons i l ih =>
    rw [State.reportEach_cons]
    rcases List.mem_cons.mp h with rfl | h
    · exact State.reportEach_keeps l _ (State.reportTrue_true ..)
    · exact ih _ h

/-- With no input asserted nothing is reported. -/
theorem State.reportEach_none (l : List (Bool × Nat)) (s : State) (h : ∀ i ∈ l, i.1 = false) : s.reportEach l = s := by
  induction l generalizing s with
  | nil => rfl
  | cons i l ih =>
    obtain ⟨first, others⟩ := List.forall_mem_cons.mp h
    have here : s.reportInput i.1 i.2 = s := by simp [State.reportInput, first]
    rw [State.reportEach_cons, here, ih s others]

/-- The causes of the inputs that are asserted at the end of a reset. -/
theorem State.reportInputs_true (s : State) :
    (s.pins.eStop = true → s.reportInputs.causeTrue 0 0 = true) ∧
    (s.pins.guard = true → s.reportInputs.causeTrue 1 0 = true) ∧
    (∀ n, s.pins.ext.get n = true → s.reportInputs.causeTrue (n.val + 2) 0 = true) ∧
    (s.pins.stopKey = true → s.reportInputs.causeTrue 20 0 = true) := by
  rw [State.reportInputs_eq]
  refine ⟨fun h => ?_, fun h => ?_, fun n h => ?_, fun h => ?_⟩
  case refine_3 =>
    refine State.reportEach_true _ s ?_
    match n with
    | 0 | 1 | 2 | 3 => simp [Pins.inputs, h]
  all_goals exact State.reportEach_true _ s (by simp [Pins.inputs, h])

theorem State.reportInputs_none (h : s.pins.eStop = false) (g : s.pins.guard = false)
    (e : ∀ n, s.pins.ext.get n = false) (k : s.pins.stopKey = false) : s.reportInputs = s := by
  rw [State.reportInputs_eq, State.reportEach_none]
  simp [Pins.inputs, h, g, e, k]

theorem State.reportInputs_reported (s : State) : s.Reported s.reportInputs :=
  State.reportEach_reported s.pins.inputs s

theorem State.reportInputs_rp (h : s.mc.link.isMember = false) : s.reportInputs.rp = s.rp :=
  State.reportEach_rp s.pins.inputs s h

/-- An axis after a reset has no torque (R96), and no report changes it. -/
theorem axisResetState_off (c : Option AxisCfg) : (axisResetState c).energised = false := by
  unfold axisResetState
  split <;> rfl

/-! ## The cold reset -/

/-- The state of a cold reset before the inputs are reported. -/
def State.coldBase (t : Nat) (s : State) : State :=
  (State.cold (max s.now t) { s.pins with lock := false } s.pending).onRp fun _ => { Rp.reset with tx := s.rp.tx.cutOff }

theorem exec_coldReset (t : Nat) (s : State) : exec (.coldReset t) s = .next (s.coldBase t).reportInputs := rfl

theorem State.coldBase_axis (t : Nat) (s : State) (i : Fin 4) : (s.coldBase t).axis i = Axis.reset .disabled := by
  simp [State.axis, State.coldBase, State.cold, Au.reset, axisResetState]

/-! ## The warm reset -/

/-- The state of a warm reset before the inputs are reported. -/
def State.warmBase (t : Nat) (s : State) : State :=
  { pending := s.pending, now := max s.now t, inMc := [], inSu := [], inTu := [], inAu := [], inScu := []
    pins := { s.pins with lock := false }, cfg := s.cfg, rp := s.rp.afterReset
    mc := Mc.reset s.mc.ticks ((s.cfg.map (·.required)).getD 0), su := s.su.warm
    au := Au.reset ((s.cfg.map (·.axes)).getD (Quad.rep none)), cu := .reset, mu := .reset, tu := s.tu.warm
    scu := .reset, cmp := s.cmp.warm }

theorem exec_warmInput (t : Nat) (s : State) : exec (.warmInput t) s = .next (s.warmBase t).reportInputs := rfl

theorem State.warmBase_axis (t : Nat) (s : State) (i : Fin 4) :
    (s.warmBase t).axis i = Axis.reset (axisResetState (s.axisCfg i)) := by
  cases h : s.cfg <;> simp [State.axis, State.warmBase, Au.reset, State.axisCfg, h]

/-- Where the Shaft Unit stands after a warm reset (R71). -/
theorem Su.warm_values (u : Su) : u.warm.beat = 0 ∧ u.warm.line = Line.initial ∧ u.warm.founder = 0 ∧
    u.warm.step = .shaftIdle ∧ u.warm.adopted = false := by
  unfold Su.warm
  split <;> exact ⟨rfl, rfl, rfl, rfl, rfl⟩

theorem Su.warm_inTick {u : Su} (h : u.inTick = true) :
    u.warm.inTick = true ∧ u.warm.tickEnd = u.tickEnd ∧ u.warm.beatZeroDue = true := by
  rw [Su.warm, if_pos h]
  exact ⟨rfl, rfl, rfl⟩

/-- The Shaft Unit's counters are 0 after it. -/
theorem Su.warm_counters (u : Su) : u.warm.beatUnmatched = 0 ∧ u.warm.transitSaturated = 0 ∧ u.warm.offsetBeyond = 0 ∧
    u.warm.snapshotMismatch = 0 ∧ u.warm.ignoredSpeed = 0 ∧ u.warm.lateChanges = 0 ∧ u.warm.droppedEntries = 0 := by
  unfold Su.warm
  split <;> exact ⟨rfl, rfl, rfl, rfl, rfl, rfl, rfl⟩

theorem State.warmBase_counters (t : Nat) (s : State) : (s.warmBase t).counters = List.replicate 24 0 := by
  obtain ⟨unmatched, saturated, beyond, mismatch, ignored, late, dropped⟩ := s.su.warm_counters
  simp only [State.counters, State.warmBase, unmatched, saturated, beyond, mismatch, ignored, late, dropped]
  rfl

/-- Of the Command Port a report touches the event queue and the transfers. -/
theorem State.Reported.q_eq (h : s.Reported t) (q : CmdQueue) : t.cmp.q q = s.cmp.q q := by
  rw [h.port.fields]
  cases q <;> rfl

/-- A command queue after a warm reset: its commands are abandoned, its head is its tail (R192). -/
theorem Cmp.warm_q (c : Cmp) (q : CmdQueue) : c.warm.q q =
    { c.q q with
      head := (c.q q).tail, fetching := false, waitTail := false, inFlight := (c.warm.q q).inFlight } := by
  cases q <;> rfl

/-- Settles O4: each reset reports the inputs on a state that stands outside the ring and without torque. -/
theorem resetSteps : Obligations.ResetSteps := by
  refine ⟨fun t s => ?cold, fun t s => ?warm⟩
  case cold =>
    have told := (s.coldBase t).reportInputs_reported
    have off (i : Fin 4) : ((s.coldBase t).axis i).state.energised = false := by
      rw [State.coldBase_axis]; rfl
    refine ⟨_, exec_coldReset t s, told, State.reportInputs_rp (by rfl), fun i => ?_, (s.coldBase t).reportInputs_true⟩
    rw [told.axis_eq (off i), State.coldBase_axis]
  case warm =>
    have told := (s.warmBase t).reportInputs_reported
    have off (i : Fin 4) : ((s.warmBase t).axis i).state.energised = false := by
      rw [State.warmBase_axis]; exact axisResetState_off _
    obtain ⟨beat, line, founder, stepState, adopted⟩ := s.su.warm_values
    refine ⟨_, exec_warmInput t s, told.pending_eq, told.now_eq, told.pins_eq, told.cfg_eq,
      State.reportInputs_rp (by rfl), told.mc_eq, told.cu_eq, told.mu_eq, told.scu_eq, told.inMc_eq, told.inSu_eq,
      told.inTu_eq, told.inAu_eq, told.inScu_eq, ?_, ?_, ?_, ?_, ?_,
      fun ticking => ?_, fun i => ?_, fun filled => ?_, ?_, fun q => ?_, ?_, ?_, ?_, fun idle => ?_,
      fun noStop noGuard noExt noKey => ?_, ?_, (s.warmBase t).reportInputs_true⟩
    · rw [told.shaft]
      exact beat
    · rw [told.shaft]
      exact line
    · rw [told.shaft]
      exact founder
    · rw [told.shaft]
      exact stepState
    · rw [told.shaft]
      exact adopted
    · rw [told.shaft]
      exact Su.warm_inTick ticking
    · rw [told.axis_eq (off i), State.warmBase_axis]
    · exact told.first filled
    · rw [told.port.fields]
      rfl
    · rw [told.q_eq]
      exact Cmp.warm_q s.cmp q
    · exact congrArg CmdQ.inFlight (told.q_eq .urgent)
    · rw [told.port.fields]
      rfl
    · rw [told.port.fields]
      rfl
    · refine (congrArg CmdQ.inFlight (told.q_eq .normal)).trans ?_
      exact if_neg (Bool.eq_false_iff.mp idle)
    · have nothing : (s.warmBase t).reportInputs = s.warmBase t :=
        State.reportInputs_none (s := s.warmBase t) noStop noGuard noExt noKey
      rw [nothing]
      exact ⟨rfl, rfl, rfl, rfl, State.warmBase_counters t s, rfl⟩
    · rw [told.port.fields]
      rfl

end Sys2Proof.Machine
end

/-! What the operations of a roster-beat start do: frames offered in turn, entries of the trip table, a cause that becomes
false (R142, R149, R150). -/

section
namespace Sys2Proof.Machine

variable {s t : State}

/-! ## Frames offered in turn -/

/-- Frames offered in turn, their producer doing nothing about the answers. -/
def State.offers (fs : List LaneFrame) (s : State) : State := fs.foldl (fun x f => x.offer f) s

@[simp] theorem State.offers_nil (s : State) : s.offers [] = s := rfl

theorem State.offers_cons (f : LaneFrame) (fs : List LaneFrame) (s : State) :
    s.offers (f :: fs) = (s.offer f).offers fs := rfl

theorem State.offers_append (fs gs : List LaneFrame) (s : State) :
    s.offers (fs ++ gs) = (s.offers fs).offers gs := List.foldl_append

theorem State.offers_eq (fs : List LaneFrame) (s : State) : s.offers fs = { s with rp := (s.offers fs).rp } := by
  induction fs generalizing s with
  | nil => rfl
  | cons f fs ih =>
    rw [State.offers_cons, ih, State.offer_eq]

theorem State.offers_rp_congr (hr : t.rp = s.rp) (hl : t.mc.link = s.mc.link) (hc : t.cfg = s.cfg)
    (fs : List LaneFrame) : (t.offers fs).rp = (s.offers fs).rp := by
  induction fs generalizing s t with
  | nil => exact hr
  | cons f fs ih =>
    have link (x : State) : (x.offer f).mc.link = x.mc.link := by rw [State.offer_eq]
    have cfg (x : State) : (x.offer f).cfg = x.cfg := by rw [State.offer_eq]
    exact ih (State.offer_rp_congr hr hl hc f) (by rw [link, link, hl]) (by rw [cfg, cfg, hc])

/-- Frames offered by a state whose Ring Port is as other frames left it. -/
theorem State.offers_offers_rp {fs : List LaneFrame} (hr : t.rp = (s.offers fs).rp) (hl : t.mc.link = s.mc.link)
    (hc : t.cfg = s.cfg) (gs : List LaneFrame) : (t.offers gs).rp = (s.offers (fs ++ gs)).rp := by
  rw [State.offers_append]
  exact State.offers_rp_congr hr (hl.trans (by rw [State.offers_eq])) (hc.trans (by rw [State.offers_eq])) gs

/-! ## Entries of the trip table (R138) -/

section
variable {k k' : TripKey} {e : TripEntry} {f : TripEntry → TripEntry} {u : Tu}

/-- An entry is found among changed entries where it was, when no change touches its key. -/
theorem Tu.entry_map (h : ∀ x, (f x).key = x.key) (k : TripKey) (u : Tu) :
    Tu.entry k { u with table := u.table.map f } = (u.entry k).map f := by
  unfold Tu.entry
  rw [List.find?_map]
  congr 2
  funext x
  simp [h]

theorem Tu.entry_key (h : u.entry k = some e) : e.key = k := by
  unfold Tu.entry at h
  simpa using List.find?_some h

theorem Tu.entry_onEntry_same (h : ∀ x, (f x).key = x.key) (he : u.entry k = some e) :
    (u.onEntry k f).entry k = some (f e) := by
  have keys (x : TripEntry) : (if x.key == k then f x else x).key = x.key := by split <;> simp [h]
  have key : (e.key == k) = true := by simp [Tu.entry_key he]
  rw [Tu.onEntry, Tu.entry_map keys, he, Option.map_some, if_pos key]

theorem Tu.entry_onEntry_ne (h : ∀ x, (f x).key = x.key) (ne : k ≠ k') : (u.onEntry k' f).entry k = u.entry k := by
  have keys (x : TripEntry) : (if x.key == k' then f x else x).key = x.key := by split <;> simp [h]
  rw [Tu.onEntry, Tu.entry_map keys]
  cases he : u.entry k with
  | none => rfl
  | some e =>
    simp [Tu.entry_key he, ne]

end

/-! ## A trip cleared (R142) -/

@[simp] theorem State.markChange_table (s : State) : s.markChange.tu.table = s.tu.table := by
  unfold State.markChange
  split <;> simp [State.postNotice]

@[simp] theorem State.markChange_au (s : State) : s.markChange.au = s.au := by
  unfold State.markChange
  split <;> simp [State.postNotice]

theorem State.clearTrip_axes (k : TripKey) (s : State) : (s.clearTrip k).au.axes = s.au.axes := by
  unfold State.clearTrip
  split
  · rfl
  · split
    · rfl
    · rw [State.markChange_au]; rfl

/-- The entries of other keys stay. -/
theorem State.clearTrip_entry {k k' : TripKey} (ne : k ≠ k') (s : State) :
    (s.clearTrip k').tu.entry k = s.tu.entry k := by
  have table (x y : State) (h : x.tu.table = y.tu.table) : x.tu.entry k = y.tu.entry k := by simp only [Tu.entry, h]
  unfold State.clearTrip
  split
  · rfl
  · split
    · rfl
    · rw [table _ _ (State.markChange_table _)]
      exact Tu.entry_onEntry_ne (fun _ => rfl) ne

/-! ## A cause that becomes false (R150) -/

/-- The CLEAR frame of a cause that is true. -/
def State.clearFrames (c d : Nat) (s : State) : List LaneFrame :=
  if s.unmasked c = true ∧ (s.causeEntry c).2 = .ring then
    ((s.tu.causes.find? fun x => x.cause == c && x.detail == d).map
      fun x => s.tripFrame .clear c d x.beat x.founder).toList
  else []

/-- Which causes are true after a report that one is false, its cause in the list or not. -/
theorem State.reportFalse_causes (c d : Nat) (s : State) :
    (s.reportFalse c d).tu.causes = s.tu.causes.filter fun x => !(x.cause == c && x.detail == d) := by
  unfold State.reportFalse
  split
  · unfold State.causeOff
    split
    · next none =>
      rw [List.find?_eq_none] at none
      refine (List.filter_eq_self.mpr fun x hx => ?_).symm
      simpa [imp_iff_not_or] using none x hx
    · dsimp only
      split
      · split <;> simp
      · rfl
  · next absent =>
    refine (List.filter_eq_self.mpr fun x hx => ?_).symm
    have other := List.any_eq_false.mp (Bool.eq_false_iff.mpr absent) x hx
    simpa [imp_iff_not_or] using other

/-- The axes, and the entries of other keys, are as they were. -/
theorem State.reportFalse_keeps (c d : Nat) (s : State) : (s.reportFalse c d).au.axes = s.au.axes ∧
    ∀ k : TripKey, k ≠ ⟨s.ownStation, c, d⟩ → (s.reportFalse c d).tu.entry k = s.tu.entry k := by
  unfold State.reportFalse
  split
  · unfold State.causeOff
    split
    · exact ⟨rfl, fun _ _ => rfl⟩
    · dsimp only
      split
      · split
        · rw [State.offer_eq]
          exact ⟨State.clearTrip_axes .., fun k ne => State.clearTrip_entry ne _⟩
        · exact ⟨State.clearTrip_axes .., fun k ne => State.clearTrip_entry ne _⟩
      · exact ⟨rfl, fun _ _ => rfl⟩
  · exact ⟨rfl, fun _ _ => rfl⟩

theorem State.tripFrame_congr (h : t.cfg = s.cfg) (a : TripAction) (c d b f : Nat) :
    t.tripFrame a c d b f = s.tripFrame a c d b f := by
  simp only [State.tripFrame, State.causeEntry, State.ownStation, h]

/-- The state in which a cause that becomes false has left the causes and its trip is cleared. -/
def State.cleared (c d : Nat) (s : State) : State :=
  (s.onTu fun u => { u with causes := u.causes.filter fun x => !(x.cause == c && x.detail == d) }).clearTrip
    ⟨s.ownStation, c, d⟩

theorem State.cleared_keeps (c d : Nat) (s : State) :
    (s.cleared c d).rp = s.rp ∧ (s.cleared c d).mc = s.mc ∧ (s.cleared c d).cfg = s.cfg := by
  have told := State.clearTrip_reported ⟨s.ownStation, c, d⟩
    (s.onTu fun u => { u with causes := u.causes.filter fun x => !(x.cause == c && x.detail == d) })
  exact ⟨State.clearTrip_rp .., told.mc_eq, told.cfg_eq⟩

/-- What a cause that is true does when it becomes false (R150). -/
theorem State.causeOff_eq {c d : Nat} {x : OwnCause}
    (h : (s.tu.causes.find? fun y => y.cause == c && y.detail == d) = some x) : s.causeOff c d =
      if s.unmasked c = true then
        if (s.cleared c d).sendsTrips c = true then
          (s.cleared c d).offer ((s.cleared c d).tripFrame .clear c d x.beat x.founder)
        else s.cleared c d
      else s.onTu fun u => { u with causes := u.causes.filter fun y => !(y.cause == c && y.detail == d) } := by
  unfold State.causeOff
  rw [h]
  rfl

/-- In MEMBER and LEAVING a cause that becomes false offers its CLEAR frame. -/
theorem State.reportFalse_rp (h : s.mc.link.isMember = true) (c d : Nat) :
    (s.reportFalse c d).rp = (s.offers (s.clearFrames c d)).rp := by
  cases found : s.tu.causes.find? fun x => x.cause == c && x.detail == d with
  | none =>
    have unchanged : s.reportFalse c d = s := by
      unfold State.reportFalse State.causeOff
      rw [found]
      split <;> rfl
    simp [unchanged, State.clearFrames, found]
  | some x =>
    have here := List.find?_some found
    have present : s.causeTrue c d = true := List.any_eq_true.mpr ⟨x, List.mem_of_find?_eq_some found, here⟩
    have run : s.reportFalse c d = s.causeOff c d := if_pos present
    obtain ⟨rp, mc, cfg⟩ := s.cleared_keeps c d
    have sends : (s.cleared c d).sendsTrips c = ((s.causeEntry c).2 == .ring) := by
      simp [State.sendsTrips, State.causeEntry, mc, cfg, h]
    rw [run, State.causeOff_eq found, sends, State.tripFrame_congr cfg, State.clearFrames, found]
    by_cases unmasked : s.unmasked c = true
    · by_cases ring : (s.causeEntry c).2 = .ring
      · simpa [unmasked, ring, State.offers_cons] using State.offer_rp_congr rp (by rw [mc]) cfg _
      · simpa [unmasked, ring] using rp
    · simp [unmasked]

/-- Outside them nothing is sent. -/
theorem State.reportFalse_rp_out (h : s.mc.link.isMember = false) (c d : Nat) : (s.reportFalse c d).rp = s.rp := by
  unfold State.reportFalse
  split
  · unfold State.causeOff
    split
    · rfl
    · dsimp only
      split
      · rw [if_neg]
        · simp
        · simp [State.sendsTrips, (State.clearTrip_reported ..).mc_eq, h]
      · rfl
  · rfl

end Sys2Proof.Machine
end

/-! A roster-beat start: silences, quiet counts and the listen count step, and its frames are offered (R23, R32, R34, R36, R41,
R65, R143, R149, R150, R183). -/

section
namespace Sys2Proof.Machine

variable {s t : State}

/-! ## The counts, before the frames of the roster beat -/

/-- The state when the counts of a roster-beat start have stepped, before the listen count and the frames. -/
def State.beatCounted (s : State) : State :=
  (((s.onSu fun u => { u with rosterDue := false }).stepSilences.rollErrorWindow).stepDuplicate).stepQuiet

theorem exec_rosterBeat (h : s.su.rosterDue = true) :
    exec .rosterBeatStart s = .next s.beatCounted.stepListen.offerRefreshes.repeatViews := by
  simp only [exec, execRosterBeatStart, h]
  rfl

/-- The state with the receiver-error window emptied. -/
def State.windowEmptied (s : State) : State := { s with rp := { s.rp with errWindow := 0 } }

theorem State.stepDuplicate_eq (s : State) : s.stepDuplicate = { s with mc := s.stepDuplicate.mc } := by
  unfold State.stepDuplicate
  split <;> rfl

theorem State.stepQuiet_eq (s : State) : s.stepQuiet = { s with tu := s.stepQuiet.tu } := by
  unfold State.stepQuiet
  split <;> rfl

/-- The state whose receiver-error window is rolled. -/
def State.beatSilenced (s : State) : State := (s.onSu fun u => { u with rosterDue := false }).stepSilences

/-- A quiet window makes cause 9 detail 0 false. -/
theorem State.rollErrorWindow_eq (s : State) : s.rollErrorWindow =
    if s.rp.errWindow = 0 then s.windowEmptied.reportFalse 9 0 else s.windowEmptied := by
  unfold State.rollErrorWindow
  by_cases h : s.rp.errWindow = 0 <;> simp [h, State.windowEmptied, State.onRp]

theorem State.rolled_reported (s : State) : s.windowEmptied.Reported s.rollErrorWindow := by
  rw [State.rollErrorWindow_eq]
  exact .ite _ (State.reportFalse_reported ..) (.refl _)

theorem State.rolled_causes (s : State) : s.rollErrorWindow.tu.causes =
    s.tu.causes.filter fun x => !(s.rp.errWindow == 0 && (x.cause == 9 && x.detail == 0)) := by
  rw [State.rollErrorWindow_eq]
  by_cases quiet : s.rp.errWindow = 0
  · rw [if_pos quiet, State.reportFalse_causes]
    simp [quiet, State.windowEmptied]
  · have busy : (s.rp.errWindow == 0) = false := by simpa using quiet
    rw [if_neg quiet]
    simp [busy, State.windowEmptied]

theorem State.rolled_keeps (s : State) : s.rollErrorWindow.au.axes = s.au.axes ∧ ∀ k : TripKey,
    ¬(s.rp.errWindow = 0 ∧ k = ⟨s.ownStation, 9, 0⟩) → s.rollErrorWindow.tu.entry k = s.tu.entry k := by
  rw [State.rollErrorWindow_eq]
  split
  · next quiet =>
    obtain ⟨axes, entries⟩ := s.windowEmptied.reportFalse_keeps 9 0
    exact ⟨axes, fun k other => entries k fun e => other ⟨quiet, e⟩⟩
  · exact ⟨rfl, fun _ _ => rfl⟩

/-- The CLEAR frame of a window that was empty. -/
def State.windowClears (s : State) : List LaneFrame := if s.rp.errWindow = 0 then s.clearFrames 9 0 else []

theorem State.rolled_rp (s : State) : s.rollErrorWindow.rp =
    if s.mc.link.isMember = true then (s.windowEmptied.offers s.windowClears).rp else s.windowEmptied.rp := by
  rw [State.rollErrorWindow_eq, State.windowClears]
  by_cases quiet : s.rp.errWindow = 0
  · cases member : s.mc.link.isMember
    · rw [if_pos quiet]
      exact State.reportFalse_rp_out (s := s.windowEmptied) member 9 0
    · rw [if_pos quiet, if_pos quiet]
      exact State.reportFalse_rp (s := s.windowEmptied) member 9 0
  · simp [quiet]

/-! ### The counted state -/

theorem State.beatCounted_eq (s : State) : s.beatCounted =
    { s.beatSilenced.rollErrorWindow with mc := s.beatCounted.mc, tu := s.beatCounted.tu } := by
  have counted : s.beatCounted = s.beatSilenced.rollErrorWindow.stepDuplicate.stepQuiet := rfl
  rw [counted, State.stepQuiet_eq, State.stepDuplicate_eq]

theorem State.beatSilenced_eq (s : State) : s.beatSilenced =
    { s with su := { s.su with rosterDue := false }, mc := { s.mc with roster := s.beatSilenced.mc.roster } } := by
  unfold State.beatSilenced State.stepSilences
  split <;> rfl

/-- What the counts leave as it is. -/
theorem State.beatCounted_keeps (s : State) : s.beatCounted.cfg = s.cfg ∧ s.beatCounted.now = s.now ∧
    s.beatCounted.scu = s.scu ∧ s.beatCounted.au.axes = s.au.axes ∧ s.beatCounted.su.rosterDue = false ∧
    s.beatCounted.su.line = s.su.line ∧ s.beatCounted.su.step = s.su.step ∧ s.beatCounted.su.founder = s.su.founder ∧
    s.beatCounted.su.rosterSinceMember = s.su.rosterSinceMember ∧ s.beatCounted.rp.errWindow = 0 := by
  have told := s.beatSilenced.rolled_reported
  have axes := s.beatSilenced.rolled_keeps.1
  rw [State.beatCounted_eq]
  dsimp only
  rw [told.cfg_eq, told.now_eq, told.scu_eq, axes, told.shaft, told.ring]
  unfold State.windowEmptied
  rw [State.beatSilenced_eq]
  exact ⟨rfl, rfl, rfl, rfl, rfl, rfl, rfl, rfl, rfl, rfl⟩

/-- Of the Membership Controller the counts change the roster's silences and the duplicate watch (R36, R41). -/
theorem State.beatCounted_mc (s : State) : s.beatCounted.mc =
    { s.mc with
      roster := s.beatSilenced.mc.roster, dupHeard := false
      dupQuiet := if s.mc.link = .member ∧ s.causeTrue 9 1 = true then
          if s.mc.dupHeard = true then 0 else min (s.mc.dupQuiet + 1) 4
        else s.mc.dupQuiet } := by
  have told := s.beatSilenced.rolled_reported
  have mc : s.beatSilenced.rollErrorWindow.mc = { s.mc with roster := s.beatSilenced.mc.roster } := by
    rw [told.mc_eq, State.windowEmptied, State.beatSilenced_eq]
  have duplicate : s.beatSilenced.rollErrorWindow.causeTrue 9 1 = s.causeTrue 9 1 := by
    rw [State.rollErrorWindow_eq]
    split
    · rw [State.reportFalse_causeTrue, State.windowEmptied, State.beatSilenced_eq]
      simp [State.causeTrue]
    · rw [State.windowEmptied, State.beatSilenced_eq]
      rfl
  have counted : s.beatCounted = s.beatSilenced.rollErrorWindow.stepDuplicate.stepQuiet := rfl
  rw [counted, State.stepQuiet_eq]
  unfold State.stepDuplicate
  rw [duplicate, mc]
  by_cases h : s.mc.link = .member ∧ s.causeTrue 9 1 = true
  · simp only [h, if_true, State.onMc, mc, and_self]
  · simp only [h, if_false, State.onMc, mc]

theorem State.beatCounted_rp (s : State) : s.beatCounted.rp =
    if s.mc.link.isMember = true then (s.windowEmptied.offers s.windowClears).rp else s.windowEmptied.rp := by
  have clears : s.beatSilenced.windowClears = s.windowClears := by
    rw [State.beatSilenced_eq]
    rfl
  have empty : s.beatSilenced.windowEmptied.rp = s.windowEmptied.rp := by rw [State.beatSilenced_eq]; rfl
  have link : s.beatSilenced.mc.link = s.mc.link := by rw [State.beatSilenced_eq]
  have cfg : s.beatSilenced.cfg = s.cfg := by rw [State.beatSilenced_eq]
  rw [State.beatCounted_eq, State.rolled_rp, clears, empty, link]
  split
  · exact State.offers_rp_congr empty link cfg _
  · rfl

theorem State.beatCounted_causes (s : State) : s.beatCounted.tu.causes =
    s.tu.causes.filter fun x => !(s.rp.errWindow == 0 && (x.cause == 9 && x.detail == 0)) := by
  have counted : s.beatCounted = s.beatSilenced.rollErrorWindow.stepDuplicate.stepQuiet := rfl
  have quiet (x : State) : x.stepQuiet.tu.causes = x.tu.causes := by unfold State.stepQuiet; split <;> rfl
  rw [counted, quiet, State.stepDuplicate_eq, State.rolled_causes, State.beatSilenced_eq]

/-- What a roster-beat start makes of an entry of the trip table before its frames (R143). -/
def TripEntry.quieted (inRing : Bool) (own : Nat) (e : TripEntry) : TripEntry :=
  if inRing && e.state == .active && e.key.origin != own then { e with quiet := min (e.quiet + 1) 6 } else e

theorem State.stepQuiet_entry {k : TripKey} {x : TripEntry} (h : s.tu.entry k = some x) :
    s.stepQuiet.tu.entry k = some (x.quieted s.mc.link.inRing s.ownStation) := by
  unfold State.stepQuiet
  by_cases ring : s.mc.link.inRing = true
  · rw [if_pos ring]
    refine (Tu.entry_map (fun y => ?_) k s.tu).trans ?_
    · split <;> rfl
    · rw [h, ring]
      rfl
  · rw [if_neg ring, h]
    simp [TripEntry.quieted, ring]

theorem State.beatCounted_entry {k : TripKey} {x : TripEntry} (h : s.tu.entry k = some x)
    (other : ¬(s.rp.errWindow = 0 ∧ k = ⟨s.ownStation, 9, 0⟩)) :
    s.beatCounted.tu.entry k = some (x.quieted s.mc.link.inRing s.ownStation) := by
  have counted : s.beatCounted = s.beatSilenced.rollErrorWindow.stepDuplicate.stepQuiet := rfl
  have told := s.beatSilenced.rolled_reported
  have entry : s.beatSilenced.rollErrorWindow.tu.entry k = some x := by
    rw [s.beatSilenced.rolled_keeps.2 k (by rw [State.beatSilenced_eq]; exact other), State.beatSilenced_eq]
    exact h
  have mc : s.beatSilenced.rollErrorWindow.mc.link = s.mc.link := by
    rw [told.mc_eq, State.windowEmptied, State.beatSilenced_eq]
  have own : s.beatSilenced.rollErrorWindow.ownStation = s.ownStation := by
    rw [State.ownStation, told.cfg_eq, State.windowEmptied, State.beatSilenced_eq]
    rfl
  have link : s.beatSilenced.rollErrorWindow.stepDuplicate.mc.link = s.mc.link := by
    rw [← mc]
    unfold State.stepDuplicate
    split <;> rfl
  have dup : s.beatSilenced.rollErrorWindow.stepDuplicate.ownStation = s.ownStation := by
    rw [← own, State.stepDuplicate_eq]
    rfl
  rw [counted, State.stepQuiet_entry (x := x) (by rw [State.stepDuplicate_eq]; exact entry), link, dup]

/-! ## The listen count and the Hello (R32, R34, R65) -/

theorem State.stepListen_member (h : s.mc.link = .member) :
    s.stepListen = s.countSinceMember.offers [s.helloFrame] := by
  unfold State.stepListen
  rw [h]
  rfl

theorem State.stepListen_leaving (h : s.mc.link = .leaving) : s.stepListen = s.countSinceMember := by
  unfold State.stepListen
  rw [h]

theorem State.stepListen_listen (h : s.mc.link = .listen) :
    s.stepListen = State.offers (if s.mc.listen + 1 < 3 then [s.helloFrame] else [])
      { s with mc := { s.mc with listen := min (s.mc.listen + 1) 3 } } := by
  unfold State.stepListen
  rw [h]
  have third : min (s.mc.listen + 1) 3 < 3 ↔ s.mc.listen + 1 < 3 := by omega
  simp only [State.onMc, third]
  split <;> rfl

theorem State.stepListen_out (h : s.mc.link.inRing = false) : s.stepListen = s := by
  unfold State.stepListen
  cases hl : s.mc.link <;> simp_all [LinkState.inRing]

/-- The listen count after a roster-beat start (R32). -/
def State.listenNext (s : State) : Nat := if s.mc.link = .listen then min (s.mc.listen + 1) 3 else s.mc.listen

/-- The roster beats since MEMBER after a roster-beat start (R65). -/
def State.sinceNext (s : State) : Nat :=
  if s.mc.link.isMember = true then min (s.su.rosterSinceMember + 1) 3 else s.su.rosterSinceMember

/-- Beside the Ring Port the listen count and the starts since MEMBER step. -/
theorem State.stepListen_eq (s : State) : s.stepListen = { s with
    rp := s.stepListen.rp, mc := { s.mc with listen := s.listenNext }
    su := { s.su with rosterSinceMember := s.sinceNext } } := by
  cases hl : s.mc.link
  case listen =>
    have listen : s.listenNext = min (s.mc.listen + 1) 3 := by simp [State.listenNext, hl]
    have since : s.sinceNext = s.su.rosterSinceMember := by simp [State.sinceNext, hl, LinkState.isMember]
    rw [State.stepListen_listen hl, State.offers_eq, listen, since]
  case member =>
    have listen : s.listenNext = s.mc.listen := by simp [State.listenNext, hl]
    have since : s.sinceNext = min (s.su.rosterSinceMember + 1) 3 := by simp [State.sinceNext, hl, LinkState.isMember]
    rw [State.stepListen_member hl, State.offers_eq, listen, since]
    rfl
  case leaving =>
    have listen : s.listenNext = s.mc.listen := by simp [State.listenNext, hl]
    have since : s.sinceNext = min (s.su.rosterSinceMember + 1) 3 := by simp [State.sinceNext, hl, LinkState.isMember]
    rw [State.stepListen_leaving hl, listen, since]
    rfl
  all_goals
    have listen : s.listenNext = s.mc.listen := by simp [State.listenNext, hl]
    have since : s.sinceNext = s.su.rosterSinceMember := by simp [State.sinceNext, hl, LinkState.isMember]
    rw [State.stepListen_out (by rw [hl]; rfl), listen, since]

/-! ## The REFRESH frames (R149) -/

/-- The REFRESH frame of an own cause. -/
def State.refreshFrame (s : State) (c : OwnCause) : LaneFrame := s.tripFrame .refresh c.cause c.detail c.beat c.founder

/-- An entry whose refresh count is stepped. -/
def TripEntry.refreshed (e : TripEntry) : TripEntry := { e with refresh := min (e.refresh + 1) 255 }

/-- The Trip Unit with the entry of each own cause stepped in turn. -/
def Tu.refreshAll (own : Nat) (l : List OwnCause) (u : Tu) : Tu :=
  l.foldl (fun u c => u.onEntry ⟨own, c.cause, c.detail⟩ TripEntry.refreshed) u

theorem State.refreshCause_eq (s : State) (c : OwnCause) : s.refreshCause c = { s with
    rp := (s.offer (s.refreshFrame c)).rp
    tu := s.tu.onEntry ⟨s.ownStation, c.cause, c.detail⟩ TripEntry.refreshed } := by
  have offered : s.refreshCause c = (s.offer (s.refreshFrame c)).onTu
      fun u => u.onEntry ⟨s.ownStation, c.cause, c.detail⟩ TripEntry.refreshed := rfl
  rw [offered, State.offer_eq]
  rfl

theorem State.refreshes_eq (l : List OwnCause) (s : State) : l.foldl State.refreshCause s =
    { s with rp := (s.offers (l.map s.refreshFrame)).rp, tu := s.tu.refreshAll s.ownStation l } := by
  induction l generalizing s with
  | nil => rfl
  | cons c l ih =>
    have cfg : (s.refreshCause c).cfg = s.cfg := by rw [State.refreshCause_eq]
    have frames : (s.refreshCause c).refreshFrame = s.refreshFrame := by
      funext x
      exact State.tripFrame_congr cfg ..
    have own : (s.refreshCause c).ownStation = s.ownStation := by rw [State.ownStation, State.ownStation, cfg]
    have rp : ((s.refreshCause c).offers (l.map s.refreshFrame)).rp =
        (s.offers ((c :: l).map s.refreshFrame)).rp := by
      rw [List.map_cons, State.offers_cons, State.refreshCause_eq]
      exact State.offers_rp_congr (by rfl) (by rw [State.offer_eq]) (by rw [State.offer_eq]) _
    rw [List.foldl_cons, ih, frames, own, rp, State.refreshCause_eq]
    rfl

/-- An entry stepped `n` times. -/
def TripEntry.refreshedBy (n : Nat) (e : TripEntry) : TripEntry :=
  if 0 < n then { e with refresh := min (e.refresh + n) 255 } else e

theorem TripEntry.refreshedBy_refreshed (n : Nat) (e : TripEntry) :
    e.refreshed.refreshedBy n = e.refreshedBy (n + 1) := by
  unfold TripEntry.refreshedBy TripEntry.refreshed
  by_cases h : 0 < n
  · simp [h]
    omega
  · have none : n = 0 := by omega
    simp [none]

/-- The entry of an own cause is stepped once for every time the cause is listed. -/
theorem Tu.refreshAll_own (l : List OwnCause) {u : Tu} {k : TripKey} {x : TripEntry} {own : Nat}
    (h : u.entry k = some x) (ho : k.origin = own) : (u.refreshAll own l).entry k =
      some (x.refreshedBy (l.filter fun c => c.cause == k.cause && c.detail == k.detail).length) := by
  induction l generalizing u x with
  | nil => exact h
  | cons c l ih =>
    have step : u.refreshAll own (c :: l) =
        (u.onEntry ⟨own, c.cause, c.detail⟩ TripEntry.refreshed).refreshAll own l := rfl
    rw [step, List.filter_cons]
    by_cases same : (c.cause == k.cause && c.detail == k.detail) = true
    · have key : k = ⟨own, c.cause, c.detail⟩ := by
        simp only [Bool.and_eq_true, beq_iff_eq] at same
        rw [same.1, same.2, ← ho]
      have stepped : (u.onEntry ⟨own, c.cause, c.detail⟩ TripEntry.refreshed).entry k = some x.refreshed := by
        rw [← key]
        exact Tu.entry_onEntry_same (fun _ => rfl) h
      rw [ih stepped, if_pos same, List.length_cons, TripEntry.refreshedBy_refreshed]
    · have ne : k ≠ ⟨own, c.cause, c.detail⟩ := by
        intro e
        apply same
        rw [e]
        simp
      have kept : (u.onEntry ⟨own, c.cause, c.detail⟩ TripEntry.refreshed).entry k = some x :=
        (Tu.entry_onEntry_ne (f := TripEntry.refreshed) (fun _ => rfl) ne).trans h
      rw [ih kept, if_neg same]

theorem Tu.refreshAll_other (l : List OwnCause) (u : Tu) {k : TripKey} {own : Nat} (h : k.origin ≠ own) :
    (u.refreshAll own l).entry k = u.entry k := by
  induction l generalizing u with
  | nil => rfl
  | cons c l ih =>
    refine (ih (u.onEntry ⟨own, c.cause, c.detail⟩ TripEntry.refreshed)).trans ?_
    exact Tu.entry_onEntry_ne (fun _ => rfl) fun e => h (by rw [e])

theorem State.offerRefreshes_member (h : s.mc.link.isMember = true) : s.offerRefreshes = { s with
    rp := (s.offers (s.sentCauses.map s.refreshFrame)).rp, tu := s.tu.refreshAll s.ownStation s.sentCauses } := by
  rw [State.offerRefreshes, if_pos h, State.refreshes_eq]

theorem State.offerRefreshes_out (h : s.mc.link.isMember = false) : s.offerRefreshes = s := by
  simp [State.offerRefreshes, h]

/-! ## The view requests (R183) -/

/-- The repeated view request of a slot. -/
def State.viewAsk (s : State) (i : Fin 2) : Option LaneFrame :=
  if ((s.scu.view i).state = .requested ∨ (s.scu.view i).state = .opened) ∧
      (s.scu.view i).station ≠ s.ownStation then
    some (wholeFrame .tileControl (s.scu.view i).station
      (tileCtlPayload (.viewRequest i.val (s.scu.view i).cam (s.scu.view i).k (32 * (s.scu.view i).w))))
  else none

theorem ViewState.takes_iff (v : ViewState) : v.takes = true ↔ v = .requested ∨ v = .opened := by
  cases v <;> simp [ViewState.takes]

theorem State.askAgain (h : s.mc.link = .member) (i : Fin 2) :
    (if ((s.scu.view i).state.takes && (s.scu.view i).station != s.ownStation) = true then s.requestView i else s) =
      s.offers (s.viewAsk i).toList := by
  by_cases asks : ((s.scu.view i).state = .requested ∨ (s.scu.view i).state = .opened) ∧
      (s.scu.view i).station ≠ s.ownStation
  · have takes : ((s.scu.view i).state.takes && (s.scu.view i).station != s.ownStation) = true := by
      rw [Bool.and_eq_true, ViewState.takes_iff, bne_iff_ne]
      exact asks
    rw [if_pos takes, State.requestView, if_neg asks.2, State.offerScreen_ring (by rw [h]; rfl), State.viewAsk,
      if_pos asks]
    rfl
  · have quiet : ¬((s.scu.view i).state.takes && (s.scu.view i).station != s.ownStation) = true := by
      rw [Bool.and_eq_true, ViewState.takes_iff, bne_iff_ne]
      exact asks
    rw [if_neg quiet, State.viewAsk, if_neg asks]
    rfl

theorem State.viewAsk_congr (hc : t.cfg = s.cfg) (hs : t.scu = s.scu) : t.viewAsk = s.viewAsk := by
  have own : t.ownStation = s.ownStation := by rw [State.ownStation, State.ownStation, hc]
  funext i
  rw [State.viewAsk, State.viewAsk, hs, own]

theorem State.repeatViews_member (h : s.mc.link = .member) :
    s.repeatViews = s.offers (([0, 1] : List (Fin 2)).filterMap s.viewAsk) := by
  have asks : ([0, 1] : List (Fin 2)).filterMap s.viewAsk = (s.viewAsk 0).toList ++ (s.viewAsk 1).toList := by
    cases first : s.viewAsk 0 <;> cases second : s.viewAsk 1 <;> simp [first, second]
  have link : (s.offers (s.viewAsk 0).toList).mc.link = .member := by rw [State.offers_eq]; exact h
  have second : (s.offers (s.viewAsk 0).toList).viewAsk = s.viewAsk :=
    State.viewAsk_congr (by rw [State.offers_eq]) (by rw [State.offers_eq])
  unfold State.repeatViews
  dsimp only
  rw [if_pos h, State.askAgain h, State.askAgain link, second, asks, State.offers_append]

theorem State.repeatViews_other (h : s.mc.link ≠ .member) : s.repeatViews = s := by
  simp [State.repeatViews, h]

theorem State.repeatViews_eq (s : State) : s.repeatViews = { s with rp := s.repeatViews.rp } := by
  by_cases h : s.mc.link = .member
  · rw [State.repeatViews_member h, State.offers_eq]
  · rw [State.repeatViews_other h]

theorem State.offerRefreshes_eq (s : State) :
    s.offerRefreshes = { s with rp := s.offerRefreshes.rp, tu := s.offerRefreshes.tu } := by
  cases h : s.mc.link.isMember
  · rw [State.offerRefreshes_out h]
  · rw [State.offerRefreshes_member h]

/-! ## The frames of a roster beat, in their order (log 56) -/

/-- The state a roster-beat start leaves. -/
def State.beatDone (s : State) : State := s.beatCounted.stepListen.offerRefreshes.repeatViews

/-- Beside the Ring Port and the entries refreshed, it is the counted state with the listen counts stepped. -/
theorem State.beatDone_eq (s : State) : s.beatDone = { s.beatCounted with
    rp := s.beatDone.rp, tu := s.beatDone.tu
    mc := { s.beatCounted.mc with listen := s.beatCounted.listenNext }
    su := { s.beatCounted.su with rosterSinceMember := s.beatCounted.sinceNext } } := by
  have done : s.beatDone = s.beatCounted.stepListen.offerRefreshes.repeatViews := rfl
  rw [done, State.repeatViews_eq, State.offerRefreshes_eq, State.stepListen_eq]

/-- The own causes that are sent at a roster-beat start. -/
def State.beatCauses (s : State) : List OwnCause :=
  s.tu.causes.filter fun k => (s.causeEntry k.cause).1 != .masked && (s.causeEntry k.cause).2 == .ring &&
    !(s.rp.errWindow == 0 && k.cause == 9 && k.detail == 0)

theorem State.sentCauses_beat (s : State) : s.beatCounted.stepListen.sentCauses = s.beatCauses := by
  have tu : s.beatCounted.stepListen.tu = s.beatCounted.tu := by rw [State.stepListen_eq]
  have entry (c : Nat) : s.beatCounted.stepListen.causeEntry c = s.causeEntry c := by
    rw [State.causeEntry, State.stepListen_eq]
    dsimp only
    rw [s.beatCounted_keeps.1]
    rfl
  unfold State.sentCauses State.beatCauses State.unmasked
  rw [tu, State.beatCounted_causes, List.filter_filter]
  refine List.filter_congr fun c _ => ?_
  simp only [entry, Bool.and_assoc]

end Sys2Proof.Machine
end

/-! A roster-beat start: the frames it offers in each link state, and what it makes of the entries of the trip table and of the
roster (R34, R36, R41, R143, R149, R150, R183). -/

section
namespace Sys2Proof.Machine

variable {s t : State}

/-! ## The frames as the statement writes them -/

/-- The Trip frame of an own cause of Ring scope. -/
def State.ringTrip (s : State) (a : TripAction) (k : OwnCause) : LaneFrame :=
  wholeFrame .trip 0 (tripPayload a ⟨s.ownStation, k.cause, k.detail⟩ (s.causeEntry k.cause).1 .ring k.beat k.founder)

theorem State.ringTrip_eq {k : OwnCause} (h : (s.causeEntry k.cause).2 = .ring) (a : TripAction) :
    s.tripFrame a k.cause k.detail k.beat k.founder = s.ringTrip a k := by
  rw [State.tripFrame, State.ringTrip, h]

theorem State.windowClears_eq (s : State) : s.windowClears =
    if s.rp.errWindow = 0 ∧ (s.causeEntry 9).1 ≠ .masked ∧ (s.causeEntry 9).2 = .ring then
      ((s.tu.causes.find? fun k => k.cause == 9 && k.detail == 0).map (s.ringTrip .clear)).toList
    else [] := by
  by_cases quiet : s.rp.errWindow = 0
  · by_cases sent : (s.causeEntry 9).1 ≠ .masked ∧ (s.causeEntry 9).2 = .ring
    · have clears : s.unmasked 9 = true ∧ (s.causeEntry 9).2 = .ring := by simpa [State.unmasked] using sent
      rw [State.windowClears, if_pos quiet, State.clearFrames, if_pos clears, if_pos ⟨quiet, sent⟩]
      cases found : s.tu.causes.find? fun k => k.cause == 9 && k.detail == 0 with
      | none => rfl
      | some k =>
        have here := List.find?_some found
        simp only [Bool.and_eq_true, beq_iff_eq] at here
        obtain ⟨cause, detail⟩ := here
        have frame := State.ringTrip_eq (s := s) (k := k) (by rw [cause]; exact sent.2) .clear
        rw [cause, detail] at frame
        simp [frame]
    · have silent : ¬(s.unmasked 9 = true ∧ (s.causeEntry 9).2 = .ring) := by simpa [State.unmasked] using sent
      rw [State.windowClears, if_pos quiet, State.clearFrames, if_neg silent, if_neg fun h => sent h.2]
  · rw [State.windowClears, if_neg quiet, if_neg fun h => quiet h.1]

theorem State.refreshFrames_eq (s : State) :
    s.beatCauses.map s.refreshFrame = s.beatCauses.map (s.ringTrip .refresh) := by
  refine List.map_congr_left fun k hk => State.ringTrip_eq ?_ .refresh
  have kept := (List.mem_filter.mp hk).2
  simp only [Bool.and_eq_true, beq_iff_eq] at kept
  exact kept.1.2

/-! ## The Ring Port after a roster-beat start -/

theorem State.beatCounted_link (s : State) : s.beatCounted.mc.link = s.mc.link := by rw [State.beatCounted_mc]

theorem State.beatCounted_hello (s : State) : s.beatCounted.helloFrame = s.helloFrame := by
  obtain ⟨cfg, -, -, -, -, -, stepState, founder, -, -⟩ := s.beatCounted_keeps
  simp only [State.helloFrame, State.shaftMember, State.speedAuthority, cfg, stepState, founder, State.beatCounted_mc]

/-- Every stage has the link state, the configuration and the view slots of the start. -/
theorem State.stages_keep (s : State) : (s.beatCounted.stepListen.mc.link = s.mc.link ∧
    s.beatCounted.stepListen.cfg = s.cfg) ∧ s.beatCounted.stepListen.offerRefreshes.mc.link = s.mc.link ∧
    s.beatCounted.stepListen.offerRefreshes.cfg = s.cfg ∧
    s.beatCounted.stepListen.offerRefreshes.scu = s.scu := by
  obtain ⟨cfg, -, scu, -⟩ := s.beatCounted_keeps
  rw [State.offerRefreshes_eq, State.stepListen_eq]
  exact ⟨⟨s.beatCounted_link, cfg⟩, s.beatCounted_link, cfg, scu⟩

/-- The REFRESH frames follow whatever was offered before them. -/
theorem State.refreshes_rp (h : s.mc.link.isMember = true) {fs : List LaneFrame}
    (before : s.beatCounted.stepListen.rp = (s.windowEmptied.offers fs).rp) :
    s.beatCounted.stepListen.offerRefreshes.rp =
      (s.windowEmptied.offers (fs ++ s.beatCauses.map s.refreshFrame)).rp := by
  obtain ⟨⟨link, cfg⟩, -⟩ := s.stages_keep
  have frames : s.beatCounted.stepListen.refreshFrame = s.refreshFrame := by
    funext c
    exact State.tripFrame_congr cfg ..
  rw [State.offerRefreshes_member (by rw [link]; exact h), State.sentCauses_beat, frames]
  exact State.offers_offers_rp before link cfg _

theorem State.beatDone_rp_member (h : s.mc.link = .member) : s.beatDone.rp =
    (s.windowEmptied.offers (s.windowClears ++ [s.helloFrame] ++ s.beatCauses.map s.refreshFrame ++
      ([0, 1] : List (Fin 2)).filterMap s.viewAsk)).rp := by
  have member : s.mc.link.isMember = true := by rw [h]; rfl
  have counted : s.beatCounted.rp = (s.windowEmptied.offers s.windowClears).rp := by
    rw [State.beatCounted_rp, if_pos member]
  have listened : s.beatCounted.stepListen.rp =
      (s.windowEmptied.offers (s.windowClears ++ [s.helloFrame])).rp := by
    rw [State.stepListen_member (s.beatCounted_link.trans h), State.beatCounted_hello]
    exact State.offers_offers_rp (t := s.beatCounted.countSinceMember) counted s.beatCounted_link
      s.beatCounted_keeps.1 _
  obtain ⟨-, link, cfg, scu⟩ := s.stages_keep
  have done : s.beatDone = s.beatCounted.stepListen.offerRefreshes.repeatViews := rfl
  rw [done, State.repeatViews_member (link.trans h), State.viewAsk_congr cfg scu]
  exact State.offers_offers_rp (State.refreshes_rp member listened) link cfg _

theorem State.beatDone_rp_leaving (h : s.mc.link = .leaving) : s.beatDone.rp =
    (s.windowEmptied.offers (s.windowClears ++ s.beatCauses.map s.refreshFrame)).rp := by
  have member : s.mc.link.isMember = true := by rw [h]; rfl
  have listened : s.beatCounted.stepListen.rp = (s.windowEmptied.offers s.windowClears).rp := by
    rw [State.stepListen_leaving (s.beatCounted_link.trans h)]
    exact s.beatCounted_rp.trans (if_pos member ▸ rfl)
  obtain ⟨-, link, -⟩ := s.stages_keep
  have done : s.beatDone = s.beatCounted.stepListen.offerRefreshes.repeatViews := rfl
  rw [done, State.repeatViews_other (by rw [link, h]; decide)]
  exact State.refreshes_rp member listened

/-- Outside MEMBER and LEAVING only LISTEN offers a frame. -/
theorem State.beatDone_rp_out (h : s.mc.link.isMember = false) : s.beatDone.rp = s.beatCounted.stepListen.rp := by
  obtain ⟨⟨first, -⟩, link, -⟩ := s.stages_keep
  have done : s.beatDone = s.beatCounted.stepListen.offerRefreshes.repeatViews := rfl
  have other : s.mc.link ≠ .member := by
    intro e
    rw [e] at h
    cases h
  rw [done, State.repeatViews_other (by rw [link]; exact other), State.offerRefreshes_out (by rw [first]; exact h)]

theorem State.beatCounted_rp_out (h : s.mc.link.isMember = false) : s.beatCounted.rp = s.windowEmptied.rp := by
  rw [State.beatCounted_rp, if_neg (Bool.eq_false_iff.mp h)]

theorem State.beatDone_rp_listen (h : s.mc.link = .listen) : s.beatDone.rp =
    (s.windowEmptied.offers (if s.mc.listen + 1 < 3 then [s.helloFrame] else [])).rp := by
  have out : s.mc.link.isMember = false := by rw [h]; rfl
  have count : s.beatCounted.mc.listen = s.mc.listen := by rw [State.beatCounted_mc]
  rw [State.beatDone_rp_out out, State.stepListen_listen (s.beatCounted_link.trans h), count, State.beatCounted_hello]
  refine State.offers_rp_congr ?_ ?_ ?_ _
  · exact State.beatCounted_rp_out out
  · exact s.beatCounted_link
  · exact s.beatCounted_keeps.1

theorem State.beatDone_rp_noRing (h : s.mc.link.inRing = false) : s.beatDone.rp = s.windowEmptied.rp := by
  have out : s.mc.link.isMember = false := by
    cases hl : s.mc.link <;> simp_all [LinkState.inRing, LinkState.isMember]
  rw [State.beatDone_rp_out out, State.stepListen_out (by rw [State.beatCounted_link]; exact h),
    State.beatCounted_rp_out out]

theorem State.offers_errWindow (fs : List LaneFrame) (s : State) : (s.offers fs).rp.errWindow = s.rp.errWindow := by
  induction fs generalizing s with
  | nil => rfl
  | cons f fs ih =>
    rw [State.offers_cons, ih, State.offer, State.offerR_rp]

/-- The window of receiver errors is empty afterwards in every link state. -/
theorem State.beatDone_errWindow (s : State) : s.beatDone.rp.errWindow = 0 := by
  cases h : s.mc.link
  case member =>
    rw [State.beatDone_rp_member h, State.offers_errWindow]
    rfl
  case leaving =>
    rw [State.beatDone_rp_leaving h, State.offers_errWindow]
    rfl
  case listen =>
    rw [State.beatDone_rp_listen h, State.offers_errWindow]
    rfl
  all_goals
    rw [State.beatDone_rp_noRing (by rw [h]; rfl)]
    rfl

/-! ## The trip table and the roster after it -/

theorem State.beatDone_tu (s : State) : s.beatDone.tu =
    if s.mc.link.isMember = true then s.beatCounted.tu.refreshAll s.ownStation s.beatCauses else s.beatCounted.tu := by
  obtain ⟨⟨link, cfg⟩, -⟩ := s.stages_keep
  have own : s.beatCounted.stepListen.ownStation = s.ownStation := by rw [State.ownStation, State.ownStation, cfg]
  have tu : s.beatCounted.stepListen.tu = s.beatCounted.tu := by rw [State.stepListen_eq]
  have done : s.beatDone = s.beatCounted.stepListen.offerRefreshes.repeatViews := rfl
  rw [done, State.repeatViews_eq]
  dsimp only
  cases h : s.mc.link.isMember
  · rw [State.offerRefreshes_out (by rw [link]; exact h), tu]
    rfl
  · rw [State.offerRefreshes_member (by rw [link]; exact h), State.sentCauses_beat, own, tu]
    rfl

theorem Tu.refreshAll_causes (own : Nat) (l : List OwnCause) (u : Tu) : (u.refreshAll own l).causes = u.causes := by
  induction l generalizing u with
  | nil => rfl
  | cons c l ih => exact ih (u.onEntry ⟨own, c.cause, c.detail⟩ TripEntry.refreshed)

/-- With no receiver error since the start before it cause 9 detail 0 is false (R23). -/
theorem State.beatDone_quiet (quiet : s.rp.errWindow = 0) : s.beatDone.causeTrue 9 0 = false := by
  have causes : s.beatDone.tu.causes = s.beatCounted.tu.causes := by
    rw [State.beatDone_tu]
    split
    · exact Tu.refreshAll_causes ..
    · rfl
  rw [State.causeTrue, causes, State.beatCounted_causes, List.any_filter, List.any_eq_false]
  intro x _
  cases x.cause == 9 && x.detail == 0 <;> simp [quiet]

/-- An own entry has its refresh count stepped once for every REFRESH of its cause. -/
theorem State.beatDone_own {k : TripKey} {x : TripEntry} {n : Nat} (h : s.tu.entry k = some x)
    (own : k.origin = s.ownStation) (other : ¬(s.rp.errWindow = 0 ∧ k.cause = 9 ∧ k.detail = 0))
    (hn : n = (s.beatCauses.filter fun c => c.cause == k.cause && c.detail == k.detail).length) :
    s.beatDone.tu.entry k =
      some (if s.mc.link.isMember = true ∧ 0 < n then { x with refresh := min (x.refresh + n) 255 } else x) := by
  have key : x.key.origin = s.ownStation := by rw [Tu.entry_key h]; exact own
  have counted : s.beatCounted.tu.entry k = some x := by
    rw [State.beatCounted_entry h fun ⟨quiet, e⟩ => other ⟨quiet, by rw [e], by rw [e]⟩]
    simp [TripEntry.quieted, key]
  rw [State.beatDone_tu]
  by_cases member : s.mc.link.isMember = true
  · rw [if_pos member, Tu.refreshAll_own _ counted own, ← hn, TripEntry.refreshedBy]
    simp only [member, true_and]
  · rw [if_neg member, if_neg fun h => member h.1, counted]

/-- An ACTIVE entry of another origin has its quiet count stepped in the ring. -/
theorem State.beatDone_foreign {k : TripKey} {x : TripEntry} (h : s.tu.entry k = some x)
    (foreign : k.origin ≠ s.ownStation) (ring : s.mc.link.inRing = true) (active : x.state = .active) :
    s.beatDone.tu.entry k = some { x with quiet := min (x.quiet + 1) 6 } := by
  have key : x.key.origin ≠ s.ownStation := by rw [Tu.entry_key h]; exact foreign
  have counted : s.beatCounted.tu.entry k = some { x with quiet := min (x.quiet + 1) 6 } := by
    rw [State.beatCounted_entry h fun ⟨_, e⟩ => foreign (by rw [e])]
    simp [TripEntry.quieted, ring, active, key]
  rw [State.beatDone_tu]
  split
  · rw [Tu.refreshAll_other _ _ foreign, counted]
  · exact counted

/-- In the ring the silence of every present peer steps (R41). -/
theorem State.beatDone_slot {n : Nat} {r : RosterSlot} (ring : s.mc.link.inRing = true) (h : s.slot n = some r) :
    s.beatDone.slot n = some
      (if r.present = true ∧ n ≠ s.ownStation then { r with silence := min (r.silence + 1) 4 } else r) := by
  have roster : s.beatDone.mc.roster = s.mc.roster.mapIdx fun i r =>
      if r.present && i + 1 != s.ownStation then { r with silence := min (r.silence + 1) 4 } else r := by
    have silenced : s.beatSilenced = State.onMc _ _ := if_pos ring
    rw [State.beatDone_eq]
    dsimp only
    rw [State.beatCounted_mc, silenced]
    rfl
  unfold State.slot at h ⊢
  split at h
  · cases h
  · next positive =>
    have place : n - 1 + 1 = n := by omega
    rw [if_neg positive, roster, List.getElem?_mapIdx, h, Option.map_some, place]
    simp

/-- Settles O16. -/
theorem rosterBeat : Obligations.RosterBeat := by
  refine ⟨fun s h => by simp [exec, execRosterBeatStart, h], ?frames, fun s due => ?counts⟩
  case frames =>
    rintro s v sent trip clears hellos asks due rfl rfl rfl rfl rfl rfl
    refine ⟨s.beatDone, exec_rosterBeat due, fun h => ?_, fun h => ?_, fun h few => ?_, fun h third => ?_,
      fun out => State.beatDone_rp_noRing out, ?_⟩
    · rw [State.beatDone_rp_member h, State.windowClears_eq, State.refreshFrames_eq]
      rfl
    · rw [State.beatDone_rp_leaving h, State.windowClears_eq, State.refreshFrames_eq]
      rfl
    · rw [State.beatDone_rp_listen h, if_pos few]
      rfl
    · rw [State.beatDone_rp_listen h, if_neg (by omega)]
      rfl
    · rintro k x n entry own other rfl
      exact State.beatDone_own entry own other rfl
  case counts =>
    obtain ⟨cfg, now, -, axes, ran, line, -, -, since, window⟩ := s.beatCounted_keeps
    refine ⟨s.beatDone, exec_rosterBeat due, ?_, ?_, ?_, ?_, ?_, ?_, ?_, fun quiet => ?_, fun h => ?_, fun h => ?_,
      fun h dup => ?_, fun ring n r h => State.beatDone_slot ring h,
      fun ring k x h foreign active => State.beatDone_foreign h foreign ring active⟩
    · rw [State.beatDone_eq]
      exact ran
    · rw [State.beatDone_eq]
      exact s.beatCounted_link
    · exact s.beatDone_errWindow
    · rw [State.beatDone_eq]
      exact now
    · rw [State.beatDone_eq]
      exact cfg
    · rw [State.beatDone_eq]
      exact line
    · rw [State.beatDone_eq]
      exact axes
    · exact State.beatDone_quiet quiet
    · rw [State.beatDone_eq]
      refine (if_pos (s.beatCounted_link.trans h)).trans ?_
      rw [State.beatCounted_mc]
    · rw [State.beatDone_eq]
      refine (if_pos (by rw [State.beatCounted_link]; exact h)).trans ?_
      rw [since]
    · rw [State.beatDone_eq]
      dsimp only
      rw [State.beatCounted_mc, if_pos ⟨h, dup⟩]

end Sys2Proof.Machine
end

/-! The station leaves the ring: the bulk lane is emptied, and the blocks go to their places outside it (R9, R10, R26, R36, R42,
R62, R69, R126, R145, R167). -/

section
namespace Sys2Proof.Machine

variable {s t u : State}

/-! ## The bulk lane emptied (R9, R10) -/

theorem State.PortsOnly.trans (h : s.PortsOnly t) (k : t.PortsOnly u) : s.PortsOnly u := by
  unfold State.PortsOnly at *
  rw [k, h]

theorem State.PortsOnly.refusedFrame (f : LaneFrame) (s : State) : s.PortsOnly (s.refusedFrame f) := by
  unfold State.refusedFrame
  split
  · split
    · exact .post _ s
    · rfl
  · rfl

/-- A fold of steps that touch the two ports alone touches the two ports alone. -/
theorem State.PortsOnly.foldl {α : Type} {f : State → α → State} (h : ∀ s a, State.PortsOnly s (f s a)) (l : List α)
    (s : State) : s.PortsOnly (l.foldl f s) := by
  induction l generalizing s with
  | nil => rfl
  | cons a l ih => exact (h s a).trans (ih _)

theorem State.PortsOnly.offerAll (fs : List LaneFrame) (s : State) : s.PortsOnly (s.offerAll fs) :=
  .foldl (fun s f => .offerScreen f s) fs s

/-- The state when the lane is empty and the waiting blocks have been told that their frames were refused. -/
def State.bulkRefused (s : State) : State :=
  s.rp.waitingFrames.foldl (fun x f => x.refusedFrame f)
    { s with rp := { s.rp with bulk := [], waitList := [], held := [] } }

/-- The state when the Mark Unit has dropped the Correction frame that was refused too. -/
def State.bulkDropped (s : State) : State :=
  if s.rp.waitList.contains 4 then s.bulkRefused.onMu fun m => { m with sendList := m.sendList.drop 1 }
  else s.bulkRefused

theorem State.emptyBulk_stages (s : State) :
    s.emptyBulk = ((s.bulkDropped.offerAll (behindWaiting s.rp.waitList s.rp.held)).muPump).pubAdvance := rfl

theorem State.bulkRefused_portsOnly (s : State) : s.PortsOnly s.bulkRefused :=
  State.PortsOnly.trans (by rfl) (.foldl (fun s f => .refusedFrame f s) _ _)

theorem State.foldl_refused_rp (l : List LaneFrame) (s : State) :
    (l.foldl (fun x f => x.refusedFrame f) s).rp = s.rp := by
  induction l generalizing s with
  | nil => rfl
  | cons f l ih => exact (ih _).trans (s.refusedFrame_rp f)

theorem State.bulkDropped_rp (s : State) :
    s.bulkDropped.rp = { s.rp with bulk := [], waitList := [], held := [] } := by
  unfold State.bulkDropped
  split <;> exact State.foldl_refused_rp ..

/-- Between two states the Ring Port, the Mark Unit, the Screen Unit and the Command Port differ at most. -/
def State.BulkOnly (s t : State) : Prop := t = { s with rp := t.rp, mu := t.mu, scu := t.scu, cmp := t.cmp }

theorem State.BulkOnly.trans (h : s.BulkOnly t) (k : t.BulkOnly u) : s.BulkOnly u := by
  unfold State.BulkOnly at *
  rw [k, h]

theorem State.BulkOnly.onMu (f : Mu → Mu) (s : State) : s.BulkOnly (s.onMu f) := rfl

theorem State.PortsOnly.bulkOnly (h : s.PortsOnly t) : s.BulkOnly t := by
  unfold State.PortsOnly at h
  unfold State.BulkOnly
  rw [h]

theorem State.bulkDropped_bulkOnly (s : State) : s.BulkOnly s.bulkDropped := by
  have refused := s.bulkRefused_portsOnly.bulkOnly
  unfold State.bulkDropped
  split
  · exact refused.trans (by rfl)
  · exact refused

theorem State.muPumpN_bulkOnly (n : Nat) (s : State) : s.BulkOnly (s.muPumpN n) := by
  induction n generalizing s with
  | zero => rfl
  | succ n ih =>
    unfold State.muPumpN
    split
    · rfl
    · next f rest _ =>
      have offered : s.BulkOnly (s.offerR f).1 := by
        rw [State.offerR_eq]
        rfl
      dsimp only
      split
      · exact offered
      · exact (offered.trans (State.BulkOnly.onMu ..)).trans (ih _)

theorem State.pubAdvance_bulkOnly (s : State) : s.BulkOnly s.pubAdvance := by
  unfold State.pubAdvance
  split
  · rfl
  · split
    · rfl
    · split
      · rw [State.result_eq]
        rfl
      · rfl

/-- Of the part the emptying of the bulk lane touches the two ports, the send list and the publication. -/
theorem State.emptyBulk_bulkOnly (s : State) : s.BulkOnly s.emptyBulk := by
  rw [State.emptyBulk_stages]
  refine s.bulkDropped_bulkOnly.trans (State.BulkOnly.trans ?_ (State.pubAdvance_bulkOnly _))
  exact (State.PortsOnly.offerAll ..).bulkOnly.trans (State.muPumpN_bulkOnly ..)

/-! ### Outside the ring no block's next frame is taken -/

theorem State.BulkOnly.mc_eq (h : s.BulkOnly t) : t.mc = s.mc := by rw [h]
theorem State.BulkOnly.tu_eq (h : s.BulkOnly t) : t.tu = s.tu := by rw [h]

theorem State.offerAll_rp_out (h : s.mc.link.inRing = false) (fs : List LaneFrame) : (s.offerAll fs).rp = s.rp := by
  induction fs generalizing s with
  | nil => rfl
  | cons f fs ih =>
    have here : s.offerScreen f = s.refusedFrame f := State.offerScreen_out h f
    have link : (s.refusedFrame f).mc = s.mc := (State.PortsOnly.refusedFrame f s).bulkOnly.mc_eq
    have next : s.offerAll (f :: fs) = (s.refusedFrame f).offerAll fs := by rw [← here]; rfl
    rw [next, ih (by rw [link]; exact h), State.refusedFrame_rp]

theorem State.muPumpN_rp_out (h : s.mc.link.inRing = false) (n : Nat) : (s.muPumpN n).rp = s.rp := by
  induction n generalizing s with
  | zero => rfl
  | succ n ih =>
    unfold State.muPumpN
    split
    · rfl
    · next f rest _ =>
      have refused : s.offerR f = (s, .refused) := by simp [State.offerR, h]
      rw [refused]
      exact ih (s := s.onMu fun m => { m with sendList := rest }) h

theorem State.emptyBulk_rp_out (h : s.mc.link.inRing = false) :
    s.emptyBulk.rp = { s.rp with bulk := [], waitList := [], held := [] } := by
  have link : s.bulkDropped.mc = s.mc := s.bulkDropped_bulkOnly.mc_eq
  have offered : (s.bulkDropped.offerAll (behindWaiting s.rp.waitList s.rp.held)).mc = s.mc :=
    (State.PortsOnly.offerAll ..).bulkOnly.mc_eq.trans link
  rw [State.emptyBulk_stages, State.pubAdvance_rp, State.muPump, State.muPumpN_rp_out (by rw [offered]; exact h),
    State.offerAll_rp_out (by rw [link]; exact h), State.bulkDropped_rp]

/-! ## Entries orphaned, and causes false in every detail (R134, R145) -/

@[simp] theorem State.orphanTrip_causes (k : TripKey) (s : State) : (s.orphanTrip k).tu.causes = s.tu.causes := by
  unfold State.orphanTrip
  rw [State.markChange_causes]
  rfl

@[simp] theorem State.orphanTrip_rp (k : TripKey) (s : State) : (s.orphanTrip k).rp = s.rp := by
  unfold State.orphanTrip
  rw [State.markChange_rp]
  rfl

theorem State.orphanWhere_keeps (p : Nat → Bool) (s : State) :
    (s.orphanWhere p).tu.causes = s.tu.causes ∧ (s.orphanWhere p).rp = s.rp := by
  unfold State.orphanWhere
  generalize List.map _ _ = l
  induction l generalizing s with
  | nil => exact ⟨rfl, rfl⟩
  | cons k l ih =>
    obtain ⟨causes, rp⟩ := ih (s.orphanTrip k)
    exact ⟨causes.trans (s.orphanTrip_causes k), rp.trans (s.orphanTrip_rp k)⟩

theorem State.orphanWhere_causeTrue (p : Nat → Bool) (c d : Nat) (s : State) :
    (s.orphanWhere p).causeTrue c d = s.causeTrue c d := by
  simp only [State.causeTrue, (State.orphanWhere_keeps p s).1]

/-- The reports that a cause is false, one for each cause of a list. -/
theorem State.foldl_reportFalse_causes (c : Nat) (l : List OwnCause) (s : State) :
    (l.foldl (fun x k => x.reportFalse c k.detail) s).tu.causes =
      s.tu.causes.filter fun x => !(x.cause == c && l.any fun k => x.detail == k.detail) := by
  induction l generalizing s with
  | nil => simp
  | cons k l ih =>
    rw [List.foldl_cons, ih, State.reportFalse_causes, List.filter_filter]
    refine List.filter_congr fun x _ => ?_
    cases x.cause == c <;> simp [Bool.and_comm]

/-- A cause reported false in every detail that meets `p` leaves the causes with these details. -/
theorem State.reportAllFalse_causes (c : Nat) (p : Nat → Bool) (s : State) :
    (s.reportAllFalse c p).tu.causes = s.tu.causes.filter fun x => !(x.cause == c && p x.detail) := by
  rw [State.reportAllFalse, State.foldl_reportFalse_causes]
  refine List.filter_congr fun x hx => ?_
  cases same : x.cause == c
  · rfl
  · have told : ((s.tu.causes.filter fun k => k.cause == c && p k.detail).any fun k => x.detail == k.detail) =
        p x.detail := by
      rw [Bool.eq_iff_iff, List.any_eq_true]
      constructor
      · rintro ⟨k, hk, e⟩
        have kept := (List.mem_filter.mp hk).2
        simp only [Bool.and_eq_true, beq_iff_eq] at kept e
        rw [e]
        exact kept.2
      · intro h
        exact ⟨x, List.mem_filter.mpr ⟨hx, by simp only [same, h, Bool.and_self]⟩, by simp⟩
    rw [told]

theorem State.reportAllFalse_causeTrue (c : Nat) (p : Nat → Bool) (x d : Nat) (s : State) :
    (s.reportAllFalse c p).causeTrue x d = (s.causeTrue x d && !(x == c && p d)) := by
  rw [State.causeTrue, State.causeTrue, State.reportAllFalse_causes, List.any_filter]
  rw [Bool.eq_iff_iff, Bool.and_eq_true, List.any_eq_true, List.any_eq_true]
  simp only [Bool.and_eq_true, beq_iff_eq]
  constructor
  · rintro ⟨k, hk, kept, rfl, rfl⟩
    exact ⟨⟨k, hk, rfl, rfl⟩, kept⟩
  · rintro ⟨⟨k, hk, rfl, rfl⟩, kept⟩
    exact ⟨k, hk, kept, rfl, rfl⟩

theorem State.reportAllFalse_rp_out (h : s.mc.link.isMember = false) (c : Nat) (p : Nat → Bool) :
    (s.reportAllFalse c p).rp = s.rp := by
  unfold State.reportAllFalse
  generalize s.tu.causes.filter _ = l
  induction l generalizing s with
  | nil => rfl
  | cons k l ih =>
    have told := State.reportFalse_reported c k.detail s
    exact (ih (by rw [told.mc_eq]; exact h)).trans (State.reportFalse_rp_out h c k.detail)

end Sys2Proof.Machine
end

/-! The change to BYPASSED: what the station has left when it is out of the ring, and the timers and the drain that take it there
(R10, R26, R31, R36 to R38, R42, R60, R62, R69). -/

section
namespace Sys2Proof.Machine

variable {s t u : State}

/-! ## What stands while the blocks leave the ring -/

/-- From `s` to `t` the blocks that leave the ring may have acted: configuration, cameras, pins, the steps and copies that wait,
the line state and the beat stand. -/
def State.Stands (s t : State) : Prop :=
  t = { s with
    rp := t.rp, mc := t.mc, su := { t.su with line := s.su.line, beat := s.su.beat }, au := t.au, mu := t.mu, tu := t.tu
    scu := t.scu, cmp := t.cmp }

theorem State.Stands.trans (h : s.Stands t) (k : t.Stands u) : s.Stands u := by
  unfold State.Stands at *
  rw [k, h]

theorem State.Reported.stands (h : s.Reported t) : s.Stands t := by
  have line : t.su.line = s.su.line ∧ t.su.beat = s.su.beat := by rw [h.shaft]; exact ⟨rfl, rfl⟩
  unfold State.Stands
  rw [← line.1, ← line.2, h.fields]

theorem State.BulkOnly.stands (h : s.BulkOnly t) : s.Stands t := by
  unfold State.Stands
  rw [h]

theorem State.Stands.post (e : Event) (s : State) : s.Stands (s.post e) := (State.Reported.post e s).stands

theorem State.Stands.cfg_eq (h : s.Stands t) : t.cfg = s.cfg := by rw [h]
theorem State.Stands.pins_eq (h : s.Stands t) : t.pins = s.pins := by rw [h]
theorem State.Stands.now_eq (h : s.Stands t) : t.now = s.now := by rw [h]
theorem State.Stands.inMc_eq (h : s.Stands t) : t.inMc = s.inMc := by rw [h]

theorem State.changeStep_keeps (f : Su → Su) (s : State) : (s.changeStep f).rp = s.rp ∧ (s.changeStep f).mc = s.mc ∧
    (s.changeStep f).su = f s.su ∧ (s.changeStep f).tu = s.tu ∧ (s.changeStep f).scu = s.scu := by
  unfold State.changeStep State.stepEvent
  simp

/-! ## The change of link state itself (R26) -/

/-- The pins once the bypass output is that of a link state: a change drops symbol lock. -/
def State.bypassedPins (new : LinkState) (s : State) : Pins :=
  if new.bypass = s.mc.link.bypass then s.pins else { s.pins with lock := false }

/-- The state when the bypass output has followed a new link state. -/
def State.bypassMoved (new : LinkState) (s : State) : State :=
  if new.bypass = s.mc.link.bypass then s else s.switchBypass

/-- The state when the link state has changed and its event is posted, before the other blocks act. -/
def State.linkMoved (new : LinkState) (reason : BypassReason) (attempt errors : Nat) (s : State) : State :=
  ((s.bypassMoved new).onMc fun m =>
    { m with link := new, reason := if new = .bypassed then reason else m.reason }).linkEvent s.mc.link attempt errors

theorem State.changeLink_bypassed (reason : BypassReason) (a e : Nat) (s : State) : s.changeLink .bypassed reason a e =
    ((s.linkMoved .bypassed reason a e).ringOut.memberOut s.mc.link.inRing).shaftOut := rfl

theorem State.switchBypass_reported (s : State) :
    State.Reported { s with rp := s.rp.cutRx false [], pins := { s.pins with lock := false } } s.switchBypass :=
  (State.cutReception_reported false [] s).onPins fun p => { p with lock := false }

/-- The frame cut off leaves the transmitter with what it is cut off to. -/
theorem Rp.cutRx_cutOff (b : Bool) (a : List Byte) (r : Rp) : (r.cutRx b a).tx.cutOff = r.tx.cutOff := by
  have closed (r : Rp) (c : Closing) : (r.closeForwarded a c).tx.cutOff = r.tx.cutOff := by
    unfold Rp.closeForwarded
    split
    · next h => split <;> simp [h, Tx.cutOff]
    all_goals rfl
  unfold Rp.cutRx Rp.erred
  split
  · split <;> rfl
  · split
    · rfl
    · rfl
    · exact closed { r with rx := none } _

theorem State.bypassMoved_keeps (new : LinkState) (s : State) :
    State.Stands { s with pins := s.bypassedPins new } (s.bypassMoved new) ∧ (s.bypassMoved new).mc = s.mc ∧
      (s.bypassMoved new).rp.tx.cutOff = s.rp.tx.cutOff := by
  unfold State.bypassMoved State.bypassedPins
  split
  · exact ⟨rfl, rfl, rfl⟩
  · have told := s.switchBypass_reported
    exact ⟨.trans (by rfl) told.stands, told.mc_eq, by rw [told.tx_eq]; exact Rp.cutRx_cutOff ..⟩

theorem State.linkMoved_keeps (new : LinkState) (reason : BypassReason) (a e : Nat) (s : State) :
    State.Stands { s with pins := s.bypassedPins new } (s.linkMoved new reason a e) ∧
      (s.linkMoved new reason a e).mc =
        { s.mc with link := new, reason := if new = .bypassed then reason else s.mc.reason } ∧
      (s.linkMoved new reason a e).rp.tx.cutOff = s.rp.tx.cutOff := by
  obtain ⟨stands, mc, tx⟩ := s.bypassMoved_keeps new
  refine ⟨stands.trans (State.Stands.trans (by rfl) (.post _ _)), ?_, ?_⟩
  · simp [State.linkMoved, State.linkEvent, mc]
  · simpa [State.linkMoved, State.linkEvent] using tx

/-! ## The Ring Port (R2, R3, R10, R22, R23) -/

/-- The Ring Port with its lanes, watch, window and transmitter emptied. -/
def Rp.outside (r : Rp) : Rp :=
  { r with
    urgent := [], bulk := [], waitList := [], held := [], pass := [], watch := [], consecMissing := 0, errWindow := 0
    tx := r.tx.cutOff }

/-- Outside the ring the Ring Port is emptied, and causes 6, 7 and 9 detail 0 are false. -/
theorem State.ringOut_keeps (h : s.mc.link = .bypassed) :
    s.Stands s.ringOut ∧ s.ringOut.mc = s.mc ∧ s.ringOut.rp = s.rp.outside ∧
      ∀ c d, s.ringOut.causeTrue c d =
        (s.causeTrue c d && !(c == 6 && d == 0) && !(c == 7 && d == 0) && !(c == 9 && d == 0)) := by
  generalize hv : (s.onRp fun r =>
    { r with urgent := [], pass := [], watch := [], consecMissing := 0, errWindow := 0, tx := r.tx.cutOff }) = v
  have run : s.ringOut = ((v.emptyBulk.reportFalse 6 0).reportFalse 7 0).reportFalse 9 0 := by rw [← hv]; rfl
  have emptied := v.emptyBulk_bulkOnly
  have told6 := State.reportFalse_reported 6 0 v.emptyBulk
  have told7 := State.reportFalse_reported 7 0 (v.emptyBulk.reportFalse 6 0)
  have told9 := State.reportFalse_reported 9 0 ((v.emptyBulk.reportFalse 6 0).reportFalse 7 0)
  have told := (told6.trans told7).trans told9
  have before : v.mc = s.mc := by rw [← hv]; rfl
  have mc : v.emptyBulk.mc = s.mc := emptied.mc_eq.trans before
  have out (x : State) (hx : x.mc = s.mc) (c d : Nat) : (x.reportFalse c d).rp = x.rp :=
    State.reportFalse_rp_out (by rw [hx, h]; rfl) c d
  rw [run]
  refine ⟨?_, told.mc_eq.trans mc, ?_, fun c d => ?_⟩
  · exact State.Stands.trans (by rw [← hv]; rfl) (emptied.stands.trans told.stands)
  · rw [out _ (by rw [told7.mc_eq, told6.mc_eq, mc]), out _ (by rw [told6.mc_eq, mc]), out _ mc,
      State.emptyBulk_rp_out (by rw [before, h]; rfl), ← hv]
    rfl
  · have causes : v.emptyBulk.causeTrue c d = s.causeTrue c d := by
      rw [State.causeTrue, emptied.tu_eq, ← hv]
      rfl
    simp only [State.reportFalse_causeTrue, causes]

/-! ## The Membership Controller, with trips orphaned and viewers gone (R36, R42, R145) -/

/-- The state when the roster and the watches are emptied. -/
def State.rosterEmptied (s : State) : State :=
  s.onMc fun m =>
    { m with
      roster := emptyRoster ((s.cfg.map (·.required)).getD 0), insTimer := none, leaveTimer := none, dupQuiet := 0
      dupHeard := false }

theorem State.memberOut_keeps (b : Bool) (h : s.mc.link = .bypassed) :
    s.Stands (s.memberOut b) ∧ (s.memberOut b).mc = s.rosterEmptied.mc ∧ (s.memberOut b).rp = s.rp ∧
      (s.memberOut b).scu.viewers = Quad.rep [] ∧
      ∀ c d, (s.memberOut b).causeTrue c d = (s.causeTrue c d && !(c == 8) && !(c == 9 && d == 1)) := by
  generalize hv : (if (b || s.mc.roster.any (·.present)) = true then
    s.rosterEmptied.post (.rosterChanged 0 .emptied) else s.rosterEmptied) = v
  have run : s.memberOut b = (((v.orphanWhere fun o => o != v.ownStation).onScu
      fun c => { c with viewers := Quad.rep [] }).reportAllFalse 8 fun _ => true).reportFalse 9 1 := by
    rw [← hv]; rfl
  have told : s.rosterEmptied.Reported v := by
    rw [← hv]
    exact .ite _ (.post _ _) (.refl _)
  have kept : v.tu = s.tu ∧ v.rp = s.rp := by
    rw [← hv]
    split
    · simp [State.rosterEmptied]
    · exact ⟨rfl, rfl⟩
  obtain ⟨tu, rp⟩ := kept
  have orphans := State.orphanWhere_reported (fun o => o != v.ownStation) v
  obtain ⟨orphanCauses, orphanRp⟩ := State.orphanWhere_keeps (fun o => o != v.ownStation) v
  generalize hw : (v.orphanWhere fun o => o != v.ownStation).onScu (fun c => { c with viewers := Quad.rep [] }) = w at run
  have mc : w.mc = s.rosterEmptied.mc := by rw [← hw]; exact orphans.mc_eq.trans told.mc_eq
  have all := State.reportAllFalse_reported 8 (fun _ => true) w
  have last := State.reportFalse_reported 9 1 (w.reportAllFalse 8 fun _ => true)
  have out : w.mc.link.isMember = false := by
    rw [mc]
    exact (congrArg LinkState.isMember h).trans rfl
  rw [run]
  refine ⟨?_, (all.trans last).mc_eq.trans mc, ?_, ?_, fun c d => ?_⟩
  · refine State.Stands.trans ?_ (all.trans last).stands
    refine State.Stands.trans (t := v.orphanWhere fun o => o != v.ownStation) ?_ (by rw [← hw]; rfl)
    exact State.Stands.trans (t := s.rosterEmptied) (by rfl) (told.trans orphans).stands
  · rw [State.reportFalse_rp_out (by rw [all.mc_eq]; exact out), State.reportAllFalse_rp_out out, ← hw]
    exact orphanRp.trans rp
  · rw [(all.trans last).scu_eq, ← hw]
    rfl
  · have causes : w.causeTrue c d = s.causeTrue c d := by
      rw [State.causeTrue, ← hw, State.onScu_tu, orphanCauses, tu]
      rfl
    simp [State.reportFalse_causeTrue, State.reportAllFalse_causeTrue, causes]

/-! ## The Shaft Unit (R60, R62, R69) -/

/-- A slot whose view is forgotten (R60). -/
def RosterSlot.unseen (r : RosterSlot) : RosterSlot := { r with view := .unknown, exclusions := 0 }

theorem emptyRoster_unseen (required : BitVec 32) :
    (emptyRoster required).map RosterSlot.unseen = emptyRoster required := by
  unfold emptyRoster
  rw [List.map_map]
  rfl

theorem State.forgetViews_reported (s : State) :
    (s.onMc fun m => { m with roster := m.roster.map RosterSlot.unseen }).Reported s.forgetViews :=
  State.reportAllFalse_reported 11 (fun _ => true) _

theorem State.shaftOut_keeps (h : s.mc.link = .bypassed) :
    s.Stands s.shaftOut ∧ s.shaftOut.mc = { s.mc with roster := s.mc.roster.map RosterSlot.unseen } ∧
      s.shaftOut.rp = s.rp ∧ s.shaftOut.scu = s.scu ∧ s.shaftOut.su.step = .shaftIdle ∧ s.shaftOut.su.adopted = false ∧
      ∀ c d, s.shaftOut.causeTrue c d =
        (s.causeTrue c d && !(c == 11) && !(c == 10 && d == 0) && !(c == 12 && d == 0)) := by
  generalize hv : (if (s.su.step != .shaftIdle || s.su.adopted) = true then
    s.changeStep fun u => { u with step := .shaftIdle, adopted := false } else s) = v
  have run : s.shaftOut =
      ((v.forgetViews.onSu fun u => { u with heldHistory := false }).reportFalse 10 0).reportFalse 12 0 := by
    rw [← hv]; rfl
  have idle : s.Stands v ∧ v.rp = s.rp ∧ v.mc = s.mc ∧ v.tu = s.tu ∧ v.scu = s.scu ∧ v.su.step = .shaftIdle ∧
      v.su.adopted = false := by
    rw [← hv]
    split
    · obtain ⟨rp, mc, su, tu, scu⟩ := s.changeStep_keeps fun u => { u with step := .shaftIdle, adopted := false }
      refine ⟨?_, rp, mc, tu, scu, by rw [su], by rw [su]⟩
      exact State.Stands.trans (t := s.onSu _) (by rfl) (.post _ _)
    · next still =>
      simp only [Bool.or_eq_true, bne_iff_ne, not_or, not_not, Bool.not_eq_true] at still
      exact ⟨rfl, rfl, rfl, rfl, rfl, still.1, still.2⟩
  obtain ⟨stands, rp, mc, tu, scu, stepState, adopted⟩ := idle
  have forgot := v.forgetViews_reported
  generalize hw : v.forgetViews.onSu (fun u => { u with heldHistory := false }) = w at run
  have roster : w.mc = { s.mc with roster := s.mc.roster.map RosterSlot.unseen } := by
    rw [← hw, ← mc]
    exact forgot.mc_eq
  have out : w.mc.link.isMember = false := by rw [roster]; exact (congrArg LinkState.isMember h).trans rfl
  have told10 := State.reportFalse_reported 10 0 w
  have told12 := State.reportFalse_reported 12 0 (w.reportFalse 10 0)
  have told := told10.trans told12
  have views : (v.onMc fun m => { m with roster := m.roster.map RosterSlot.unseen }).mc.link.isMember = false := by
    rw [← out, roster, ← mc]
    rfl
  rw [run]
  refine ⟨?_, told.mc_eq.trans roster, ?_, ?_, ?_, ?_, fun c d => ?_⟩
  · refine stands.trans (State.Stands.trans ?_ told.stands)
    refine State.Stands.trans (t := v.forgetViews) ?_ (by rw [← hw]; rfl)
    exact State.Stands.trans (t := v.onMc _) (by rfl) forgot.stands
  · rw [State.reportFalse_rp_out (by rw [told10.mc_eq]; exact out), State.reportFalse_rp_out out, ← hw]
    exact (State.reportAllFalse_rp_out views 11 _).trans rp
  · rw [told.scu_eq, ← hw]
    exact forgot.scu_eq.trans scu
  · rw [told.shaft, ← hw, State.onSu_su, forgot.shaft]
    exact stepState
  · rw [told.shaft, ← hw, State.onSu_su, forgot.shaft]
    exact adopted
  · have causes : w.causeTrue c d = (s.causeTrue c d && !(c == 11)) := by
      have all : v.forgetViews.causeTrue c d = (v.causeTrue c d && !(c == 11 && true)) :=
        State.reportAllFalse_causeTrue 11 (fun _ => true) c d _
      rw [Bool.and_true] at all
      have same : v.causeTrue c d = s.causeTrue c d := by simp only [State.causeTrue, tu]
      rw [← hw, ← same]
      exact all
    simp only [State.reportFalse_causeTrue, causes]

/-! ## The ring left -/

/-- A change to BYPASSED leaves the ring, with symbol lock dropped where the bypass output changes. -/
theorem State.changeLink_leftRing (reason : BypassReason) (a e : Nat) (s : State) :
    s.LeftRing reason (s.changeLink .bypassed reason a e) ∧
      State.Stands { s with pins := s.bypassedPins .bypassed } (s.changeLink .bypassed reason a e) := by
  rw [State.changeLink_bypassed]
  obtain ⟨moved, movedMc, movedTx⟩ := s.linkMoved_keeps .bypassed reason a e
  generalize s.linkMoved .bypassed reason a e = v at moved movedMc movedTx ⊢
  obtain ⟨ring, ringMc, ringRp, ringCauses⟩ := State.ringOut_keeps (s := v) (by rw [movedMc])
  generalize v.ringOut = w at ring ringMc ringRp ringCauses ⊢
  obtain ⟨member, memberMc, memberRp, viewers, memberCauses⟩ :=
    State.memberOut_keeps (s := w) s.mc.link.inRing (by rw [ringMc, movedMc])
  generalize w.memberOut s.mc.link.inRing = x at member memberMc memberRp viewers memberCauses ⊢
  obtain ⟨shaft, shaftMc, shaftRp, shaftScu, stepState, adopted, shaftCauses⟩ :=
    State.shaftOut_keeps (s := x) (by rw [memberMc]; exact (congrArg Mc.link ringMc).trans (by rw [movedMc]))
  generalize x.shaftOut = u at shaft shaftMc shaftRp shaftScu stepState adopted shaftCauses ⊢
  have stands := moved.trans (ring.trans (member.trans shaft))
  have rp : u.rp = v.rp.outside := shaftRp.trans (memberRp.trans ringRp)
  have required : w.cfg = s.cfg := (moved.trans ring).cfg_eq
  have mc : u.mc = { s.mc with
      link := .bypassed, reason := reason, roster := emptyRoster ((s.cfg.map (·.required)).getD 0)
      insTimer := none, leaveTimer := none, dupQuiet := 0, dupHeard := false } := by
    rw [shaftMc, memberMc, State.rosterEmptied, State.onMc_mc, ringMc, movedMc, required]
    simp only [emptyRoster_unseen, if_true]
  refine ⟨{ link := ?_, roster := ?_, timers := ?_, lanes := ?_, watch := ?_, shaft := ?_, causes := ?_, viewers := ?_,
            kept := ?_ }, stands⟩
  · rw [mc]; exact ⟨rfl, rfl⟩
  · rw [mc]
  · rw [mc]; exact ⟨rfl, rfl, rfl⟩
  · rw [rp]; exact ⟨rfl, rfl, rfl, rfl, rfl, movedTx⟩
  · rw [rp]; exact ⟨rfl, rfl, rfl⟩
  · refine ⟨stepState, adopted, ?_, ?_⟩ <;> rw [stands]
  · intro d
    simp [shaftCauses, memberCauses, ringCauses]
  · rw [shaftScu]; exact viewers
  · rw [stands]
    refine ⟨rfl, rfl, rfl, ?_⟩
    dsimp only
    unfold State.bypassedPins
    split <;> rfl

/-- Where the ring is left, it is left from every state with the same fields that `State.LeftRing` names. -/
theorem State.LeftRing.congr {r : BypassReason} (h : t.LeftRing r u) (cfg : t.cfg = s.cfg) (tx : t.rp.tx = s.rp.tx)
    (line : t.su.line = s.su.line) (beat : t.su.beat = s.su.beat) (cu : t.cu = s.cu) (pending : t.pending = s.pending)
    (pins : t.pins = s.pins) : s.LeftRing r u :=
  { h with
    roster := by rw [h.roster, cfg]
    lanes := by rw [← tx]; exact h.lanes
    shaft := by rw [← line, ← beat]; exact h.shaft
    kept := by rw [← cfg, ← cu, ← pending, ← pins]; exact h.kept }

/-! ## The timers and the drain -/

/-- A step that takes the station to BYPASSED from a link state in which the bypass output is off. -/
theorem State.left_of_changeLink {i : Instr} {clock : Nat} {reason : BypassReason}
    (h : exec i s = .next ((s.atTime clock).changeLink .bypassed reason 0 0)) (on : s.mc.link.bypass = false) :
    ∃ u, exec i s = .next u ∧ u.now = max s.now clock ∧ s.LeftRing reason u ∧ u.pins.lock = false := by
  obtain ⟨left, stands⟩ := State.changeLink_leftRing reason 0 0 (s.atTime clock)
  refine ⟨_, h, stands.now_eq, left.congr rfl rfl rfl rfl rfl rfl rfl, ?_⟩
  have dropped : (s.atTime clock).bypassedPins .bypassed = { s.pins with lock := false } :=
    if_neg (by rw [State.atTime_mc, on]; decide)
  rw [stands.pins_eq]
  exact congrArg Pins.lock dropped

/-- A timer has run out when its end is reached. -/
theorem timerOut_iff (now : Nat) (timer : Option Nat) : timerOut now timer = true ↔ ∃ d, timer = some d ∧ d ≤ now := by
  cases timer <;> simp [timerOut]

theorem timerOut_running {now : Nat} {timer : Option Nat} (h : timer = none ∨ ∃ d, timer = some d ∧ now < d) :
    timerOut now timer = false := by
  rcases h with rfl | ⟨d, rfl, h⟩
  · rfl
  · simpa [timerOut] using h

/-- Settles O14. -/
theorem ringLeft : Obligations.RingLeft := by
  refine ⟨?insertion, ?leave, ?drain, ?inserting, ?leaving, ?undrained⟩
  case insertion =>
    intro t d s link timer due
    refine State.left_of_changeLink (s := s) ?_ (by rw [link]; rfl)
    have out : timerOut (max s.now t) s.mc.insTimer = true := (timerOut_iff ..).mpr ⟨d, timer, due⟩
    simp [exec, execInsertionTimeout, link, out]
  case leave =>
    intro t d s link timer due
    refine State.left_of_changeLink (s := s) ?_ (by rw [link]; rfl)
    have out : timerOut (max s.now t) s.mc.leaveTimer = true := (timerOut_iff ..).mpr ⟨d, timer, due⟩
    simp [exec, execLeaveTimeout, link, out]
  case drain =>
    intro t s link drained
    refine State.left_of_changeLink (s := s) ?_ (by rw [link]; rfl)
    simp [exec, execDrainComplete, link, drained]
  case inserting =>
    rintro t s (link | running)
    · simp [exec, execInsertionTimeout, link]
    · simp [exec, execInsertionTimeout, timerOut_running running]
  case leaving =>
    rintro t s (link | running)
    · simp [exec, execLeaveTimeout, link]
    · simp [exec, execLeaveTimeout, timerOut_running running]
  case undrained =>
    rintro t s (link | undrained)
    · simp [exec, execDrainComplete, link]
    · simp [exec, execDrainComplete, undrained]

end Sys2Proof.Machine
end

/-! The light check, and JOIN and LEAVE (R28 to R30, R37). -/

section
namespace Sys2Proof.Machine

variable {s t u : State}

/-! ## Changes of link state other than to BYPASSED (R26) -/

/-- With no frame in reception a change of the bypass output drops symbol lock and does nothing else. -/
theorem State.bypassMoved_idle (h : s.rp.rx = none) (new : LinkState) :
    s.bypassMoved new = { s with pins := s.bypassedPins new } := by
  have nothing : s.cutReception false [] = s := by
    unfold State.cutReception
    rw [h]
    rfl
  unfold State.bypassMoved State.bypassedPins State.switchBypass
  split
  · rfl
  · rw [nothing]
    rfl

theorem State.bypassMoved_same {new : LinkState} (h : new.bypass = s.mc.link.bypass) : s.bypassMoved new = s := if_pos h

/-- The event of a change to another link state than BYPASSED gives no reason. -/
theorem State.linkMoved_of_ne {new : LinkState} (h : new ≠ .bypassed) (reason : BypassReason) (a e : Nat) (s : State) :
    s.linkMoved new reason a e =
      ((s.bypassMoved new).onMc fun m => { m with link := new }).post (.linkChanged new s.mc.link .none a e) := by
  unfold State.linkMoved State.linkEvent
  simp only [if_neg h, State.onMc_mc]

/-- What an event looks like from states with the same Command Port, when the event queue and the count of lost events are
as the event left them. -/
theorem Posts.of_event {e : Event} {s' t' : State} (h : Posts e s t) (hs : s'.cmp = s.cmp)
    (ht : t'.cmp.event = t.cmp.event) (lost : t'.cmp.eventsLost = t.cmp.eventsLost) : Posts e s' t' := by
  unfold Posts at *
  rw [hs, ht, lost]
  exact h

/-! ## Test blocks (R29) -/

theorem State.takesBlocks_iff (s : State) : s.takesBlocks = true ↔ s.mc.link = .lightCheck ∧ s.pins.lock = true ∧
    s.mc.check.lockAt.isSome = true ∧ s.mc.check.returned < s.repeats := by
  simp [State.takesBlocks, and_assoc]

theorem exec_testBlock (t : Nat) (bytes : List Byte) (framed : Bool) (s : State) :
    exec (.testBlockReturn t bytes framed) s =
      .next (if s.takesBlocks = true then (s.atTime t).takeBlock bytes framed else s.atTime t) := rfl

/-- A block is in error when it is unframed, differs from the one expected, or comes too late. -/
theorem State.takeBlock_eq {l : Nat} (h : s.mc.check.lockAt = some l) (bytes : List Byte) (framed : Bool) :
    s.takeBlock bytes framed = { s with mc := { s.mc with check := { s.mc.check with
      returned := s.mc.check.returned + 1
      errors := s.mc.check.errors +
        (if framed = true ∧ bytes = testBlock s.mc.attempt s.mc.check.returned ∧ s.now ≤ l + checkTime s.repeats then 0
         else 1) } } } := by
  have late : s.blocksLate = decide (l + checkTime s.repeats < s.now) := by simp [State.blocksLate, h]
  have bad : (!framed || bytes != testBlock s.mc.attempt s.mc.check.returned || s.blocksLate).toNat =
      if framed = true ∧ bytes = testBlock s.mc.attempt s.mc.check.returned ∧ s.now ≤ l + checkTime s.repeats then 0
      else 1 := by
    rw [late]
    split
    · next good =>
      obtain ⟨rfl, rfl, time⟩ := good
      simp [time]
    · next wrong =>
      rw [Bool.toNat_eq_one]
      by_contra good
      simp only [Bool.or_eq_true, Bool.not_eq_true', bne_iff_ne, decide_eq_true_eq, not_or, Bool.not_eq_false, not_not,
        Nat.not_lt] at good
      exact wrong ⟨good.1.1, good.1.2, good.2⟩
  unfold State.takeBlock State.countBlock
  rw [bad]
  rfl

/-! ## Attempts (R29, R30) -/

/-- An attempt that begins with lock sends block 0 at once. -/
theorem State.startAttempt_eq (s : State) : s.startAttempt = { s with
    rp := { s.rp with tx := if s.pins.lock = true ∧ 0 < s.repeats then .test s.mc.attempt 0 else .idle }
    mc := { s.mc with check :=
      { start := s.now, lockAt := if s.pins.lock = true then some s.now else none, returned := 0, errors := 0 } } } := by
  generalize hv : (s.onMc fun m => { m with check :=
    { start := s.now, lockAt := if s.pins.lock = true then some s.now else none, returned := 0, errors := 0 } }) = v
  have block : v.testTx = if s.pins.lock = true ∧ 0 < s.repeats then .test s.mc.attempt 0 else .idle := by
    cases lock : s.pins.lock
    · simp [State.testTx, ← hv, lock]
    · simp only [State.testTx, ← hv, lock, State.onMc_mc, State.onMc_now, if_true, Nat.sub_self, Nat.zero_div,
        Nat.zero_mod, Nat.reduceLT, and_true, true_and]
      rfl
  have run : s.startAttempt = v.onRp fun r => { r with tx := v.testTx } := by rw [← hv]; rfl
  rw [run, block, ← hv]
  rfl

theorem State.endAttempt_good (s : State) : s.endAttempt 0 = s.changeLink .inserting .none s.mc.attempt 0 := rfl

/-- Errors before the third attempt begin a new one. -/
theorem State.endAttempt_again {n : Nat} (link : s.mc.link = .lightCheck) (h : n ≠ 0) (few : s.mc.attempt < 3) :
    ∃ u, s.endAttempt n = u ∧
      u = { s with
        cmp := u.cmp
        rp := { s.rp with tx := if s.pins.lock = true ∧ 0 < s.repeats then .test (s.mc.attempt + 1) 0 else .idle }
        mc := { s.mc with
          attempt := s.mc.attempt + 1
          check :=
            { start := s.now, lockAt := if s.pins.lock = true then some s.now else none, returned := 0
              errors := 0 } } } ∧
      Posts (.linkChanged .lightCheck .lightCheck .none s.mc.attempt n) s u := by
  have run : s.endAttempt n = ((s.onMc fun m => { m with attempt := s.mc.attempt + 1 }).post
      (.linkChanged .lightCheck .lightCheck .none s.mc.attempt n)).startAttempt := by
    unfold State.endAttempt
    rw [if_neg h, if_pos (by omega)]
    simp [State.linkEvent, link]
  rw [State.post_eq, State.startAttempt_eq] at run
  refine ⟨_, rfl, ?_, ?_⟩
  · rw [run]
    rfl
  · rw [run]
    exact (State.post_posts _ (s.onMc fun m => { m with attempt := s.mc.attempt + 1 })).congr rfl rfl

theorem State.endAttempt_failed {n : Nat} (h : n ≠ 0) (many : 3 ≤ s.mc.attempt) : s.endAttempt n =
    ((s.onMc fun m => { m with attempt := s.mc.attempt + 1 }).linkEvent .lightCheck s.mc.attempt n).changeLink
      .bypassed .linkFault s.mc.attempt 0 := by
  unfold State.endAttempt
  rw [if_neg h]
  exact if_neg (by omega)

/-- Both endings of an attempt end it with their error count. -/
theorem exec_attemptEnd {t n : Nat} {s : State} {i : Instr} (link : s.mc.link = .lightCheck)
    (h : (i = .lightCheckLockTimeout t ∧ s.mc.check.lockAt = none ∧ s.mc.check.start + 1000000 ≤ max s.now t ∧
        n = s.repeats) ∨
      (i = .lightCheckAttemptEnd t ∧ (∃ l, s.mc.check.lockAt = some l ∧
          (s.mc.check.returned = s.repeats ∨ l + checkTime s.repeats ≤ max s.now t)) ∧
        n = s.mc.check.errors + (s.repeats - s.mc.check.returned))) :
    exec i s = .next ((s.atTime t).endAttempt n) := by
  rcases h with ⟨rfl, unlocked, late, rfl⟩ | ⟨rfl, ⟨l, locked, due⟩, rfl⟩
  · exact congrArg _ (if_pos ⟨link, unlocked, late⟩)
  · have done : (s.atTime t).attemptOver = true := by
      unfold State.attemptOver
      rw [State.atTime_mc, locked]
      simp only [Bool.or_eq_true, beq_iff_eq, decide_eq_true_eq]
      exact due
    exact congrArg _ (if_pos ⟨link, done⟩)

/-- INSERTING is entered with its timer running (R31). -/
theorem State.enterInserting (link : s.mc.link = .lightCheck) (rx : s.rp.rx = none) (a : Nat) :
    ∃ u, s.changeLink .inserting .none a 0 = u ∧
      u = { s with
        pins := { s.pins with lock := false }, cmp := u.cmp, rp := { s.rp with tx := .idle }
        mc := { s.mc with link := .inserting, insTimer := some (s.now + 10000000) } } ∧
      Posts (.linkChanged .inserting .lightCheck .none a 0) s u := by
  have pins : s.bypassedPins .inserting = { s.pins with lock := false } := if_neg (by rw [link]; decide)
  have run : s.changeLink .inserting .none a 0 =
      ((s.linkMoved .inserting .none a 0).onMc fun m =>
        { m with insTimer := some ((s.linkMoved .inserting .none a 0).now + 10000000) }).onRp
          fun r => { r with tx := .idle } := rfl
  rw [State.linkMoved_of_ne (by decide), State.bypassMoved_idle rx, pins, link, State.post_eq] at run
  refine ⟨_, rfl, ?_, ?_⟩
  · rw [run]
    rfl
  · rw [run]
    exact (State.post_posts _ (State.onMc _ { s with pins := { s.pins with lock := false } })).congr rfl rfl

/-- Settles O13. -/
theorem lightCheckOutcome : Obligations.LightCheckOutcome := by
  refine ⟨?taken, ?idle, ?elsewhere, ?ended⟩
  case taken =>
    intro t bytes framed s l link lock at_ short
    have takes : s.takesBlocks = true := (State.takesBlocks_iff s).mpr ⟨link, lock, by rw [at_]; rfl, short⟩
    rw [exec_testBlock, if_pos takes, State.takeBlock_eq (s := s.atTime t) at_]
    rfl
  case idle =>
    intro t bytes framed s h
    have takes : ¬s.takesBlocks = true := by
      rw [State.takesBlocks_iff]
      rintro ⟨link, lock, at_, short⟩
      rcases h with h | h | h | h
      · exact h link
      · rw [lock] at h; cases h
      · rw [h] at at_; cases at_
      · omega
    rw [exec_testBlock, if_neg takes]
  case elsewhere =>
    intro t s h
    exact ⟨congrArg _ (if_neg fun k => h k.1), congrArg _ (if_neg fun k => h k.1)⟩
  case ended =>
    intro t n s i link rx h
    have run := exec_attemptEnd link h
    refine ⟨fun good => ?_, fun bad few => ?_, fun bad many => ?_⟩
    · subst good
      obtain ⟨u, changed, fields, posts⟩ := State.enterInserting (s := s.atTime t) link rx s.mc.attempt
      rw [State.endAttempt_good] at run
      exact ⟨u, run.trans (congrArg _ changed), fields, posts.congr rfl rfl⟩
    · obtain ⟨u, again, fields, posts⟩ := State.endAttempt_again (s := s.atTime t) link bad few
      exact ⟨u, run.trans (congrArg _ again), fields, posts.congr rfl rfl⟩
    · rw [State.endAttempt_failed (s := s.atTime t) bad many] at run
      obtain ⟨left, stands⟩ := State.changeLink_leftRing .linkFault s.mc.attempt 0
        (((s.atTime t).onMc fun m => { m with attempt := s.mc.attempt + 1 }).linkEvent .lightCheck s.mc.attempt n)
      refine ⟨_, run, stands.now_eq.trans ?_, left.congr ?_ ?_ ?_ ?_ ?_ ?_ ?_⟩
      all_goals simp [State.linkEvent]

/-! ## JOIN (R28) -/

/-- A command that is answered is answered too when its queue was the same before, but for the phase of the command in
flight. -/
theorem State.complete_answers_after {q : CmdQueue} {f : InFlight} {p : Phase} {w : State} (r : Result) (detail : Nat)
    (h : (s.cmp.q q).inFlight = some f) (hw : w.cmp.q q = { s.cmp.q q with inFlight := some { f with phase := p } }) :
    Answers q r detail s (w.complete q r detail) := by
  obtain ⟨g, inFlight, queue, last⟩ := State.complete_answers r detail (s := w) (q := q) (by rw [hw])
  rw [hw] at inFlight queue last
  cases inFlight
  exact ⟨f, h, queue, last⟩

theorem State.complete_answers_of_q {q : CmdQueue} {f : InFlight} {w : State} (r : Result) (detail : Nat)
    (h : (s.cmp.q q).inFlight = some f) (hw : w.cmp.q q = s.cmp.q q) : Answers q r detail s (w.complete q r detail) :=
  State.complete_answers_after (p := f.phase) r detail h (by rw [hw, ← h])

theorem Cmp.answered_event (q : CmdQueue) (r : Result) (detail now : Nat) (c : Cmp) :
    (c.answered q r detail now).event = c.event ∧ (c.answered q r detail now).eventsLost = c.eventsLost := by
  obtain ⟨event, lost, -, -⟩ := Cmp.answered_keeps q r detail now c
  exact ⟨event, lost⟩

theorem exec_join (h : s.taken .normal = some .join) : exec .join s = .next
    (if s.mc.link.isOut = true ∧ s.cfg.isSome = true then s.beginJoin.result .normal .done
     else s.result .normal .refusedState) := by
  simp only [exec, execJoin, h]

/-- The Membership Controller when a JOIN has latched its stamp. -/
def State.stamped (s : State) : State := s.onMc fun m => { m with joinStamp := m.ticks, attempt := 1, reason := .none }

/-- A JOIN that is taken posts its event and begins attempt 1. -/
theorem State.beginJoin_eq (out : s.mc.link.isOut = true) : s.beginJoin =
    ((s.stamped.onMc fun m => { m with link := .lightCheck }).post
      (.linkChanged .lightCheck s.mc.link .none 1 0)).startAttempt := by
  have same : LinkState.lightCheck.bypass = s.stamped.mc.link.bypass := by
    have bypass : s.mc.link.bypass = true := by
      cases link : s.mc.link <;> simp_all [LinkState.isOut, LinkState.bypass]
    exact bypass.symm
  have run : s.beginJoin = (s.stamped.linkMoved .lightCheck .none 1 0).startAttempt := rfl
  rw [run, State.linkMoved_of_ne (by decide), State.bypassMoved_same same]
  rfl

/-! ## LEAVE (R37) -/

/-- The normal queue is as it was but for the phase of the command in flight. -/
def Cmp.NormalKept (f : InFlight) (c d : Cmp) : Prop :=
  ∃ p, d.normal = { c.normal with inFlight := some { f with phase := p } }

theorem Cmp.NormalKept.of_inFlight {f : InFlight} {c d : Cmp} (h : c.normal.inFlight = some f)
    (k : d.normal = c.normal) : c.NormalKept f d := ⟨f.phase, by rw [k, ← h]⟩

theorem State.refusedFrame_normal (f : LaneFrame) (s : State) : (s.refusedFrame f).cmp.normal = s.cmp.normal := by
  unfold State.refusedFrame
  split
  · split
    · exact State.post_q _ s .normal
    · rfl
  · rfl

theorem State.offerScreen_normal (f : LaneFrame) (s : State) : (s.offerScreen f).cmp.normal = s.cmp.normal := by
  have offered : (s.offerR f).1.cmp = s.cmp := by rw [State.offerR_eq]
  unfold State.offerScreen
  dsimp only
  split
  · rw [State.refusedFrame_normal, offered]
  · rw [offered]

/-- A fold of steps that leave the normal queue leaves the normal queue. -/
theorem State.foldl_normal {α : Type} {f : State → α → State} (h : ∀ s a, (f s a).cmp.normal = s.cmp.normal)
    (l : List α) (s : State) : (l.foldl f s).cmp.normal = s.cmp.normal := by
  induction l generalizing s with
  | nil => rfl
  | cons a l ih => exact (ih _).trans (h s a)

theorem State.muPumpN_cmp (n : Nat) (s : State) : (s.muPumpN n).cmp = s.cmp := by
  induction n generalizing s with
  | zero => rfl
  | succ n ih =>
    have offered (f : LaneFrame) : (s.offerR f).1.cmp = s.cmp := by rw [State.offerR_eq]
    unfold State.muPumpN
    split
    · rfl
    · dsimp only
      split
      · exact offered _
      · exact (ih _).trans (offered _)

/-- A publication that goes on may answer the command in flight. -/
theorem State.pubAdvance_normal {f : InFlight} (h : s.cmp.normal.inFlight = some f) :
    s.cmp.NormalKept f s.pubAdvance.cmp := by
  unfold State.pubAdvance
  split
  · exact .of_inFlight h rfl
  · split
    · exact .of_inFlight h rfl
    · split
      · obtain ⟨g, inFlight, queue, -⟩ := State.complete_answers (s := s.onScu fun c => { c with pub := none })
          (q := .normal) .done 0 h
        have same : g = f := Option.some.inj (inFlight.symm.trans h)
        subst same
        exact ⟨.writing, queue⟩
      · exact .of_inFlight h rfl

theorem State.emptyBulk_normal {f : InFlight} (h : s.cmp.normal.inFlight = some f) :
    s.cmp.NormalKept f s.emptyBulk.cmp := by
  have refused : s.bulkRefused.cmp.normal = s.cmp.normal :=
    State.foldl_normal (fun s f => s.refusedFrame_normal f) _ _
  have dropped : s.bulkDropped.cmp.normal = s.cmp.normal := by
    unfold State.bulkDropped
    split <;> exact refused
  have offered : (s.bulkDropped.offerAll (behindWaiting s.rp.waitList s.rp.held)).cmp.normal = s.cmp.normal :=
    (State.foldl_normal (fun s f => s.offerScreen_normal f) _ _).trans dropped
  have pumped : ((s.bulkDropped.offerAll (behindWaiting s.rp.waitList s.rp.held)).muPump).cmp.normal = s.cmp.normal := by
    rw [State.muPump, State.muPumpN_cmp, offered]
  obtain ⟨p, kept⟩ := State.pubAdvance_normal (f := f) (by rw [pumped]; exact h)
  rw [State.emptyBulk_stages]
  exact ⟨p, by rw [kept, pumped]⟩

/-- A publication that goes on posts no event. -/
theorem State.pubAdvance_event (s : State) :
    s.pubAdvance.cmp.event = s.cmp.event ∧ s.pubAdvance.cmp.eventsLost = s.cmp.eventsLost := by
  unfold State.pubAdvance
  split
  · exact ⟨rfl, rfl⟩
  · split
    · exact ⟨rfl, rfl⟩
    · split
      · rw [State.result_eq]
        exact Cmp.answered_event ..
      · exact ⟨rfl, rfl⟩

/-- With no offer waiting the bulk lane is emptied, and a publication may go on. -/
theorem State.emptyBulk_idle (wait : s.rp.waitList = []) (held : s.rp.held = []) (sends : s.mu.sendList = []) :
    s.emptyBulk = (s.onRp fun r => { r with bulk := [], waitList := [], held := [] }).pubAdvance := by
  have refused : s.bulkRefused = s.onRp fun r => { r with bulk := [], waitList := [], held := [] } := by
    unfold State.bulkRefused Rp.waitingFrames
    rw [wait]
    rfl
  have dropped : s.bulkDropped = s.onRp fun r => { r with bulk := [], waitList := [], held := [] } := by
    unfold State.bulkDropped
    rw [wait]
    exact refused
  rw [State.emptyBulk_stages, dropped, wait, held]
  refine congrArg State.pubAdvance ?_
  exact State.muPump_nil (s := s.onRp fun r => { r with bulk := [], waitList := [], held := [] }) sends

theorem exec_leave (h : s.taken .normal = some .leave) : exec .leave s = .next
    (if s.mc.link = .member ∧ (!s.au.axes.any fun a => a.state.energised) = true then s.beginLeave.result .normal .done
     else s.result .normal .refusedState) := by
  simp only [exec, execLeave, h]

theorem Quad.any_iff {α : Type} (p : α → Bool) (q : Quad α) : q.any p = true ↔ ∃ i, p (q.get i) = true := by
  constructor
  · intro h
    simp only [Quad.any, Bool.or_eq_true] at h
    rcases h with ((h | h) | h) | h
    · exact ⟨0, h⟩
    · exact ⟨1, h⟩
    · exact ⟨2, h⟩
    · exact ⟨3, h⟩
  · rintro ⟨i, h⟩
    match i with
    | 0 | 1 | 2 | 3 => simp_all [Quad.any, Quad.get]

/-- The state of a LEAVE when the link state has changed and the event is posted. -/
def State.leaveMoved (s : State) : State :=
  (s.onMc fun m => { m with link := .leaving }).post (.linkChanged .leaving .member .none 0 0)

theorem State.beginLeave_eq (link : s.mc.link = .member) : s.beginLeave =
    s.leaveMoved.emptyBulk.offerHello.onMc fun m => { m with leaveTimer := some (s.now + 10000000) } := by
  have run : s.beginLeave = (s.linkMoved .leaving .none 0 0).emptyBulk.offerHello.onMc
    fun m => { m with leaveTimer := some (s.now + 10000000) } := rfl
  rw [run, State.linkMoved_of_ne (by decide), State.bypassMoved_same (by rw [link]; rfl), link]
  rfl

/-- Beside the ports, the send list and the publication a LEAVE sets the link state and its timer. -/
theorem State.beginLeave_bulkOnly (link : s.mc.link = .member) :
    State.BulkOnly { s with mc := { s.mc with link := .leaving, leaveTimer := some (s.now + 10000000) } }
      s.beginLeave := by
  have emptied := s.leaveMoved.emptyBulk_bulkOnly
  have moved : s.leaveMoved = { s with mc := { s.mc with link := .leaving }, cmp := s.leaveMoved.cmp } := by
    unfold State.leaveMoved
    rw [State.post_eq]
    rfl
  rw [State.beginLeave_eq link, State.offerHello, State.offer_eq]
  unfold State.BulkOnly at *
  generalize s.leaveMoved.emptyBulk = v at emptied ⊢
  rw [emptied, moved]
  rfl

/-- Settles O18. -/
theorem joinAndLeave : Obligations.JoinAndLeave := by
  refine ⟨?join, ?joinRefused, ?leave, ?leaveRefused⟩
  case join =>
    intro s taken out configured
    obtain ⟨f, inFlight, -⟩ := State.taken_inFlight taken
    have run := exec_join taken
    rw [if_pos ⟨out, configured⟩, State.beginJoin_eq out, State.post_eq, State.startAttempt_eq] at run
    generalize hc : (State.post _ _).cmp = c at run
    have queue : c.q .normal = s.cmp.q .normal := by
      rw [← hc]
      exact State.post_q ..
    refine ⟨_, run, State.complete_answers_of_q _ _ inFlight queue, ?_, ?_⟩
    · rw [State.result_eq]
      refine (State.post_posts (.linkChanged .lightCheck s.mc.link .none 1 0)
        (s.stamped.onMc fun m => { m with link := .lightCheck })).of_event rfl ?_ ?_
      · rw [hc]
        exact (Cmp.answered_event ..).1
      · rw [hc]
        exact (Cmp.answered_event ..).2
    · rw [State.result_eq]
      rfl
  case joinRefused =>
    intro s taken h
    rw [exec_join taken, if_neg, State.result_eq]
    rintro ⟨out, configured⟩
    rcases h with h | h
    · rw [out] at h; cases h
    · rw [h] at configured; cases configured
  case leave =>
    intro s taken link off
    obtain ⟨f, inFlight, -⟩ := State.taken_inFlight taken
    have run := exec_leave taken
    have unpowered : (!s.au.axes.any fun a => a.state.energised) = true := by
      rw [Bool.not_eq_true', Bool.eq_false_iff, ne_eq, Quad.any_iff]
      rintro ⟨i, h⟩
      exact Bool.eq_false_iff.mp (off i) h
    rw [if_pos ⟨link, unpowered⟩] at run
    have left := State.beginLeave_bulkOnly link
    have queue : s.cmp.NormalKept f s.beginLeave.cmp := by
      obtain ⟨p, kept⟩ := State.emptyBulk_normal (s := s.leaveMoved) (f := f) (by
        rw [← inFlight]
        exact congrArg CmdQ.inFlight (State.post_q _ _ .normal))
      refine ⟨p, ?_⟩
      rw [State.beginLeave_eq link, State.offerHello, State.offer_eq]
      refine kept.trans ?_
      have posted : s.leaveMoved.cmp.normal = s.cmp.normal := State.post_q _ _ .normal
      rw [posted]
    obtain ⟨p, kept⟩ := queue
    refine ⟨_, run, State.complete_answers_after (q := .normal) _ _ inFlight kept, ?_, ?_, ?_, ?_, ?_, ?_, ?_, ?_, ?_⟩
    case refine_9 =>
      rintro v rfl wait held sends
      have idle : s.leaveMoved.emptyBulk =
          (s.leaveMoved.onRp fun r => { r with bulk := [], waitList := [], held := [] }).pubAdvance := by
        refine State.emptyBulk_idle ?_ ?_ ?_ <;> simp [State.leaveMoved, wait, held, sends]
      generalize hw : (s.leaveMoved.onRp fun r => { r with bulk := [], waitList := [], held := [] }) = w at idle
      have advanced := w.pubAdvance_bulkOnly
      obtain ⟨event, lost⟩ := w.pubAdvance_event
      have cmp : w.cmp = s.leaveMoved.cmp := by rw [← hw]; rfl
      rw [State.result_eq, State.beginLeave_eq link, idle]
      refine ⟨?_, ?_⟩
      · refine (State.post_posts (.linkChanged .leaving .member .none 0 0)
          (s.onMc fun m => { m with link := .leaving })).of_event rfl ?_ ?_
        · rw [State.offerHello, State.offer_eq]
          exact (Cmp.answered_event ..).1.trans (event.trans (congrArg Cmp.event cmp))
        · rw [State.offerHello, State.offer_eq]
          exact (Cmp.answered_event ..).2.trans (lost.trans (congrArg Cmp.eventsLost cmp))
      · have hello : w.pubAdvance.helloFrame = wholeFrame .hello 0 (helloPayload
            { link := .leaving, shaftMember := s.shaftMember, speedAuthority := s.speedAuthority, step := s.su.step
              founder := s.su.founder, stamp := s.mc.joinStamp }) := by
          rw [advanced, ← hw, State.leaveMoved, State.post_eq]
          rfl
        refine Eq.trans (b := (w.pubAdvance.offer w.pubAdvance.helloFrame).rp) rfl ?_
        rw [hello]
        refine State.offer_rp_congr ?_ ?_ ?_ _
        · rw [State.pubAdvance_rp, ← hw]
          simp [State.leaveMoved]
        · rw [advanced.mc_eq, ← hw]
          simp [State.leaveMoved]
        · rw [advanced, ← hw]
          simp [State.leaveMoved]
    all_goals rw [State.result_eq, left]
  case leaveRefused =>
    intro s taken h
    rw [exec_leave taken, if_neg, State.result_eq]
    rintro ⟨link, off⟩
    rcases h with h | ⟨i, h⟩
    · exact h link
    · rw [Bool.not_eq_true', Bool.eq_false_iff, ne_eq, Quad.any_iff] at off
      exact off ⟨i, h⟩

end Sys2Proof.Machine
end

/-! Hello copies: the slot of another station, and the own number heard from elsewhere (R35, R36, R40, R41). -/

section
namespace Sys2Proof.Machine

variable {s t u : State}

/-! ## Slots (R39) -/

/-- A changed slot is what the change makes of it. -/
theorem State.slot_onSlot {n : Nat} {r : RosterSlot} (h : s.slot n = some r) (f : RosterSlot → RosterSlot) :
    (s.onSlot n f).slot n = some (f r) := by
  unfold State.slot at h ⊢
  split at h
  · cases h
  · next positive =>
    rw [if_neg positive, State.onSlot, if_neg positive, State.onMc_mc, List.getElem?_modify_eq, h]
    rfl

theorem State.slot_onSlot_ne {n k : Nat} (h : k ≠ n) (f : RosterSlot → RosterSlot) (s : State) :
    (s.onSlot n f).slot k = s.slot k := by
  unfold State.slot State.onSlot
  by_cases zero : k = 0
  · rw [if_pos zero, if_pos zero]
  · rw [if_neg zero, if_neg zero]
    split
    · rfl
    · rw [State.onMc_mc, List.getElem?_modify_ne _ _ (by omega)]

theorem State.slot_congr (h : t.mc.roster = s.mc.roster) (k : Nat) : t.slot k = s.slot k := by
  rw [State.slot, State.slot, h]

theorem State.onSlot_eq (n : Nat) (f : RosterSlot → RosterSlot) (s : State) :
    s.onSlot n f = { s with mc := { s.mc with roster := (s.onSlot n f).mc.roster } } := by
  unfold State.onSlot
  split <;> rfl

/-! ## What the handling of one slot can touch -/

/-- From `s` to `t` of the Membership Controller only the slot of station `n` changed, and the other blocks stand. -/
structure State.OneSlot (n : Nat) (s t : State) : Prop where
  stands : s.Stands t
  mc : t.mc = { s.mc with roster := t.mc.roster }
  others : ∀ k, k ≠ n → t.slot k = s.slot k

theorem State.OneSlot.trans {n : Nat} (h : s.OneSlot n t) (k : t.OneSlot n u) : s.OneSlot n u :=
  ⟨h.stands.trans k.stands, by rw [k.mc, h.mc], fun x ne => (k.others x ne).trans (h.others x ne)⟩

theorem State.Stands.oneSlot (h : s.Stands t) (mc : t.mc = s.mc) (n : Nat) : s.OneSlot n t :=
  ⟨h, by rw [mc], fun k _ => State.slot_congr (by rw [mc]) k⟩

theorem State.Reported.oneSlot (h : s.Reported t) (n : Nat) : s.OneSlot n t := h.stands.oneSlot h.mc_eq n

theorem State.OneSlot.post (n : Nat) (e : Event) (s : State) : s.OneSlot n (s.post e) := (State.Reported.post e s).oneSlot n

theorem State.OneSlot.onSlot (n : Nat) (f : RosterSlot → RosterSlot) (s : State) : s.OneSlot n (s.onSlot n f) := by
  refine ⟨?_, ?_, fun k ne => State.slot_onSlot_ne ne f s⟩
  · rw [State.onSlot_eq]
    rfl
  · rw [State.onSlot_eq]

/-! ## A peer dropped and removed (R41, R42) -/

/-- The state when a peer's slot is absent, its trips are orphaned, and its views and reports are gone. -/
def State.peerGone (n : Nat) (s : State) : State :=
  (((s.onSlot n fun r => .absent r.required).orphanWhere fun o => o == n).onScu (Scu.dropStation n)).onSu
    fun u => { u with reports := u.reports.filter fun r => r.peer != n }

theorem State.dropPeer_eq (n : Nat) (s : State) : s.dropPeer n =
    if ((s.slot n).any (·.required) && ((s.peerGone n).reportFalse 11 n).mc.link.isMember) = true then
      ((s.peerGone n).reportFalse 11 n).reportTrue 8 n
    else (s.peerGone n).reportFalse 11 n := rfl

theorem State.dropPeer_reported (n : Nat) (s : State) : (s.peerGone n).Reported (s.dropPeer n) := by
  rw [State.dropPeer_eq]
  have told := State.reportFalse_reported 11 n (s.peerGone n)
  exact .ite _ (told.trans (State.reportTrue_reported ..)) told

theorem State.peerGone_mc (n : Nat) (s : State) : (s.peerGone n).mc = (s.onSlot n fun r => .absent r.required).mc :=
  (State.orphanWhere_reported (fun o => o == n) _).mc_eq

theorem State.peerGone_oneSlot (n : Nat) (s : State) : s.OneSlot n (s.peerGone n) := by
  have orphans := State.orphanWhere_reported (fun o => o == n) (s.onSlot n fun r => .absent r.required)
  refine (State.OneSlot.onSlot n (fun r => .absent r.required) s).trans ?_
  exact (orphans.stands.trans (by rfl)).oneSlot (s.peerGone_mc n) n

theorem State.dropPeer_oneSlot (n : Nat) (s : State) : s.OneSlot n (s.dropPeer n) :=
  (s.peerGone_oneSlot n).trans ((s.dropPeer_reported n).oneSlot n)

/-- The slot of a peer that is dropped is empty but for its required flag. -/
theorem State.dropPeer_slot {n : Nat} {r : RosterSlot} (h : s.slot n = some r) :
    (s.dropPeer n).slot n = some (.absent r.required) := by
  have mc : (s.dropPeer n).mc = (s.onSlot n fun r => .absent r.required).mc :=
    (s.dropPeer_reported n).mc_eq.trans (s.peerGone_mc n)
  exact (State.slot_congr (congrArg Mc.roster mc) n).trans (State.slot_onSlot h _)

theorem State.removePeer_oneSlot (n : Nat) (reason : RosterReason) (s : State) :
    s.OneSlot n (s.removePeer n reason) :=
  (State.OneSlot.post n _ s).trans (State.dropPeer_oneSlot n _)

theorem State.removePeer_slot {n : Nat} {r : RosterSlot} (h : s.slot n = some r) (reason : RosterReason) :
    (s.removePeer n reason).slot n = some (.absent r.required) :=
  State.dropPeer_slot (s := s.post _) ((State.slot_congr (by simp) n).trans h)

theorem State.removeSilent_silent {n : Nat} {r : RosterSlot} (h : s.slot n = some r) (silent : r.silent = true) :
    s.removeSilent n = s.removePeer n .silent := by
  unfold State.removeSilent
  rw [if_pos (by rw [h]; exact silent)]

theorem State.removeSilent_heard {n : Nat} {r : RosterSlot} (h : s.slot n = some r) (heard : r.silent = false) :
    s.removeSilent n = s := by
  unfold State.removeSilent
  rw [if_neg (by rw [h]; exact Bool.eq_false_iff.mp heard)]

/-! ## An entry made present (R40) -/

/-- The entry that a Hello makes, with the required flag of the slot. -/
def HelloMsg.entry (m : HelloMsg) (hop : Nat) (required : Bool) : RosterSlot :=
  { present := true, link := m.link, shaftMember := m.shaftMember, speedAuthority := m.speedAuthority, stamp := m.stamp
    step := m.step, founder := m.founder, distance := hop + 1, silence := 0, required := required, view := .unknown
    exclusions := 0 }

theorem State.makePresent_eq (n hop : Nat) (m : HelloMsg) (s : State) :
    s.makePresent n hop m = (s.onSlot n fun r => m.entry hop r.required).reportFalse 8 n := rfl

theorem State.makePresent_oneSlot (n hop : Nat) (m : HelloMsg) (s : State) : s.OneSlot n (s.makePresent n hop m) := by
  rw [State.makePresent_eq]
  exact (State.OneSlot.onSlot n _ s).trans ((State.reportFalse_reported ..).oneSlot n)

theorem State.makePresent_slot {n : Nat} {r : RosterSlot} (h : s.slot n = some r) (hop : Nat) (m : HelloMsg) :
    (s.makePresent n hop m).slot n = some (m.entry hop r.required) ∧ (s.makePresent n hop m).causeTrue 8 n = false := by
  rw [State.makePresent_eq]
  have told := State.reportFalse_reported 8 n (s.onSlot n fun r => m.entry hop r.required)
  constructor
  · exact (State.slot_congr (congrArg Mc.roster told.mc_eq) n).trans (State.slot_onSlot h _)
  · rw [State.reportFalse_causeTrue]
    simp

/-! ## A Hello copy by the slot of its origin (R40) -/

section
variable {n hop : Nat} {m : HelloMsg} {r : RosterSlot}

/-- The Hello reports LISTEN or MEMBER. -/
def HelloMsg.joins (m : HelloMsg) : Prop := m.link = .listen ∨ m.link = .member

theorem HelloMsg.joins.kind (h : m.joins) : m.link ≠ .leaving ∧ ¬(m.link ≠ .listen ∧ m.link ≠ .member) := by
  rcases h with h | h <;> rw [h] <;> decide

theorem State.slotHello_added (h : s.slot n = some r) (absent : r.present = false) (joins : m.joins) :
    s.slotHello n hop m = (s.makePresent n hop m).post (.rosterChanged n .added) := by
  obtain ⟨stays, listed⟩ := joins.kind
  simp only [State.slotHello, h, if_neg stays, if_neg listed, absent, Bool.not_false, if_true]

/-- The entry with what a Hello of its own stamp says. -/
def HelloMsg.update (m : HelloMsg) (hop : Nat) (r : RosterSlot) : RosterSlot :=
  { r with
    link := m.link, shaftMember := m.shaftMember, speedAuthority := m.speedAuthority, step := m.step
    founder := m.founder, distance := hop + 1, silence := 0 }

/-- A Hello changes what a Roster changed event tells of. -/
def HelloMsg.changes (m : HelloMsg) (r : RosterSlot) : Bool :=
  m.link != r.link || m.shaftMember != r.shaftMember || m.speedAuthority != r.speedAuthority

theorem State.slotHello_same (h : s.slot n = some r) (present : r.present = true) (joins : m.joins)
    (stamp : m.stamp = r.stamp) : s.slotHello n hop m =
      if m.changes r = true then (s.onSlot n (m.update hop)).post (.rosterChanged n .changed)
      else s.onSlot n (m.update hop) := by
  obtain ⟨stays, listed⟩ := joins.kind
  simp only [State.slotHello, h, if_neg stays, if_neg listed, present, stamp, Bool.not_true, Bool.false_eq_true, if_false,
    if_true]
  rfl

theorem State.slotHello_replaced (h : s.slot n = some r) (present : r.present = true) (link : m.link = .listen)
    (stamp : m.stamp ≠ r.stamp) :
    s.slotHello n hop m = ((s.dropPeer n).makePresent n hop m).post (.rosterChanged n .replaced) := by
  simp [State.slotHello, h, link, present, stamp]

theorem State.slotHello_stranger (h : s.slot n = some r) (present : r.present = true) (link : m.link = .member)
    (stamp : m.stamp ≠ r.stamp) : s.slotHello n hop m = s.onSlot n fun x => { x with silence := 0 } := by
  simp [State.slotHello, h, link, present, stamp]

theorem State.slotHello_left (h : s.slot n = some r) (present : r.present = true) (link : m.link = .leaving) :
    s.slotHello n hop m = s.removePeer n .left := by
  simp [State.slotHello, h, link, present]

/-- A Hello that reports another link state is ignored, and so is the LEAVING of an absent station (log 53). -/
theorem State.slotHello_ignored (h : s.slot n = some r) (joins : m.link ≠ .listen ∧ m.link ≠ .member)
    (leaves : m.link = .leaving → r.present = false) : s.slotHello n hop m = s := by
  by_cases link : m.link = .leaving
  · simp [State.slotHello, h, link, leaves link]
  · simp [State.slotHello, h, link, joins]

/-- Whatever a Hello reports, it touches the slot of its origin alone. -/
theorem State.slotHello_oneSlot (h : s.slot n = some r) : s.OneSlot n (s.slotHello n hop m) := by
  by_cases joins : m.joins
  · cases present : r.present
    · rw [State.slotHello_added h present joins]
      exact (State.makePresent_oneSlot ..).trans (.post ..)
    · by_cases stamp : m.stamp = r.stamp
      · rw [State.slotHello_same h present joins stamp]
        split
        · exact (State.OneSlot.onSlot ..).trans (.post ..)
        · exact State.OneSlot.onSlot ..
      · rcases joins with link | link
        · rw [State.slotHello_replaced h present link stamp]
          exact ((State.dropPeer_oneSlot n s).trans (State.makePresent_oneSlot ..)).trans (.post ..)
        · rw [State.slotHello_stranger h present link stamp]
          exact State.OneSlot.onSlot ..
  · have others : m.link ≠ .listen ∧ m.link ≠ .member := not_or.mp joins
    by_cases leaves : m.link = .leaving ∧ r.present = true
    · rw [State.slotHello_left h leaves.2 leaves.1]
      exact State.removePeer_oneSlot ..
    · rw [State.slotHello_ignored h others fun link => Bool.eq_false_iff.mpr fun p => leaves ⟨link, p⟩]
      exact State.Stands.oneSlot (by rfl) rfl n

end

/-! ## A Hello copy from another station, after a removal that is due (R41) -/

section
variable {n hop : Nat} {m : HelloMsg} {r : RosterSlot}

theorem State.peerHello_silent (h : s.slot n = some r) (silent : r.silent = true) :
    s.peerHello n hop m = (s.removePeer n .silent).slotHello n hop m := by
  rw [State.peerHello, State.removeSilent_silent h silent]

theorem State.peerHello_heard (h : s.slot n = some r) (heard : r.silent = false) :
    s.peerHello n hop m = s.slotHello n hop m := by
  rw [State.peerHello, State.removeSilent_heard h heard]

theorem State.peerHello_oneSlot (h : s.slot n = some r) : s.OneSlot n (s.peerHello n hop m) := by
  cases silent : r.silent
  · rw [State.peerHello_heard h silent]
    exact State.slotHello_oneSlot h
  · rw [State.peerHello_silent h silent]
    exact (State.removePeer_oneSlot ..).trans (State.slotHello_oneSlot (State.removePeer_slot h _))

/-- A slot that is absent, or silent for four roster beats, takes the entry of a Hello that reports LISTEN or MEMBER. -/
theorem State.peerHello_entry (h : s.slot n = some r) (vacant : r.present = false ∨ r.silence = 4) (joins : m.joins) :
    (s.peerHello n hop m).slot n = some (m.entry hop r.required) ∧ (s.peerHello n hop m).causeTrue 8 n = false := by
  have added {v : State} {x : RosterSlot} (hv : v.slot n = some x) (absent : x.present = false) :
      (v.slotHello n hop m).slot n = some (m.entry hop x.required) ∧
        (v.slotHello n hop m).causeTrue 8 n = false := by
    obtain ⟨slot, cause⟩ := State.makePresent_slot hv hop m
    rw [State.slotHello_added hv absent joins]
    exact ⟨(State.slot_congr (by simp) n).trans slot, by rw [State.causeTrue, State.post_tu]; exact cause⟩
  cases silent : r.silent
  · have absent : r.present = false := by
      rcases vacant with absent | old
      · exact absent
      · simpa [RosterSlot.silent, old] using silent
    rw [State.peerHello_heard h silent]
    exact added h absent
  · rw [State.peerHello_silent h silent]
    have entered := added (State.removePeer_slot h .silent) rfl
    exact entered

/-- Another stamp that reports LISTEN makes the entry anew. -/
theorem State.peerHello_replaced (h : s.slot n = some r) (present : r.present = true) (link : m.link = .listen)
    (stamp : m.stamp ≠ r.stamp) : (s.peerHello n hop m).slot n = some (m.entry hop r.required) := by
  by_cases old : r.silence = 4
  · exact (State.peerHello_entry h (.inr old) (.inl link)).1
  · have heard : r.silent = false := by simp [RosterSlot.silent, old]
    rw [State.peerHello_heard h heard, State.slotHello_replaced h present link stamp]
    obtain ⟨slot, -⟩ := State.makePresent_slot (State.dropPeer_slot h) hop m
    exact (State.slot_congr (by simp) n).trans slot

end

/-! ## The own number heard from elsewhere (R35, R36) -/

theorem exec_hello {c : Copy} {rest : List Copy} (h : s.inMc = c :: rest) :
    exec .helloCopy s = .next (State.takeHello c { s with inMc := rest }) := by
  simp only [exec, execHelloCopy, h]

section
variable {c : Copy} {m : HelloMsg}

theorem State.takeHello_own (h : parseHello c.payload = some m) (own : (parseHeader c.header).origin = s.ownStation) :
    s.takeHello c = s.ownHello (parseHeader c.header).hop m := by
  simp only [State.takeHello, h, own, if_true]

theorem State.takeHello_peer (h : parseHello c.payload = some m) (other : (parseHeader c.header).origin ≠ s.ownStation) :
    s.takeHello c = if s.mc.link.inRing = true then
      s.peerHello (parseHeader c.header).origin (parseHeader c.header).hop m else s := by
  simp only [State.takeHello, h, other, if_false]

end

/-- An event posted behind it changes nothing of a ring that is left. -/
theorem State.LeftRing.post {r : BypassReason} (h : s.LeftRing r t) (e : Event) : s.LeftRing r (t.post e) := by
  rw [State.post_eq]
  exact ⟨h.link, h.roster, h.timers, h.lanes, h.watch, h.shaft, h.causes, h.viewers, h.kept⟩

theorem State.foreignHello_listen (h : s.mc.link = .listen) (hop : Nat) (m : HelloMsg) : s.foreignHello hop m =
    (s.changeLink .bypassed .duplicateNumber 0 0).post (.duplicateSeen m.link hop m.stamp) := by
  unfold State.foreignHello
  rw [h]

/-- In MEMBER the number heard from a station in the ring makes cause 9 detail 1 true. -/
theorem State.foreignHello_member (h : s.mc.link = .member) {m : HelloMsg} (link : m.link = .member ∨ m.link = .leaving)
    (hop : Nat) : (s.foreignHello hop m).causeTrue 9 1 = true ∧
      (s.foreignHello hop m).mc = { s.mc with dupQuiet := 0, dupHeard := true } := by
  generalize hv : (s.endDuplicate.onMc fun c => { c with dupQuiet := 0, dupHeard := true }) = v
  have run : s.foreignHello hop m =
      if v.causeTrue 9 1 = true then v else (v.reportTrue 9 1).post (.duplicateSeen m.link hop m.stamp) := by
    unfold State.foreignHello
    rw [h]
    dsimp only
    rw [if_pos link, hv]
  have mc : v.mc = { s.mc with dupQuiet := 0, dupHeard := true } := by
    rw [← hv, State.onMc_mc, s.endDuplicate_reported.mc_eq]
  rw [run]
  split
  · next heard => exact ⟨heard, mc⟩
  · rw [State.causeTrue, State.post_tu, State.post_mc, (State.reportTrue_reported 9 1 v).mc_eq]
    exact ⟨State.reportTrue_true 9 1 v, mc⟩

theorem State.foreignHello_leaving (h : s.mc.link = .leaving) (hop : Nat) (m : HelloMsg) : s.foreignHello hop m = s := by
  unfold State.foreignHello
  rw [h]

theorem State.foreignHello_out (h : s.mc.link.inRing = false) (hop : Nat) (m : HelloMsg) : s.foreignHello hop m = s := by
  unfold State.foreignHello
  cases link : s.mc.link <;> simp_all [LinkState.inRing]

/-- Outside the ring a Hello copy is only taken. -/
theorem State.takeHello_out {c : Copy} {m : HelloMsg} (h : parseHello c.payload = some m)
    (out : s.mc.link.inRing = false) : s.takeHello c = s := by
  by_cases own : (parseHeader c.header).origin = s.ownStation
  · rw [State.takeHello_own h own, State.ownHello, State.foreignHello_out out]
    simp [out]
  · rw [State.takeHello_peer h own, if_neg (Bool.eq_false_iff.mp out)]

/-- Settles O15. -/
theorem helloCopies : Obligations.HelloCopies := by
  refine ⟨?none, ?unread, ?outside, ?peer, ?own, ?foreign⟩
  case none =>
    intro s h
    simp only [exec, execHelloCopy, h]
  case unread =>
    intro s c rest h unread
    rw [exec_hello h]
    simp only [State.takeHello, unread]
  case outside =>
    intro s c rest m h parsed out
    rw [exec_hello h, State.takeHello_out (s := { s with inMc := rest }) parsed out]
  case peer =>
    rintro s c rest m n r h parsed rfl other ring slot
    have run := exec_hello h
    rw [State.takeHello_peer (s := { s with inMc := rest }) parsed other, if_pos ring] at run
    generalize (parseHeader c.header).hop = hop at run ⊢
    generalize (parseHeader c.header).origin = n at run slot ⊢
    generalize hv : ({ s with inMc := rest } : State) = v at run
    have here : v.slot n = some r := by rw [← hv]; exact slot
    obtain ⟨stands, mc, others⟩ := State.peerHello_oneSlot (hop := hop) (m := m) here
    have heard (ne : r.silence ≠ 4) : v.peerHello n hop m = v.slotHello n hop m :=
      State.peerHello_heard here (by simp [RosterSlot.silent, ne])
    refine ⟨_, run, ?_, ?_, ?_, fun k ne => ?_, fun vacant joins => State.peerHello_entry here vacant joins,
      fun present fresh joins stamp => ?_, fun present link stamp => ?_,
      fun present fresh link stamp => ?_, fun present link => ?_, fun present old listen member => ?_,
      fun present fresh listen member leaving => ?_, fun absent listen member => ?_⟩
    · rw [stands.inMc_eq, ← hv]
    · rw [mc, ← hv]
    · rw [stands, ← hv]
    · exact (others k ne).trans (by rw [← hv]; rfl)
    · rw [heard fresh, State.slotHello_same here present joins stamp]
      have updated := State.slot_onSlot here (m.update hop)
      constructor
      · split
        · exact (State.slot_congr (by simp) n).trans updated
        · exact updated
      · intro news
        rw [if_pos (by simpa [HelloMsg.changes, or_assoc] using news)]
        refine (State.post_posts (.rosterChanged n .changed) (v.onSlot n (m.update hop))).congr ?_ rfl
        rw [State.onSlot_eq, ← hv]
    · have entered := State.peerHello_replaced (hop := hop) here present link stamp
      rw [HelloMsg.entry, link] at entered
      exact entered
    · rw [heard fresh, State.slotHello_stranger here present link stamp]
      refine ⟨?_, State.slot_onSlot here _⟩
      rw [State.onSlot_eq, ← hv]
    · by_cases old : r.silence = 4
      · rw [State.peerHello_silent here (by simp [RosterSlot.silent, present, old]),
          State.slotHello_ignored (State.removePeer_slot here _) (by rw [link]; decide) fun _ => rfl]
        exact State.removePeer_slot here _
      · rw [heard old, State.slotHello_left here present link]
        exact State.removePeer_slot here _
    · rw [State.peerHello_silent here (by simp [RosterSlot.silent, present, old]),
        State.slotHello_ignored (State.removePeer_slot here _) ⟨listen, member⟩ fun _ => rfl]
      exact State.removePeer_slot here _
    · rw [heard fresh, State.slotHello_ignored here ⟨listen, member⟩ fun link => absurd link leaving, ← hv]
    · rw [State.peerHello_heard here (by simp [RosterSlot.silent, absent]),
        State.slotHello_ignored here ⟨listen, member⟩ fun _ => absent, ← hv]
  case own =>
    intro s c rest m h parsed own stamp ring
    have run := exec_hello h
    rw [State.takeHello_own (s := { s with inMc := rest }) parsed own, State.ownHello] at run
    generalize hv : ({ s with inMc := rest } : State) = v at run
    have conditions : m.stamp = v.mc.joinStamp ∧ v.mc.link.inRing = true ∧ v.ownStation = s.ownStation := by
      rw [← hv]; exact ⟨stamp, ring, rfl⟩
    obtain ⟨same, inRing, station⟩ := conditions
    rw [if_pos same, if_pos inRing, station] at run
    refine ⟨_, run, ?_, fun r slot => ?_⟩
    · rw [State.onSlot_eq, ← hv]
    · exact State.slot_onSlot (by rw [← hv]; exact slot) _
  case foreign =>
    intro s c rest m h parsed own stamp
    have run := exec_hello h
    rw [State.takeHello_own (s := { s with inMc := rest }) parsed own, State.ownHello] at run
    generalize hv : ({ s with inMc := rest } : State) = v at run
    have mc : v.mc = s.mc := by rw [← hv]
    rw [if_neg (by rw [mc]; exact stamp)] at run
    refine ⟨_, run, fun link => ?_, fun link reported => ?_, fun link => ?_⟩
    · obtain ⟨left, stands⟩ := State.changeLink_leftRing .duplicateNumber 0 0 v
      rw [State.foreignHello_listen (by rw [mc]; exact link)]
      subst hv
      exact ⟨(State.post_inMc ..).trans stands.inMc_eq,
        (State.LeftRing.congr (s := s) left rfl rfl rfl rfl rfl rfl rfl).post _⟩
    · obtain ⟨cause, kept⟩ := State.foreignHello_member (s := v) (by rw [mc]; exact link) reported (parseHeader c.header).hop
      exact ⟨cause, by rw [kept, mc]⟩
    · rw [State.foreignHello_leaving (by rw [mc]; exact link), ← hv]

end Sys2Proof.Machine
end

/-! Entering MEMBER, the removal of a silent peer, and the end of a duplicate watch (R32 to R34, R36, R41, R42, R62, R65, R145,
R148, R151). -/

section
namespace Sys2Proof.Machine

variable {s t u : State}

/-! ## The frames of causes that become true in MEMBER and LEAVING (R148) -/

/-- An own cause is sent: it is not Masked and of Ring scope. -/
def State.Sends (c : Nat) (s : State) : Prop := (s.causeEntry c).1 ≠ .masked ∧ (s.causeEntry c).2 = .ring

theorem State.causeEntry_congr (h : t.cfg = s.cfg) (c : Nat) : t.causeEntry c = s.causeEntry c := by
  simp only [State.causeEntry, h]

/-- The RAISE frame of an own cause as composed now. -/
def State.raiseFrame (c d : Nat) (s : State) : LaneFrame :=
  s.tripFrame .raise c d ((s.su.beat + 2) % two32) s.su.founder

/-- In MEMBER and LEAVING a cause that becomes true offers its RAISE frame where it is sent. -/
theorem State.causeOn_rp (h : s.mc.link.isMember = true) (c d : Nat) : (s.Sends c → (s.causeOn c d).1.rp =
    (s.offer (s.raiseFrame c d)).rp) ∧ (¬s.Sends c → (s.causeOn c d).1.rp = s.rp) := by
  have raised (r : Raise) (f : Tu → Tu) : ((s.onTu f).raise r).1.rp = s.rp ∧ ((s.onTu f).raise r).1.mc = s.mc ∧
      ((s.onTu f).raise r).1.cfg = s.cfg :=
    ⟨State.raise_rp .., (State.raise_reported ..).mc_eq, (State.raise_reported ..).cfg_eq⟩
  have sends (r : Raise) (f : Tu → Tu) :
      ((s.onTu f).raise r).1.sendsTrips c = true ↔ (s.causeEntry c).2 = .ring := by
    obtain ⟨-, mc, cfg⟩ := raised r f
    simp [State.sendsTrips, mc, h, State.causeEntry_congr cfg]
  unfold State.causeOn
  dsimp only
  constructor
  · rintro ⟨unmasked, ring⟩
    rw [if_neg (by simp [State.unmasked, unmasked]), if_pos ((sends ..).mpr ring)]
    exact State.offer_rp_congr (raised ..).1 (congrArg Mc.link (raised ..).2.1) (raised ..).2.2 _
  · intro silent
    by_cases unmasked : (s.causeEntry c).1 ≠ .masked
    · rw [if_neg (by simp [State.unmasked, unmasked]), if_neg fun k => silent ⟨unmasked, (sends ..).mp k⟩]
      exact (raised ..).1
    · rw [if_pos (by simpa [State.unmasked] using unmasked)]
      rfl

/-- From `s` to `t` lateness was not reported, or the report sends no frame. -/
def State.LateUnsent (s t : State) : Prop := t.causeTrue 12 0 = s.causeTrue 12 0 ∨ ¬s.Sends 12

/-- The frames of a report that a cause is true. -/
def State.raiseFrames (c d : Nat) (s : State) : List LaneFrame :=
  if (s.causeEntry c).1 ≠ .masked ∧ (s.causeEntry c).2 = .ring ∧ s.causeTrue c d = false then [s.raiseFrame c d] else []

/-- A report that a cause is true offers its RAISE frame alone, when it comes without lateness (R148). -/
theorem State.reportTrue_rp (h : s.mc.link.isMember = true) {c d : Nat} (late : s.LateUnsent (s.reportTrue c d)) :
    (s.reportTrue c d).rp = (s.offers (s.raiseFrames c d)).rp := by
  cases already : s.causeTrue c d
  case true =>
    have unchanged : s.reportTrue c d = s := if_pos already
    simp [unchanged, State.raiseFrames, already]
  case false =>
    have run : s.reportTrue c d = (s.causeOn c d).1.reportLate (s.causeOn c d).2 := by
      unfold State.reportTrue
      rw [already]
      rfl
    obtain ⟨sent, unsent⟩ := State.causeOn_rp h c d
    have told := State.causeOn_reported c d s
    have on : (s.causeOn c d).1.rp = (s.offers (s.raiseFrames c d)).rp := by
      by_cases sends : s.Sends c
      · have frames : s.raiseFrames c d = [s.raiseFrame c d] := if_pos ⟨sends.1, sends.2, already⟩
        rw [sent sends, frames]
        rfl
      · have frames : s.raiseFrames c d = [] := if_neg fun k => sends ⟨k.1, k.2.1⟩
        rw [unsent sends, frames]
        rfl
    rw [← on, run]
    unfold State.reportLate
    split
    · next becomes =>
      have silent : ¬(s.causeOn c d).1.Sends 12 := by
        rcases late with same | silent
        · exfalso
          simp only [Bool.and_eq_true, Bool.not_eq_true', State.causeOn_true, Bool.or_eq_false_iff] at becomes
          rw [run, State.reportLate, if_pos, State.causeOn_true] at same
          · simp [State.causeOn_true, becomes.2.1] at same
          · simp [becomes.1, becomes.2, State.causeOn_true]
        · unfold State.Sends at *
          rw [State.causeEntry_congr told.cfg_eq]
          exact silent
      exact (State.causeOn_rp (by rw [told.mc_eq]; exact h) 12 0).2 silent
    · rfl

/-- What is among the own causes stays there under a report that another is true. -/
theorem State.reportTrue_mem {k : OwnCause} (c d : Nat) (h : k ∈ s.tu.causes) : k ∈ (s.reportTrue c d).tu.causes := by
  have on (x : State) (c d : Nat) (h : k ∈ x.tu.causes) : k ∈ (x.causeOn c d).1.tu.causes := by
    unfold State.causeOn
    dsimp only
    split
    · exact (insertCause_mem ..).mpr (.inr h)
    · split <;> simp only [State.offer_tu, State.raise_causes, State.onTu_tu, insertCause_mem, h, or_true]
  unfold State.reportTrue State.reportLate
  dsimp only
  split
  · exact h
  · split
    · exact on _ _ _ (on _ _ _ h)
    · exact on _ _ _ h

/-! ## Causes reported true in turn -/

/-- One cause reported true for the details of a list in turn. -/
def State.reportEvery (c : Nat) (l : List Nat) (s : State) : State := l.foldl (fun x d => x.reportTrue c d) s

theorem State.reportEvery_cons (c d : Nat) (l : List Nat) (s : State) :
    s.reportEvery c (d :: l) = (s.reportTrue c d).reportEvery c l := rfl

theorem State.reportEvery_reported (c : Nat) (l : List Nat) (s : State) : s.Reported (s.reportEvery c l) :=
  .foldl _ (fun s d => State.reportTrue_reported c d s) l s

theorem State.reportEvery_keeps (c : Nat) (l : List Nat) {x d : Nat} (h : s.causeTrue x d = true) :
    (s.reportEvery c l).causeTrue x d = true := by
  induction l generalizing s with
  | nil => exact h
  | cons n l ih => exact ih (State.reportTrue_keeps x d c n h)

theorem State.reportEvery_true (c : Nat) {l : List Nat} {d : Nat} (h : d ∈ l) (s : State) :
    (s.reportEvery c l).causeTrue c d = true := by
  induction l generalizing s with
  | nil => cases h
  | cons n l ih =>
    rcases List.mem_cons.mp h with rfl | h
    · exact State.reportEvery_keeps c l (State.reportTrue_true c d s)
    · exact ih h _

theorem State.reportEvery_mem (c : Nat) (l : List Nat) {k : OwnCause} (h : k ∈ s.tu.causes) :
    k ∈ (s.reportEvery c l).tu.causes := by
  induction l generalizing s with
  | nil => exact h
  | cons n l ih => exact ih (State.reportTrue_mem c n h)

theorem State.Sends.congr {c : Nat} (h : t.cfg = s.cfg) : t.Sends c ↔ s.Sends c := by
  simp only [State.Sends, State.causeEntry_congr h]

theorem State.raiseFrame_congr (h : s.Reported t) (c d : Nat) : t.raiseFrame c d = s.raiseFrame c d := by
  have su : t.su.beat = s.su.beat ∧ t.su.founder = s.su.founder := by rw [h.shaft]; exact ⟨rfl, rfl⟩
  rw [State.raiseFrame, State.raiseFrame, State.tripFrame_congr h.cfg_eq, su.1, su.2]

/-- The frames of details reported in turn: of each that was not true before, its RAISE frame. -/
theorem State.reportEvery_rp (h : s.mc.link.isMember = true) {c : Nat} {l : List Nat} (distinct : l.Nodup)
    (other : c ≠ 12) (late : s.LateUnsent (s.reportEvery c l)) : (s.reportEvery c l).rp = (s.offers
      (if (s.causeEntry c).1 ≠ .masked ∧ (s.causeEntry c).2 = .ring then
        (l.filter fun d => !s.causeTrue c d).map (s.raiseFrame c) else [])).rp := by
  induction l generalizing s with
  | nil =>
    rw [List.filter_nil, List.map_nil, ite_self]
    rfl
  | cons d l ih =>
    obtain ⟨new, distinct⟩ := List.nodup_cons.mp distinct
    have told := State.reportTrue_reported c d s
    have ne (x : Nat) : (12, 0) ≠ (c, x) := fun e => other (Prod.mk.inj e).1.symm
    have first : s.LateUnsent (s.reportTrue c d) := by
      rcases late with same | silent
      · refine .inl ?_
        cases before : s.causeTrue 12 0
        · rw [before, State.reportEvery_cons] at same
          exact Bool.eq_false_iff.mpr fun k => Bool.eq_false_iff.mp same (State.reportEvery_keeps c l k)
        · exact State.reportTrue_keeps 12 0 c d before
      · exact .inr silent
    have rest : (s.reportTrue c d).LateUnsent ((s.reportTrue c d).reportEvery c l) := by
      rcases late with same | silent
      · rcases first with once | silent
        · exact .inl (same.trans once.symm)
        · exact .inr fun k => silent ((State.Sends.congr told.cfg_eq).mp k)
      · exact .inr fun k => silent ((State.Sends.congr told.cfg_eq).mp k)
    have later : (l.filter fun x => !(s.reportTrue c d).causeTrue c x) = l.filter fun x => !s.causeTrue c x := by
      refine List.filter_congr fun x hx => ?_
      have differs : x ≠ d := fun e => new (e ▸ hx)
      rw [State.reportTrue_other c d c x s (fun e => differs (Prod.mk.inj e).2) (ne x).symm]
    have frames : (s.reportTrue c d).raiseFrame c = s.raiseFrame c := by
      funext x
      exact State.raiseFrame_congr told c x
    rw [State.reportEvery_cons, ih (by rw [told.mc_eq]; exact h) distinct rest, later, frames,
      State.causeEntry_congr told.cfg_eq]
    refine (State.offers_offers_rp (State.reportTrue_rp h first) (by rw [told.mc_eq]) told.cfg_eq _).trans ?_
    congr 2
    unfold State.raiseFrames
    by_cases sends : (s.causeEntry c).1 ≠ .masked ∧ (s.causeEntry c).2 = .ring
    · rw [if_pos sends, if_pos sends, List.filter_cons]
      cases already : s.causeTrue c d <;> simp [sends.1, sends.2]
    · rw [if_neg sends, if_neg sends, if_neg fun k => sends ⟨k.1, k.2.1⟩]
      rfl

/-! ## The RAISE frames of entering MEMBER (R151) -/

/-- The cause is the one of `c`. -/
def OwnCause.same (c x : OwnCause) : Bool := x.cause == c.cause && x.detail == c.detail

/-- A cause with the apply beat and founder of a RAISE composed anew. -/
def OwnCause.stamp (beat founder : Nat) (x : OwnCause) : OwnCause := { x with beat := beat, founder := founder }

/-- The causes once the RAISE frames of a list have been composed anew. -/
def stampAll (beat founder : Nat) (l cs : List OwnCause) : List OwnCause :=
  l.foldl (fun cs c => cs.map fun x => if c.same x = true then x.stamp beat founder else x) cs

theorem stampAll_stamped {beat founder : Nat} {k : OwnCause} (l : List OwnCause) {cs : List OwnCause}
    (h : k.stamp beat founder ∈ cs) : k.stamp beat founder ∈ stampAll beat founder l cs := by
  induction l generalizing cs with
  | nil => exact h
  | cons c l ih =>
    refine ih (List.mem_map.mpr ⟨_, h, ?_⟩)
    split <;> rfl

theorem stampAll_mem {beat founder : Nat} {k : OwnCause} {l cs : List OwnCause} (hl : k ∈ l) (h : k ∈ cs) :
    k.stamp beat founder ∈ stampAll beat founder l cs := by
  induction l generalizing cs with
  | nil => cases hl
  | cons c l ih =>
    by_cases same : c.same k = true
    · exact stampAll_stamped l (List.mem_map.mpr ⟨k, h, if_pos same⟩)
    · rcases List.mem_cons.mp hl with rfl | hl
      · exact absurd (by simp [OwnCause.same]) same
      · exact ih hl (List.mem_map.mpr ⟨k, h, if_neg same⟩)

/-- Which causes are true does not depend on their apply beats and founders. -/
theorem stampAll_any (beat founder c d : Nat) (l cs : List OwnCause) :
    ((stampAll beat founder l cs).any fun x => x.cause == c && x.detail == d) =
      cs.any fun x => x.cause == c && x.detail == d := by
  induction l generalizing cs with
  | nil => rfl
  | cons k l ih =>
    refine (ih _).trans ?_
    rw [List.any_map]
    congr 1
    funext x
    simp only [Function.comp]
    split <;> rfl

theorem State.raiseOnEntry_eq (s : State) (c : OwnCause) : s.raiseOnEntry c = { s with
    rp := (s.offer (s.raiseFrame c.cause c.detail)).rp
    tu := { s.tu with
      causes := s.tu.causes.map fun x =>
        if c.same x = true then x.stamp ((s.su.beat + 2) % two32) s.su.founder else x } } := by
  unfold State.raiseOnEntry
  dsimp only
  rw [State.offer_eq]
  have rp : ((s.onTu fun u => { u with causes := u.causes.map fun x =>
      if (x.cause == c.cause && x.detail == c.detail) = true then
        { x with beat := (s.su.beat + 2) % two32, founder := s.su.founder }
      else x }).offer (s.raiseFrame c.cause c.detail)).rp = (s.offer (s.raiseFrame c.cause c.detail)).rp :=
    State.offer_rp_congr (by rfl) (by rfl) (by rfl) _
  rw [← rp]
  rfl

theorem State.foldl_raiseOnEntry_eq (l : List OwnCause) (s : State) : l.foldl State.raiseOnEntry s = { s with
    rp := (s.offers (l.map fun c => s.raiseFrame c.cause c.detail)).rp
    tu := { s.tu with causes := stampAll ((s.su.beat + 2) % two32) s.su.founder l s.tu.causes } } := by
  induction l generalizing s with
  | nil => rfl
  | cons c l ih =>
    have frames (x : OwnCause) : (s.raiseOnEntry c).raiseFrame x.cause x.detail = s.raiseFrame x.cause x.detail := by
      rw [State.raiseOnEntry_eq]
      rfl
    have rp : ((s.raiseOnEntry c).offers (l.map fun x => s.raiseFrame x.cause x.detail)).rp =
        (s.offers ((c :: l).map fun x => s.raiseFrame x.cause x.detail)).rp := by
      rw [List.map_cons, State.offers_cons, State.raiseOnEntry_eq]
      exact State.offers_rp_congr (by rfl) (by rw [State.offer_eq]) (by rw [State.offer_eq]) _
    rw [List.foldl_cons, ih]
    simp only [frames]
    rw [rp, State.raiseOnEntry_eq]
    rfl

/-! ## The change to MEMBER (R32, R62, R65) -/

/-- The state when the link state is MEMBER, its event is posted, and the Shaft Unit has no adopted history. -/
def State.memberMoved (s : State) : State :=
  ((s.onMc fun m => { m with link := .member }).post (.linkChanged .member s.mc.link .none 0 0)).onSu
    fun u => { u with adopted := false, heldHistory := false, rosterSinceMember := 0 }

/-- The state when a shaft member has entered ADOPTING. -/
def State.memberShaft (s : State) : State :=
  if s.shaftMember = true then
    (s.memberMoved.changeStep fun u => { u with step := .adopting, founder := 0 }).forgetViews
  else s.memberMoved

theorem State.memberMoved_eq (s : State) : s.memberMoved = { s with
    mc := { s.mc with link := .member }, cmp := s.memberMoved.cmp
    su := { s.su with adopted := false, heldHistory := false, rosterSinceMember := 0 } } := by
  unfold State.memberMoved
  rw [State.post_eq]
  rfl

theorem State.changeLink_member (link : s.mc.link = .listen) :
    s.changeLink .member .none 0 0 = s.memberShaft.raisesOnEntry := by
  have run : s.changeLink .member .none 0 0 = (s.linkMoved .member .none 0 0).shaftMembered.raisesOnEntry := rfl
  have shaft : s.memberMoved.shaftMember = s.shaftMember := by rw [State.memberMoved_eq]; rfl
  rw [run, State.linkMoved_of_ne (by decide), State.bypassMoved_same (by rw [link]; rfl)]
  unfold State.shaftMembered State.memberShaft
  rw [← shaft]
  rfl

/-- The founder of a station that enters MEMBER (log 90 for one that is not a shaft member). -/
def State.entryFounder (s : State) : Nat := if s.shaftMember = true then 0 else s.su.founder

/-- What the change to MEMBER leaves, beside its frames. -/
theorem State.memberShaft_keeps (s : State) : s.memberShaft.cfg = s.cfg ∧
    s.memberShaft.mc = { s.mc with
      link := .member, roster := if s.shaftMember = true then s.mc.roster.map RosterSlot.unseen else s.mc.roster } ∧
    s.memberShaft.su.line = s.su.line ∧ s.memberShaft.su.beat = s.su.beat ∧ s.memberShaft.su.adopted = false ∧
    s.memberShaft.su.step = (if s.shaftMember = true then .adopting else s.su.step) ∧
    s.memberShaft.su.founder = s.entryFounder := by
  have moved := s.memberMoved_eq
  unfold State.memberShaft State.entryFounder
  split
  · obtain ⟨-, mc, su, -⟩ := s.memberMoved.changeStep_keeps fun u => { u with step := .adopting, founder := 0 }
    have told := (s.memberMoved.changeStep fun u => { u with step := .adopting, founder := 0 }).forgetViews_reported
    have cfg : (s.memberMoved.changeStep fun u => { u with step := .adopting, founder := 0 }).cfg = s.cfg := by
      rw [State.changeStep, State.stepEvent, State.post_cfg, moved]
      rfl
    refine ⟨told.cfg_eq.trans cfg, ?_, ?_, ?_, ?_, ?_, ?_⟩
    · rw [told.mc_eq, State.onMc_mc, mc, moved]
    all_goals
      rw [told.shaft, State.onMc_su, su, moved]
  · rw [moved]
    exact ⟨rfl, rfl, rfl, rfl, rfl, rfl, rfl⟩

/-- Where no cause 11 is true the change to MEMBER reports no cause. -/
theorem State.memberShaft_calm (h : ∀ d, s.causeTrue 11 d = false) :
    s.memberShaft.rp = s.rp ∧ s.memberShaft.tu = s.tu := by
  have moved := s.memberMoved_eq
  unfold State.memberShaft
  split
  · obtain ⟨rp, -, -, tu, -⟩ := s.memberMoved.changeStep_keeps fun u => { u with step := .adopting, founder := 0 }
    rw [moved] at rp tu
    have none : (s.tu.causes.filter fun c => c.cause == 11 && true) = [] := by
      rw [List.filter_eq_nil_iff]
      intro c hc k
      simp only [Bool.and_true, beq_iff_eq] at k
      exact Bool.eq_false_iff.mp (h c.detail) (List.any_eq_true.mpr ⟨c, hc, by simp [k]⟩)
    have quiet (x : State) (hx : x.tu = s.tu) : x.forgetViews =
        x.onMc fun m => { m with roster := m.roster.map RosterSlot.unseen } := by
      unfold State.forgetViews State.reportAllFalse
      rw [State.onMc_tu, hx, none]
      rfl
    rw [moved, quiet _ tu]
    exact ⟨rp, tu⟩
  · rw [moved]
    exact ⟨rfl, rfl⟩

/-! ## The step (R32, R33) -/

/-- The state when the change to MEMBER has offered its RAISE frames. -/
def State.memberRaised (s : State) : State := s.memberShaft.raisesOnEntry

theorem State.memberRaised_eq (s : State) : s.memberRaised = { s.memberShaft with
    rp := (s.memberShaft.offers (s.memberShaft.sentCauses.map fun c => s.memberShaft.raiseFrame c.cause c.detail)).rp
    tu := { s.memberShaft.tu with
      causes := stampAll ((s.memberShaft.su.beat + 2) % two32) s.memberShaft.su.founder s.memberShaft.sentCauses
        s.memberShaft.tu.causes } } := State.foldl_raiseOnEntry_eq _ _

/-- Entering MEMBER forgets views; which stations are present it leaves. -/
theorem State.memberRaised_missing (s : State) : s.memberRaised.missingRequired = s.missingRequired := by
  obtain ⟨cfg, mc, -⟩ := s.memberShaft_keeps
  have roster : s.memberRaised.mc.roster =
      if s.shaftMember = true then s.mc.roster.map RosterSlot.unseen else s.mc.roster := by
    rw [State.memberRaised_eq]
    exact congrArg Mc.roster mc
  have config : s.memberRaised.cfg = s.cfg := by
    rw [State.memberRaised_eq]
    exact cfg
  have present (n : Nat) : s.memberRaised.isPresent n = s.isPresent n := by
    unfold State.isPresent State.slot
    rw [roster]
    split
    · rfl
    · split
      · rw [List.getElem?_map]
        cases s.mc.roster[n - 1]? <;> rfl
      · rfl
  have own : s.memberRaised.ownStation = s.ownStation := by rw [State.ownStation, State.ownStation, config]
  unfold State.missingRequired
  simp only [present, own, config]

/-- The state of a station that has entered MEMBER. -/
def State.memberEntered (s : State) : State := (s.memberRaised.reportEvery 8 s.missingRequired).offerHello

theorem exec_enterMember (link : s.mc.link = .listen) (third : s.mc.listen = 3) :
    exec .enterMember s = .next s.memberEntered := by
  have run : exec .enterMember s = .next (((s.changeLink .member .none 0 0).missingRequired.foldl
      (fun x n => x.reportTrue 8 n) (s.changeLink .member .none 0 0)).offerHello) := congrArg _ (if_pos ⟨link, third⟩)
  have raised : s.changeLink .member .none 0 0 = s.memberRaised := State.changeLink_member link
  rw [run, raised, State.memberRaised_missing]
  rfl

theorem State.missingRequired_nodup (s : State) : s.missingRequired.Nodup :=
  List.Nodup.filter _ (List.Nodup.map (fun _ _ h => Nat.succ.inj h) List.nodup_range)

theorem State.mem_missingRequired {n : Nat} (low : 1 ≤ n) (high : n ≤ 31)
    (required : ((s.cfg.map Cfg.required).getD 0).getLsbD n = true) (other : n ≠ s.ownStation)
    (absent : s.isPresent n = false) : n ∈ s.missingRequired := by
  refine List.mem_filter.mpr ⟨List.mem_map.mpr ⟨n - 1, List.mem_range.mpr (by omega), by omega⟩, ?_⟩
  rw [required, absent]
  simpa using other

theorem State.memberEntered_causes (s : State) :
    s.memberEntered.tu = (s.memberRaised.reportEvery 8 s.missingRequired).tu := State.offer_tu ..

/-! ### Its frames -/

/-- The Hello of a station in MEMBER. -/
def State.memberHello (s : State) : LaneFrame :=
  wholeFrame .hello 0 (helloPayload
    { link := .member, shaftMember := s.shaftMember, speedAuthority := s.speedAuthority
      step := if s.shaftMember = true then .adopting else s.su.step, founder := s.entryFounder
      stamp := s.mc.joinStamp })

theorem State.memberEntered_hello (s : State) :
    (s.memberRaised.reportEvery 8 s.missingRequired).helloFrame = s.memberHello := by
  obtain ⟨cfg, mc, -, -, -, stepState, founder⟩ := s.memberShaft_keeps
  have told := State.reportEvery_reported 8 s.missingRequired s.memberRaised
  have config : (s.memberRaised.reportEvery 8 s.missingRequired).cfg = s.cfg := by
    rw [told.cfg_eq, State.memberRaised_eq]
    exact cfg
  have controller : (s.memberRaised.reportEvery 8 s.missingRequired).mc = s.memberShaft.mc := by
    rw [told.mc_eq, State.memberRaised_eq]
  have shaft : (s.memberRaised.reportEvery 8 s.missingRequired).su.step = s.memberShaft.su.step ∧
      (s.memberRaised.reportEvery 8 s.missingRequired).su.founder = s.memberShaft.su.founder := by
    rw [told.shaft, State.memberRaised_eq]
    exact ⟨rfl, rfl⟩
  simp only [State.helloFrame, State.memberHello, State.shaftMember, State.speedAuthority, config, controller, mc,
    shaft.1, shaft.2, stepState, founder]

/-- The RAISE frame of an own cause of Ring scope as a station entering MEMBER composes it. -/
def State.entryFrame (c d : Nat) (s : State) : LaneFrame :=
  wholeFrame .trip 0
    (tripPayload .raise ⟨s.ownStation, c, d⟩ (s.causeEntry c).1 .ring ((s.su.beat + 2) % two32) s.entryFounder)

theorem State.memberShaft_frame {c : Nat} (ring : (s.causeEntry c).2 = .ring) (d : Nat) :
    s.memberShaft.raiseFrame c d = s.entryFrame c d := by
  obtain ⟨cfg, -, -, beat, -, -, founder⟩ := s.memberShaft_keeps
  rw [State.raiseFrame, State.tripFrame_congr cfg, beat, founder, State.tripFrame, State.entryFrame, ring]

/-- Of the states on the way to MEMBER where no cause 11 is true: which causes are sent and true, and the frames offered
before cause 8 is reported. -/
theorem State.memberRaised_calm (calm : ∀ d, s.causeTrue 11 d = false) :
    s.memberRaised.rp = (State.offers (s.sentCauses.map fun k => s.entryFrame k.cause k.detail)
      { s with mc := { s.mc with link := .member } }).rp ∧
    s.memberRaised.tu.causes = stampAll ((s.su.beat + 2) % two32) s.entryFounder s.sentCauses s.tu.causes := by
  obtain ⟨cfg, mc, -, beat, -, -, founder⟩ := s.memberShaft_keeps
  obtain ⟨rp, tu⟩ := State.memberShaft_calm calm
  have sent : s.memberShaft.sentCauses = s.sentCauses := by
    unfold State.sentCauses State.unmasked
    simp only [tu, State.causeEntry_congr cfg]
  have frames : (s.sentCauses.map fun c => s.memberShaft.raiseFrame c.cause c.detail) =
      s.sentCauses.map fun k => s.entryFrame k.cause k.detail := by
    refine List.map_congr_left fun k hk => State.memberShaft_frame ?_ k.detail
    have kept := (List.mem_filter.mp hk).2
    simp only [Bool.and_eq_true, beq_iff_eq] at kept
    exact kept.2
  rw [State.memberRaised_eq, sent, frames, tu, beat, founder]
  exact ⟨State.offers_rp_congr (s := { s with mc := { s.mc with link := .member } }) rp
    ((congrArg Mc.link mc).trans rfl) cfg _, rfl⟩

/-- Where no cause 11 is true, the offers of a station that enters MEMBER: a RAISE of every cause that is sent, one for each
station that is found missing, and the Hello. -/
theorem State.memberEntered_rp (calm : ∀ d, s.causeTrue 11 d = false)
    (late : s.memberEntered.causeTrue 12 0 = s.causeTrue 12 0 ∨ ¬s.Sends 12) :
    s.memberEntered.rp = (State.offers
      (s.sentCauses.map (fun k => s.entryFrame k.cause k.detail) ++
        (if (s.causeEntry 8).1 ≠ .masked ∧ (s.causeEntry 8).2 = .ring then
          (s.missingRequired.filter fun n => !s.causeTrue 8 n).map (s.entryFrame 8) else []) ++ [s.memberHello])
      { s with mc := { s.mc with link := .member } }).rp := by
  obtain ⟨cfg, mc, -⟩ := s.memberShaft_keeps
  obtain ⟨rp, causes⟩ := State.memberRaised_calm calm
  have config : s.memberRaised.cfg = s.cfg := by rw [State.memberRaised_eq]; exact cfg
  have link : s.memberRaised.mc.link = .member := by
    rw [State.memberRaised_eq]
    exact (congrArg Mc.link mc)
  have same (c d : Nat) : s.memberRaised.causeTrue c d = s.causeTrue c d := by
    rw [State.causeTrue, causes, stampAll_any]
    rfl
  have frames (ring : (s.causeEntry 8).2 = .ring) : s.memberRaised.raiseFrame 8 = s.entryFrame 8 := by
    funext d
    rw [← State.memberShaft_frame ring, State.memberRaised_eq]
    rfl
  have unsent : s.memberRaised.LateUnsent (s.memberRaised.reportEvery 8 s.missingRequired) := by
    rw [State.causeTrue, State.memberEntered_causes] at late
    rcases late with once | silent
    · exact .inl (Eq.trans once (same 12 0).symm)
    · exact .inr fun k => silent ((State.Sends.congr config).mp k)
  have told := State.reportEvery_reported 8 s.missingRequired s.memberRaised
  have missing := State.reportEvery_rp (by rw [link]; rfl) s.missingRequired_nodup (by decide) unsent
  have every : (s.memberRaised.reportEvery 8 s.missingRequired).rp = (State.offers
      (s.sentCauses.map (fun k => s.entryFrame k.cause k.detail) ++
        (if (s.causeEntry 8).1 ≠ .masked ∧ (s.causeEntry 8).2 = .ring then
          (s.missingRequired.filter fun n => !s.causeTrue 8 n).map (s.entryFrame 8) else []))
      { s with mc := { s.mc with link := .member } }).rp := by
    rw [missing, State.causeEntry_congr config]
    refine (State.offers_offers_rp rp link config _).trans ?_
    congr 3
    split
    · next sends =>
      rw [frames sends.2]
      simp only [same]
    · rfl
  have hello : s.memberEntered.rp = ((s.memberRaised.reportEvery 8 s.missingRequired).offers [s.memberHello]).rp := by
    rw [← State.memberEntered_hello]
    rfl
  rw [hello]
  exact State.offers_offers_rp every (by rw [told.mc_eq]; exact link) (told.cfg_eq.trans config) _

/-! ## A silent peer removed (R41, R42) -/

/-- Entries of other stations in the trip table of `t` are there in the one of `s`. -/
def State.ForeignKept (s t : State) : Prop :=
  t.ownStation = s.ownStation ∧ ∀ e ∈ t.tu.table, e.key.origin ≠ s.ownStation → e ∈ s.tu.table

theorem State.ForeignKept.trans (h : s.ForeignKept t) (k : t.ForeignKept u) : s.ForeignKept u := by
  refine ⟨k.1.trans h.1, fun e he foreign => h.2 e (k.2 e he ?_) foreign⟩
  rw [h.1]
  exact foreign

theorem State.ForeignKept.of_table (h : t.tu.table = s.tu.table) (cfg : t.cfg = s.cfg) : s.ForeignKept t :=
  ⟨by rw [State.ownStation, State.ownStation, cfg], fun e he _ => by rw [h] at he; exact he⟩

theorem State.ForeignKept.causes (f : List OwnCause → List OwnCause) (s : State) :
    s.ForeignKept (s.onTu fun u => { u with causes := f u.causes }) := .of_table rfl rfl

theorem State.ForeignKept.offer (f : LaneFrame) (s : State) : s.ForeignKept (s.offer f) :=
  .of_table (by rw [State.offer_tu]) (by rw [State.offer_eq])

theorem State.ForeignKept.refl (s : State) : s.ForeignKept s := .of_table rfl rfl

theorem State.ForeignKept.ite (b : Prop) [Decidable b] (ht : s.ForeignKept t) (hu : s.ForeignKept u) :
    s.ForeignKept (if b then t else u) := by
  split
  · exact ht
  · exact hu

/-- A change of an own entry leaves the others. -/
theorem Tu.onEntry_foreign {k : TripKey} {f : TripEntry → TripEntry} {u : Tu} {e : TripEntry}
    (hf : ∀ x, (f x).key = x.key) (h : e ∈ (u.onEntry k f).table) (ne : e.key.origin ≠ k.origin) : e ∈ u.table := by
  obtain ⟨x, hx, rfl⟩ := List.mem_map.mp h
  split at ne
  · next own =>
    rw [hf, beq_iff_eq.mp own] at ne
    exact absurd rfl ne
  · next other =>
    rw [if_neg other]
    exact hx

theorem State.raise_foreign {r : Raise} (own : r.key.origin = s.ownStation) : s.ForeignKept (s.raise r).1 := by
  refine ⟨by rw [State.ownStation, State.ownStation, (State.raise_reported r s).cfg_eq], fun e he foreign => ?_⟩
  unfold State.raise at he
  split at he
  · next none =>
    have table : e ∈ (s.tu.enlist (r.entry s.su.beat)).table := by
      have first (x : State) : (x.offerFirstTrip r).tu.table = x.tu.table := by
        unfold State.offerFirstTrip
        rw [State.onTu_tu]
        split <;> rfl
      have source (x : Tu) : (x.offerSource r).table = x.table := by unfold Tu.offerSource; split <;> rfl
      rwa [State.markChange_table, State.onTu_tu, source, first, State.raiseEffects_tu, State.onTu_tu] at he
    unfold Tu.enlist at table
    split at table
    · rcases List.mem_append.mp table with h | h
      · exact h
      · rw [List.mem_singleton.mp h] at foreign
        exact absurd own foreign
    · exact table
  · next x _ =>
    have table : e ∈ (s.tu.onEntry r.key (TripEntry.reraise r)).table := by
      dsimp only at he
      split at he
      · rwa [State.raiseEffects_tu, State.onTu_tu] at he
      · rwa [State.markChange_table, State.raiseEffects_tu, State.onTu_tu] at he
    exact Tu.onEntry_foreign (f := TripEntry.reraise r) (fun _ => rfl) table (by rw [own]; exact foreign)

theorem State.causeOn_foreign (c d : Nat) (s : State) : s.ForeignKept (s.causeOn c d).1 := by
  unfold State.causeOn
  dsimp only
  split
  · exact .causes _ s
  · refine State.ForeignKept.trans ?_ ((State.raise_foreign ?_).trans (.ite _ (.offer _ _) (.refl _)))
    · exact .causes _ s
    · rfl

theorem State.reportTrue_foreign (c d : Nat) (s : State) : s.ForeignKept (s.reportTrue c d) := by
  unfold State.reportTrue State.reportLate
  dsimp only
  split
  · exact .of_table rfl rfl
  · split
    · exact (State.causeOn_foreign ..).trans (State.causeOn_foreign ..)
    · exact State.causeOn_foreign ..

theorem State.clearTrip_foreign {k : TripKey} (own : k.origin = s.ownStation) : s.ForeignKept (s.clearTrip k) := by
  refine ⟨by rw [State.ownStation, State.ownStation, (State.clearTrip_reported k s).cfg_eq], fun e he foreign => ?_⟩
  unfold State.clearTrip at he
  split at he
  · exact he
  · split at he
    · exact he
    · rw [State.markChange_table] at he
      exact Tu.onEntry_foreign (f := fun x => { x with state := .cleared }) (fun _ => rfl) he (by rw [own]; exact foreign)

theorem State.reportFalse_foreign (c d : Nat) (s : State) : s.ForeignKept (s.reportFalse c d) := by
  unfold State.reportFalse State.causeOff
  split
  · split
    · exact .of_table rfl rfl
    · dsimp only
      have left : s.ForeignKept (s.onTu fun u =>
          { u with causes := u.causes.filter fun x => !(x.cause == c && x.detail == d) }) := .of_table rfl rfl
      refine left.trans ?_
      exact .ite _ ((State.clearTrip_foreign rfl).trans (.ite _ (.offer _ _) (.refl _))) (.refl _)
  · exact .of_table rfl rfl

/-- The table once the entries of a list of keys are orphaned. -/
theorem State.foldl_orphan_table (l : List TripKey) (s : State) :
    (l.foldl (fun x k => x.orphanTrip k) s).tu.table =
      s.tu.table.map fun e => if e.key ∈ l then { e with state := .orphaned, quiet := 0 } else e := by
  induction l generalizing s with
  | nil => simp
  | cons k l ih =>
    have one : (s.orphanTrip k).tu.table =
        s.tu.table.map fun e => if (e.key == k) = true then { e with state := .orphaned, quiet := 0 } else e := by
      unfold State.orphanTrip
      rw [State.markChange_table]
      rfl
    rw [List.foldl_cons, ih, one, List.map_map]
    refine List.map_congr_left fun e _ => ?_
    by_cases same : e.key = k
    · simp [same]
    · simp [same]

/-- After it no entry whose origin is meant is ACTIVE (R145). -/
theorem State.orphanWhere_active (p : Nat → Bool) (s : State) {e : TripEntry} (h : e ∈ (s.orphanWhere p).tu.table)
    (origin : p e.key.origin = true) : e.state ≠ .active := by
  unfold State.orphanWhere at h
  rw [State.foldl_orphan_table] at h
  obtain ⟨x, hx, rfl⟩ := List.mem_map.mp h
  split at origin
  · next listed =>
    rw [if_pos listed]
    exact TripState.noConfusion
  · next unlisted =>
    rw [if_neg unlisted]
    intro active
    refine unlisted (List.mem_map.mpr ⟨x, List.mem_filter.mpr ⟨hx, ?_⟩, rfl⟩)
    rw [active, origin]
    rfl

/-- What the removal of a peer leaves nothing of (R42, R145). -/
theorem State.dropPeer_gone {n : Nat} (other : n ≠ s.ownStation) :
    (∀ x ∈ (s.dropPeer n).su.reports, x.peer ≠ n) ∧
    (∀ e ∈ (s.dropPeer n).tu.table, e.key.origin = n → e.state ≠ .active) ∧
    (∀ i, ∀ v ∈ (s.dropPeer n).scu.viewers.get i, v.station ≠ n) ∧ (s.dropPeer n).causeTrue 11 n = false := by
  have told := s.dropPeer_reported n
  refine ⟨?_, ?_, ?_, ?_⟩
  · rw [told.shaft]
    intro x hx
    simpa using (List.mem_filter.mp hx).2
  · have foreign : (s.peerGone n).ForeignKept (s.dropPeer n) := by
      rw [State.dropPeer_eq]
      split
      · exact (State.reportFalse_foreign ..).trans (State.reportTrue_foreign ..)
      · exact State.reportFalse_foreign ..
    have own : (s.peerGone n).ownStation = s.ownStation := by
      rw [State.ownStation, State.ownStation, (s.peerGone_oneSlot n).stands.cfg_eq]
    intro e he origin
    have before := foreign.2 e he (by rw [own, origin]; exact other)
    exact State.orphanWhere_active (fun o => o == n) (s.onSlot n fun r => .absent r.required) before (by simp [origin])
  · intro i v hv
    rw [told.scu_eq] at hv
    have gone : v ∈ (((s.onSlot n fun r => .absent r.required).orphanWhere fun o => o == n).scu.viewers.map
      fun vs => vs.filter fun v => v.station != n).get i := hv
    rw [Quad.get_map] at gone
    simpa using (List.mem_filter.mp gone).2
  · rw [State.dropPeer_eq]
    split
    · rw [State.reportTrue_other 8 n 11 n _ (by simp) (by simp), State.reportFalse_causeTrue]
      simp
    · rw [State.reportFalse_causeTrue]
      simp

/-- A required peer that is removed makes cause 8 true in MEMBER and LEAVING. -/
theorem State.dropPeer_required {n : Nat} {r : RosterSlot} (h : s.slot n = some r) (required : r.required = true)
    (member : s.mc.link.isMember = true) : (s.dropPeer n).causeTrue 8 n = true := by
  have link : ((s.peerGone n).reportFalse 11 n).mc.link = s.mc.link := by
    rw [(State.reportFalse_reported ..).mc_eq, (s.peerGone_oneSlot n).mc]
  rw [State.dropPeer_eq, if_pos]
  · exact State.reportTrue_true ..
  · rw [h, link, member]
    simpa using required

theorem exec_silenceRemoval (n : Nat) (s : State) :
    exec (.silenceRemoval n) s = .next (if s.mc.link.inRing = true then s.removeSilent n else s) := rfl

/-- Settles O17. -/
theorem membersComeAndGo : Obligations.MembersComeAndGo := by
  refine ⟨fun s h => ?_, fun s link third => ?entered, ?frames, ?still, ?removed, ?watching, ?quiet⟩
  · exact congrArg _ (if_neg fun k => h.elim (fun h => h k.1) fun h => h k.2)
  case entered =>
    obtain ⟨cfg, mc, line, -, adopted, stepState, founder⟩ := s.memberShaft_keeps
    have told := State.reportEvery_reported 8 s.missingRequired s.memberRaised
    have entered : s.memberEntered =
        { s.memberRaised.reportEvery 8 s.missingRequired with rp := s.memberEntered.rp } := State.offer_eq ..
    have shaft : s.memberEntered.su.line = s.memberShaft.su.line ∧ s.memberEntered.su.adopted = s.memberShaft.su.adopted ∧
        s.memberEntered.su.step = s.memberShaft.su.step ∧ s.memberEntered.su.founder = s.memberShaft.su.founder := by
      rw [entered, told.shaft, State.memberRaised_eq]
      exact ⟨rfl, rfl, rfl, rfl⟩
    have controller : s.memberEntered.mc = s.memberShaft.mc := by
      rw [entered, told.mc_eq, State.memberRaised_eq]
    refine ⟨_, exec_enterMember link third, ?_, ?_, ?_, ?_, fun member => ?_, fun member => ?_,
      fun n low high required other absent => ?_⟩
    · rw [controller, mc]
    · rw [shaft.2.1, adopted]
    · rw [shaft.1, line]
    · rw [entered, told.cfg_eq, State.memberRaised_eq]
      exact cfg
    · rw [shaft.2.2.1, shaft.2.2.2, stepState, founder, State.entryFounder, if_pos member, if_pos member]
      exact ⟨rfl, rfl⟩
    · rw [shaft.2.2.1, controller, stepState, mc]
      simp [member]
    · rw [State.causeTrue, State.memberEntered_causes]
      exact State.reportEvery_true 8 (State.mem_missingRequired low high required other absent) _
  case frames =>
    rintro s v b g lost frame link third calm rfl rfl rfl rfl rfl
    obtain ⟨-, causes⟩ := State.memberRaised_calm calm
    refine ⟨_, exec_enterMember link third, fun k hk unmasked ring => ?_, fun late => ?_⟩
    · rw [State.memberEntered_causes]
      refine State.reportEvery_mem 8 s.missingRequired ?_
      rw [causes]
      exact stampAll_mem (List.mem_filter.mpr ⟨hk, by simp [State.unmasked, unmasked, ring]⟩) hk
    · have unsent : s.memberEntered.causeTrue 12 0 = s.causeTrue 12 0 ∨ ¬s.Sends 12 := by
        rcases late with same | masked | here
        · exact .inl same
        · exact .inr fun sends => sends.1 masked
        · exact .inr fun sends => by rw [sends.2] at here; cases here
      rw [State.memberEntered_rp calm unsent]
      have lost : (s.missingRequired.filter fun n => !s.causeTrue 8 n) = ((List.range 31).map (· + 1)).filter (fun n =>
          ((s.cfg.map Cfg.required).getD 0).getLsbD n && n != s.ownStation && !s.isPresent n && !s.causeTrue 8 n) := by
        rw [State.missingRequired, List.filter_filter]
        exact List.filter_congr fun n _ => Bool.and_comm ..
      rw [lost]
      rfl
  case still =>
    intro s n h
    rw [exec_silenceRemoval]
    rcases h with absent | out | ⟨r, slot, here⟩
    · have heard : s.removeSilent n = s := if_neg (by rw [absent]; simp)
      rw [heard, ite_self]
    · rw [if_neg (Bool.eq_false_iff.mp out)]
    · have heard : r.silent = false := by
        rcases here with absent | fresh
        · simp [RosterSlot.silent, absent]
        · simp [RosterSlot.silent, fresh]
      rw [State.removeSilent_heard slot heard, ite_self]
  case removed =>
    intro s n r slot present silent ring other
    have run := exec_silenceRemoval n s
    rw [if_pos ring, State.removeSilent_silent slot (by simp [RosterSlot.silent, present, silent])] at run
    obtain ⟨-, mc, others⟩ := State.removePeer_oneSlot n .silent s
    have posted : (s.post (.rosterChanged n .silent)).slot n = some r := (State.slot_congr (by simp) n).trans slot
    obtain ⟨reports, entries, viewers, cause⟩ := State.dropPeer_gone (s := s.post (.rosterChanged n .silent)) (n := n)
      (by rw [State.ownStation, State.post_cfg]; exact other)
    refine ⟨_, run, State.removePeer_slot slot _, others, ?_, reports, entries, viewers, cause, fun required member => ?_⟩
    · rw [mc]
    · exact State.dropPeer_required posted required (by rw [State.post_mc]; exact member)
  case watching =>
    intro s h
    refine congrArg _ (if_neg ?_)
    rintro ⟨quiet, dup⟩
    rcases h with h | h
    · exact h quiet
    · rw [dup] at h; cases h
  case quiet =>
    intro s quiet dup
    have run : exec .duplicateQuiet s = .next (s.reportFalse 9 1) := congrArg _ (if_pos ⟨quiet, dup⟩)
    exact ⟨_, run, State.reportFalse_reported 9 1 s, (s.reportFalse_keeps 9 1).1,
      fun c d => State.reportFalse_causeTrue 9 1 c d s⟩

end Sys2Proof.Machine
end

/-! A tick start: what the blocks that act at it leave as it is, and the arithmetic of the tick (R28, R44, R46). -/

section
namespace Sys2Proof.Machine

variable {s t : State}

/-! ## What the blocks of a tick leave as it is -/

/-- The state with everything blanked out that the blocks acting at a tick, or the report of a cause, may change: the Ring and
Command Ports, the change list with its lateness, the Axis, Camera, Mark and Trip Units. -/
def State.backdrop (s : State) : State :=
  { s with
    rp := .reset, au := .reset (Quad.rep none), cu := .reset, mu := .reset, tu := .reset, cmp := .reset
    su := { s.su with list := [], calm := 0, lateThisBeat := false, lateChanges := 0, droppedEntries := 0 } }

@[simp] theorem State.onRp_backdrop (f : Rp → Rp) (s : State) : (s.onRp f).backdrop = s.backdrop := rfl
@[simp] theorem State.onAu_backdrop (f : Au → Au) (s : State) : (s.onAu f).backdrop = s.backdrop := rfl
@[simp] theorem State.onCu_backdrop (f : Cu → Cu) (s : State) : (s.onCu f).backdrop = s.backdrop := rfl
@[simp] theorem State.onMu_backdrop (f : Mu → Mu) (s : State) : (s.onMu f).backdrop = s.backdrop := rfl
@[simp] theorem State.onTu_backdrop (f : Tu → Tu) (s : State) : (s.onTu f).backdrop = s.backdrop := rfl
@[simp] theorem State.onCmp_backdrop (f : Cmp → Cmp) (s : State) : (s.onCmp f).backdrop = s.backdrop := rfl
@[simp] theorem State.onAxis_backdrop (i : Fin 4) (f : Axis → Axis) (s : State) :
    (s.onAxis i f).backdrop = s.backdrop := rfl
@[simp] theorem State.onCam_backdrop (i : Fin 4) (f : Cam → Cam) (s : State) : (s.onCam i f).backdrop = s.backdrop := rfl
@[simp] theorem State.onLoop_backdrop (i : Fin 4) (f : Loop → Loop) (s : State) :
    (s.onLoop i f).backdrop = s.backdrop := rfl

theorem State.Reported.backdrop_eq (h : s.Reported t) : t.backdrop = s.backdrop := by
  unfold State.backdrop
  rw [h.fields]
  dsimp only
  rw [h.shaft]

@[simp] theorem State.post_backdrop (e : Event) (s : State) : (s.post e).backdrop = s.backdrop :=
  (State.Reported.post e s).backdrop_eq

@[simp] theorem State.report_backdrop (c d : Nat) (b : Bool) (s : State) : (s.report c d b).backdrop = s.backdrop :=
  (State.report_reported c d b s).backdrop_eq

@[simp] theorem State.reportFalse_backdrop (c d : Nat) (s : State) : (s.reportFalse c d).backdrop = s.backdrop :=
  (State.reportFalse_reported c d s).backdrop_eq

@[simp] theorem State.reportAllFalse_backdrop (c : Nat) (p : Nat → Bool) (s : State) :
    (s.reportAllFalse c p).backdrop = s.backdrop := (State.reportAllFalse_reported c p s).backdrop_eq

@[simp] theorem State.offerR_backdrop (f : LaneFrame) (s : State) : (s.offerR f).1.backdrop = s.backdrop := by
  rw [State.offerR_eq]
  rfl

@[simp] theorem State.muPumpN_backdrop (n : Nat) (s : State) : (s.muPumpN n).backdrop = s.backdrop := by
  induction n generalizing s with
  | zero => rfl
  | succ n ih =>
    unfold State.muPumpN
    split
    · rfl
    · dsimp only
      split <;> simp [ih]

@[simp] theorem State.muPump_backdrop (s : State) : s.muPump.backdrop = s.backdrop := s.muPumpN_backdrop _

theorem State.eachAxis_backdrop {f : Fin 4 → State → State} (h : ∀ i s, (f i s).backdrop = s.backdrop) (s : State) :
    (s.eachAxis f).backdrop = s.backdrop := by
  simp only [State.eachAxis, h]

theorem State.foldl_backdrop {α : Type} {f : State → α → State} (h : ∀ s a, (f s a).backdrop = s.backdrop)
    (l : List α) (s : State) : (l.foldl f s).backdrop = s.backdrop := by
  induction l generalizing s with
  | nil => rfl
  | cons a l ih => exact (ih _).trans (h s a)

/-! ### The Axis Unit (R75, R83, R88) -/

@[simp] theorem State.changeAxis_backdrop (i : Fin 4) (f : Axis → Axis) (r : AxisReason) (s : State) :
    (s.changeAxis i f r).backdrop = s.backdrop := by simp [State.changeAxis, State.axisEvent]

@[simp] theorem State.stopEntry_backdrop (c : AxisCfg) (v : Nat) (i : Fin 4) (s : State) :
    (s.stopEntry c v i).backdrop = s.backdrop := by
  unfold State.stopEntry
  dsimp only
  split
  · rfl
  · split <;> simp

@[simp] theorem State.axisArithmetic_backdrop (c : AxisCfg) (i : Fin 4) (s : State) :
    (s.axisArithmetic c i).backdrop = s.backdrop := by
  unfold State.axisArithmetic State.axisEvent
  dsimp only
  split <;> simp

@[simp] theorem State.axisTick_backdrop (i : Fin 4) (s : State) : (s.axisTick i).backdrop = s.backdrop := by
  unfold State.axisTick
  split
  · split <;> simp
  · rfl

/-! ### The Camera Unit (R100, R107) -/

@[simp] theorem State.sweepTick_backdrop (s : State) : s.sweepTick.backdrop = s.backdrop := rfl

@[simp] theorem State.rearmTick_backdrop (s : State) : s.rearmTick.backdrop = s.backdrop := by
  unfold State.rearmTick
  split
  · refine State.eachAxis_backdrop (fun i s => ?_) s
    unfold State.rearmCamera
    split <;> simp
  · rfl

/-! ### The Mark Unit (R119 to R129) -/

@[simp] theorem State.loopEvent_backdrop (i : Fin 4) (p : LoopState) (r : LoopReason) (n : Option Nat) (s : State) :
    (s.loopEvent i p r n).backdrop = s.backdrop := State.post_backdrop _ s

@[simp] theorem State.takeCorrection_backdrop (a : Nat) (e : Int) (s : State) :
    (s.takeCorrection a e).backdrop = s.backdrop := by
  unfold State.takeCorrection State.discardCorrection
  split
  · split
    · split <;> simp
    · simp
  · simp

@[simp] theorem State.issueCorrection_backdrop (x : MarkEntry) (e : Int) (s : State) :
    (s.issueCorrection x e).backdrop = s.backdrop := by
  unfold State.issueCorrection State.sendCorrection
  split <;> simp

@[simp] theorem State.stepTolerance_backdrop (i : Fin 4) (c : CamCfg) (n : Nat) (e : Int) (s : State) :
    (s.stepTolerance i c n e).backdrop = s.backdrop := by
  unfold State.stepTolerance
  dsimp only
  repeat' split
  all_goals simp

@[simp] theorem State.judge_backdrop (i : Fin 4) (c : CamCfg) (r p n : Nat) (s : State) :
    (s.judge i c r p n).backdrop = s.backdrop := by
  unfold State.judge
  dsimp only
  split
  · rfl
  · split
    · unfold State.markMissing
      dsimp only
      split <;> simp
    · unfold State.markFound
      dsimp only
      split <;> simp

@[simp] theorem State.evaluateFull_backdrop (i : Fin 4) (c : CamCfg) (r : Nat) (p : Option Nat) (s : State) :
    (s.evaluateFull i c r p).backdrop = s.backdrop := by
  unfold State.evaluateFull
  dsimp only
  split
  · split <;> simp
  · exact State.foldl_backdrop (fun s n => s.judge_backdrop i c r _ n) _ _

@[simp] theorem State.evaluateSeek_backdrop (i : Fin 4) (c : CamCfg) (p : Option Nat) (s : State) :
    (s.evaluateSeek i c p).backdrop = s.backdrop := by
  unfold State.evaluateSeek
  dsimp only
  split
  · simp
  · split <;> simp

@[simp] theorem State.evaluate_backdrop (i : Fin 4) (c : CamCfg) (r : Nat) (s : State) :
    (s.evaluate i c r).backdrop = s.backdrop := by
  unfold State.evaluate
  split
  · rfl
  · split <;> simp

theorem State.loopTick_backdrop (now : Cov) (i : Fin 4) (s : State) : (s.loopTick now i).backdrop = s.backdrop := by
  unfold State.loopTick
  split
  · rfl
  · split
    · rfl
    · dsimp only
      split <;> simp

theorem State.loopCompare_backdrop (i : Fin 4) (s : State) : (s.loopCompare i).backdrop = s.backdrop := by
  unfold State.loopCompare State.loopSpeed
  dsimp only
  split
  · rfl
  · split
    · split <;> simp
    · split <;> simp
    all_goals rfl

@[simp] theorem State.markTick_backdrop (s : State) : s.markTick.backdrop = s.backdrop := by
  rw [State.markTick, State.onMu_backdrop, State.eachAxis_backdrop State.loopCompare_backdrop,
    State.eachAxis_backdrop (State.loopTick_backdrop _)]

/-- The blocks that act at a tick start. -/
theorem State.tickBlocks_backdrop (s : State) : s.tickBlocks.backdrop = s.backdrop := by
  rw [State.tickBlocks, State.markTick_backdrop, State.rearmTick_backdrop, State.sweepTick_backdrop,
    State.eachAxis_backdrop State.axisTick_backdrop]

/-- The Shaft Units of states with one backdrop differ in the change list and its lateness alone. -/
theorem State.su_of_backdrop (h : t.backdrop = s.backdrop) : t.su = { s.su with
    list := t.su.list, calm := t.su.calm, lateThisBeat := t.su.lateThisBeat, lateChanges := t.su.lateChanges
    droppedEntries := t.su.droppedEntries } :=
  congrArg (fun x => { x.su with
    list := t.su.list, calm := t.su.calm, lateThisBeat := t.su.lateThisBeat, lateChanges := t.su.lateChanges
    droppedEntries := t.su.droppedEntries }) h

/-! ## The end of a tick (R28, R46) -/

/-- The line state a tick start begins from: that of the tick in progress, which ends (log 8). -/
def Su.lineNow (u : Su) : Line := if u.inTick = true then u.line.commit u.next else u.line

/-- An axis that leaves a state at a tick end changes the Axis Unit and posts an event. -/
theorem State.axisTickEnd_eq (i : Fin 4) (s : State) :
    s.axisTickEnd i = { s with au := (s.axisTickEnd i).au, cmp := (s.axisTickEnd i).cmp } := by
  have changed (f : Axis → Axis) (r : AxisReason) :
      s.changeAxis i f r = { s with au := (s.changeAxis i f r).au, cmp := (s.changeAxis i f r).cmp } := by
    unfold State.changeAxis State.axisEvent
    rw [State.post_eq]
    rfl
  unfold State.axisTickEnd
  dsimp only
  split
  · split
    · exact changed _ _
    · rfl
  · split
    · exact changed _ _
    · rfl

theorem State.axisTickEnds_eq (s : State) : s.eachAxis State.axisTickEnd =
    { s with au := (s.eachAxis State.axisTickEnd).au, cmp := (s.eachAxis State.axisTickEnd).cmp } := by
  unfold State.eachAxis
  rw [State.axisTickEnd_eq 3, State.axisTickEnd_eq 2, State.axisTickEnd_eq 1, State.axisTickEnd_eq 0]

/-- A tick in progress ends with its values in the line state and the tick counter stepped. -/
theorem State.endTick_eq (s : State) : s.endTick = { s with
    su := { s.su with line := s.su.lineNow, inTick := false }
    mc := { s.mc with ticks := if s.su.inTick = true then (s.mc.ticks + 1) % two32 else s.mc.ticks }
    au := s.endTick.au, cmp := s.endTick.cmp } := by
  cases ticking : s.su.inTick
  · have same : s.endTick = s := by simp [State.endTick, ticking]
    have line : s.su.lineNow = s.su.line := by simp [Su.lineNow, ticking]
    rw [same, line, if_neg (by decide), ← ticking]
  · have run : s.endTick = ((s.onSu fun u => { u with line := u.line.commit u.next, inTick := false }).onMc fun m =>
        { m with ticks := (m.ticks + 1) % two32 }).eachAxis State.axisTickEnd := by simp [State.endTick, ticking]
    have line : s.su.lineNow = s.su.line.commit s.su.next := by simp [Su.lineNow, ticking]
    rw [run, State.axisTickEnds_eq, line]
    rfl

/-! ## The arithmetic of a tick (R46) -/

section
variable {normal fast : Nat} {l : Line}

theorem Line.tick_speed (normal fast : Nat) (l : Line) :
    (l.tick normal fast).speed = approach l.speed l.effTarget l.accel (l.effDecel normal fast) := by
  unfold Line.tick
  dsimp only
  split <;> rfl

/-- Without a stop the speed moves toward the target and does not pass it. -/
theorem Line.tick_running (h : l.stop = .none) : (l.tick normal fast).speed =
    if l.speed < l.target then min (l.speed + l.accel) l.target
    else if l.target < l.speed then max (l.speed - l.decel) l.target else l.speed := by
  rw [Line.tick_speed, Line.effTarget, if_pos h, Line.effDecel, h]
  rfl

/-- Under a stop it falls by the stop's rate, not below 0. -/
theorem Line.tick_stopping (h : l.stop ≠ .none) : (l.tick normal fast).speed = l.speed - l.effDecel normal fast := by
  rw [Line.tick_speed, Line.effTarget, if_neg h, approach, if_neg (Nat.not_lt_zero _)]
  split <;> omega

theorem Line.tick_below (h : l.angle + (l.tick normal fast).speed < two32) :
    (l.tick normal fast).angle = l.angle + (l.tick normal fast).speed ∧ (l.tick normal fast).rev = l.rev ∧
      (l.tick normal fast).revStep = false := by
  rw [Line.tick_speed] at h
  unfold Line.tick
  dsimp only
  rw [if_neg (Nat.not_le.mpr h)]
  exact ⟨rfl, rfl, rfl⟩

theorem Line.tick_beyond (h : two32 ≤ l.angle + (l.tick normal fast).speed) :
    (l.tick normal fast).angle = l.angle + (l.tick normal fast).speed - two32 ∧
      (l.tick normal fast).rev = (l.rev + 1) % 65536 ∧ (l.tick normal fast).revStep = true := by
  rw [Line.tick_speed] at h
  unfold Line.tick
  dsimp only
  rw [if_pos h]
  exact ⟨rfl, rfl, rfl⟩

end

/-- The state in which the blocks act at a tick start. -/
def State.ticked (s : State) : State :=
  { s with
    now := max s.now s.su.nextStart.toNat
    su := { s.su with
      line := s.su.lineNow, next := s.su.lineNow.tick s.normalRate s.fastRate, inTick := true
      tickStart := s.su.nextStart, tickEnd := s.su.nextStart + s.su.tickLens.getD s.su.tickIdx 125000
      tickIdx := s.su.tickIdx + 1 }
    mc := { s.mc with ticks := if s.su.inTick = true then (s.mc.ticks + 1) % two32 else s.mc.ticks } }

theorem State.tickAt_backdrop (s : State) : (s.tickAt s.su.nextStart).backdrop = s.ticked.backdrop := by
  unfold State.tickAt
  rw [State.tickBlocks_backdrop, State.endTick_eq]
  rfl

/-- Settles O19. -/
theorem tickArithmetic : Obligations.TickArithmetic := by
  refine ⟨fun s idle => congrArg _ (if_neg (Bool.eq_false_iff.mp idle)), ?due⟩
  rintro s l due rfl
  have line : s.su.lineNow = if s.su.inTick = true then
      { s.su.line with speed := s.su.next.speed, angle := s.su.next.angle, rev := s.su.next.rev } else s.su.line := rfl
  rw [← line]
  have kept := s.tickAt_backdrop
  have su := State.su_of_backdrop kept
  have next : (s.tickAt s.su.nextStart).su.next = s.su.lineNow.tick s.normalRate s.fastRate := by rw [su]; rfl
  have run : exec .tickStart s = .next (s.tickAt s.su.nextStart) := congrArg _ (if_pos due)
  generalize s.tickAt s.su.nextStart = u at kept su next run
  refine ⟨u, run, ?_, (congrArg State.mc kept :), (congrArg State.now kept :), (congrArg State.cfg kept :), (congrArg State.pins kept :),
    (congrArg State.scu kept :), fun running below => ?_, fun running above => ?_, fun running at_ => ?_, fun stopping => ?_,
    fun stopping => ?_, fun below => ?_, fun beyond => ?_⟩
  · rw [next]
    exact su
  · rw [next, Line.tick_running running, if_pos below]
  · rw [next, Line.tick_running running, if_neg (by omega), if_pos above]
  · rw [next, Line.tick_running running, if_neg (by omega), if_neg (by omega)]
  · rw [next, Line.tick_stopping (by rw [stopping]; decide), Line.effDecel, stopping]
  · rw [next, Line.tick_stopping (by rw [stopping]; decide), Line.effDecel, stopping]
  · rw [next] at below ⊢
    exact Line.tick_below below
  · rw [next] at beyond ⊢
    exact Line.tick_beyond beyond

end Sys2Proof.Machine
end

/-! The configuration block: which blocks pass the checks, and what a block that passes holds (R27, R70, R74, R97, R117,
R135, R190). -/

section
namespace Sys2Proof.Machine

/-- Every check of a list passes. -/
def Passes (l : List FieldCheck) : Prop := ∀ k ∈ l, k.ok = true

@[simp] theorem passes_nil : Passes [] := fun _ h => absurd h (List.not_mem_nil)

@[simp] theorem passes_cons (k : FieldCheck) (l : List FieldCheck) : Passes (k :: l) ↔ k.ok = true ∧ Passes l :=
  List.forall_mem_cons

@[simp] theorem passes_append (l m : List FieldCheck) : Passes (l ++ m) ↔ Passes l ∧ Passes m := List.forall_mem_append

/-- The checks of four units pass when those of each pass. -/
theorem passes_units (f : Nat → List FieldCheck) :
    Passes ((List.range 4).flatMap f) ↔ ∀ i : Fin 4, Passes (f i) := by
  constructor
  · intro h i k hk
    exact h k (List.mem_flatMap.mpr ⟨i, List.mem_range.mpr i.isLt, hk⟩)
  · intro h k hk
    obtain ⟨n, hn, hk⟩ := List.mem_flatMap.mp hk
    exact h ⟨n, List.mem_range.mp hn⟩ k hk

theorem checkConfig_iff (b : List Byte) (c : Cfg) :
    checkConfig b = .inl c ↔ c = configFields b ∧ Passes (configChecks b) := by
  unfold checkConfig Passes
  cases found : (configChecks b).find? fun k => !k.ok with
  | none =>
    have all : ∀ k ∈ configChecks b, k.ok = true := by simpa using List.find?_eq_none.mp found
    simp only [Sum.inl.injEq, and_iff_left all]
    exact eq_comm
  | some k =>
    have bad := List.find?_some found
    have mem := List.mem_of_find?_eq_some found
    simp only [reduceCtorEq, false_iff, not_and]
    intro _ all
    rw [all k mem] at bad
    cases bad

/-- A field of 0 selects its default: it lies in its range when the default does (10.6). -/
theorem orDefault_bounds {n d lo hi : Nat} (default : lo ≤ d ∧ d ≤ hi) (pos : 1 ≤ lo) :
    lo ≤ orDefault n d ∧ orDefault n d ≤ hi ↔ n = 0 ∨ lo ≤ n ∧ n ≤ hi := by
  unfold orDefault
  split <;> omega

theorem stationChecks_pass (b : List Byte) : Passes (stationChecks b) ↔
    1 ≤ (configFields b).station ∧ (configFields b).station ≤ 31 ∧ 12 ≤ (configFields b).repeats := by
  simp only [stationChecks, configFields, passes_cons, passes_nil, orDefault]
  split <;> simp_all [and_assoc]

theorem shaftChecks_pass (b : List Byte) : Passes (shaftChecks b) ↔
    (5000 ≤ (configFields b).exclusion ∧ (configFields b).exclusion ≤ 100000 ∧ 2 ≤ (configFields b).lead ∧
      (configFields b).lead ≤ 16) ∧
    (configFields b).maxSpeed ≤ 16777215 ∧ 1 ≤ (configFields b).normalRate ∧ 1 ≤ (configFields b).fastRate := by
  have exclusion := orDefault_bounds (n := rd b 12 4) (d := 50000) (lo := 5000) (hi := 100000) (by omega) (by omega)
  have lead := orDefault_bounds (n := rd b 16 1) (d := 4) (lo := 2) (hi := 16) (by omega) (by omega)
  simp only [shaftChecks, configFields, passes_cons, passes_nil, Bool.or_eq_true, Bool.and_eq_true, beq_iff_eq,
    decide_eq_true_eq, ← exclusion, ← lead]
  constructor
  · rintro ⟨⟨e1, e2⟩, ⟨l1, l2⟩, speed, normal, fast, -⟩
    exact ⟨⟨e1, e2, l1, l2⟩, speed, normal, fast⟩
  · rintro ⟨⟨e1, e2, l1, l2⟩, speed, normal, fast⟩
    exact ⟨⟨e1, e2⟩, ⟨l1, l2⟩, speed, normal, fast, trivial⟩

theorem causeChecks_pass (b : List Byte) : Passes (causeChecks b) ↔
    ∀ k, 1 ≤ k → k ≤ 21 → rd b (28 + k) 1 < 16 ∧ rd b (28 + k) 1 % 8 ≤ 4 := by
  simp only [Passes, causeChecks, List.forall_mem_map, List.mem_range, Bool.and_eq_true, decide_eq_true_eq]
  constructor
  · intro h k low high
    obtain ⟨i, rfl⟩ : ∃ i, k = 1 + i := ⟨k - 1, by omega⟩
    have := h i (by omega)
    rwa [show 29 + i = 28 + (1 + i) by omega] at this
  · intro h i hi
    have := h (1 + i) (by omega) (by omega)
    rwa [show 28 + (1 + i) = 29 + i by omega] at this

/-- An axis passes when it is present or not, and its fields are accepted where it is. -/
theorem axisChecks_pass (b : List Byte) (i : Fin 4) : Passes (axisChecks b i) ↔
    rd b (64 + 32 * i) 1 ≤ 1 ∧ ∀ a, axisFields b i = some a → a.Accepted := by
  unfold axisChecks axisFields
  dsimp only
  by_cases absent : rd b (64 + 32 * i) 1 = 0
  · simp [absent]
  · have limit := orDefault_bounds (n := rd b (64 + 32 * i + 20) 1) (d := 3) (lo := 1) (hi := 15) (by omega) (by omega)
    have range : 1 ≤ orDefault (rd b (64 + 32 * i + 20) 1) 3 ∧ orDefault (rd b (64 + 32 * i + 20) 1) 3 ≤ 15 ↔
        rd b (64 + 32 * i + 20) 1 ≤ 15 := limit.trans (by omega)
    simp only [absent, if_false, passes_cons, passes_nil, Option.some.injEq, forall_eq', Bool.and_eq_true,
      decide_eq_true_eq, beq_iff_eq, and_true, ← range]
    constructor
    · rintro ⟨present, n, ⟨d, whole⟩, ⟨⟨m2, m⟩, turns⟩, catchUp, accel, decel, fast, speed, step, follow, silent⟩
      exact ⟨present, ⟨n, d, whole, turns⟩, ⟨m2, m⟩, ⟨catchUp, accel, decel, fast⟩, speed, step,
        ⟨follow.1, follow.2, silent⟩⟩
    · rintro ⟨present, ⟨n, d, whole, turns⟩, ⟨m2, m⟩, ⟨catchUp, accel, decel, fast⟩, speed, step,
        ⟨follow1, follow2, silent⟩⟩
      exact ⟨present, n, ⟨d, whole⟩, ⟨⟨m2, m⟩, turns⟩, catchUp, accel, decel, fast, speed, step, ⟨follow1, follow2⟩,
        silent⟩

/-- A camera passes the Camera Unit's and the Mark Unit's checks in the same way. -/
theorem camChecks_pass (b : List Byte) (i : Fin 4) : Passes (camChecks b i) ∧ Passes (markChecks b i) ↔
    rd b (192 + 64 * i) 1 ≤ 1 ∧ ∀ c, camFields b i = some c → c.Accepted := by
  unfold camChecks markChecks camFields
  dsimp only
  by_cases absent : rd b (192 + 64 * i) 1 = 0
  · simp [absent]
  · simp only [absent, if_false, passes_cons, passes_nil, Option.some.injEq, forall_eq', Bool.and_eq_true,
      decide_eq_true_eq, beq_iff_eq, and_true]
    constructor
    · rintro ⟨⟨present, width, pitch, x01, x1, dec, height, w01, w1, base⟩, m01, m1, weight, missing, tol, speed⟩
      exact ⟨present, ⟨width.1, width.2, pitch⟩, ⟨x01, x1, dec.1, dec.2, height⟩, ⟨w01, w1⟩, base, ⟨m01, m1, weight⟩,
        ⟨missing.1, missing.2, tol⟩, speed⟩
    · rintro ⟨present, ⟨width1, width2, pitch⟩, ⟨x01, x1, dec1, dec2, height⟩, ⟨w01, w1⟩, base, ⟨m01, m1, weight⟩,
        ⟨missing1, missing2, tol⟩, speed⟩
      exact ⟨⟨present, ⟨width1, width2⟩, pitch, x01, x1, ⟨dec1, dec2⟩, height, w01, w1, base⟩, m01, m1, weight,
        ⟨missing1, missing2⟩, tol, speed⟩

theorem configFields_axis (b : List Byte) (i : Fin 4) : (configFields b).axes.get i = axisFields b i := by
  match i with | 0 | 1 | 2 | 3 => rfl

theorem configFields_cam (b : List Byte) (i : Fin 4) : (configFields b).cams.get i = camFields b i := by
  match i with | 0 | 1 | 2 | 3 => rfl

/-- A block passes when the configuration it holds is accepted, its flags are 0 or 1, and its cause bytes name a category. -/
theorem configChecks_pass (b : List Byte) : Passes (configChecks b) ↔
    (configFields b).Accepted ∧ rd b 448 1 ≤ 1 ∧
      (∀ n, n < 4 → rd b (64 + 32 * n) 1 ≤ 1 ∧ rd b (192 + 64 * n) 1 ≤ 1) ∧
      ∀ k, 1 ≤ k → k ≤ 21 → rd b (28 + k) 1 < 16 ∧ rd b (28 + k) 1 % 8 ≤ 4 := by
  simp only [configChecks, passes_append, passes_units, stationChecks_pass, shaftChecks_pass, causeChecks_pass,
    passes_cons, passes_nil, and_true, decide_eq_true_eq]
  constructor
  · rintro ⟨⟨⟨⟨⟨⟨station, timing, speed⟩, causes⟩, axes⟩, cams⟩, marks⟩, screen⟩
    have axis (i : Fin 4) := (axisChecks_pass b i).mp (axes i)
    have cam (i : Fin 4) := (camChecks_pass b i).mp ⟨cams i, marks i⟩
    exact ⟨⟨station, timing, speed, fun i a h => (axis i).2 a (configFields_axis b i ▸ h),
      fun i c h => (cam i).2 c (configFields_cam b i ▸ h)⟩, screen,
      fun n hn => ⟨(axis ⟨n, hn⟩).1, (cam ⟨n, hn⟩).1⟩, causes⟩
  · rintro ⟨accepted, screen, flags, causes⟩
    have axis (i : Fin 4) := (axisChecks_pass b i).mpr
      ⟨(flags i i.isLt).1, fun a h => accepted.axes i a ((configFields_axis b i).trans h)⟩
    have cam (i : Fin 4) := (camChecks_pass b i).mpr
      ⟨(flags i i.isLt).2, fun c h => accepted.cams i c ((configFields_cam b i).trans h)⟩
    exact ⟨⟨⟨⟨⟨⟨accepted.station, accepted.timing, accepted.speed⟩, causes⟩, axis⟩, fun i => (cam i).1⟩,
      fun i => (cam i).2⟩, screen⟩

end Sys2Proof.Machine
end

/-! What the reports of causes put into the pending change list, and a cause that is re-evaluated (R55, R134, R152). -/

section
namespace Sys2Proof.Machine

variable {s t u : State}

/-! ## Reports put STOP entries alone into the change list (R49, R55) -/

/-- From `s` to `t` the change list gained STOP entries only. -/
def State.StopsOnly (s t : State) : Prop := ∀ e ∈ t.su.list, e.isStop = false → e ∈ s.su.list

theorem State.StopsOnly.of_su (h : t.su = s.su) : s.StopsOnly t := fun _ he _ => h ▸ he

theorem State.StopsOnly.refl (s : State) : s.StopsOnly s := .of_su rfl

theorem State.StopsOnly.trans (h : s.StopsOnly t) (k : t.StopsOnly u) : s.StopsOnly u :=
  fun e he free => h e (k e he free) free

theorem insertRank_mem (b : Nat) (e x : Entry) (l : List Entry) : x ∈ insertRank b e l → x = e ∨ x ∈ l := by
  induction l with
  | nil => simp [insertRank]
  | cons y l ih =>
    unfold insertRank
    split
    · simp
    · simp only [List.mem_cons]
      rintro (rfl | h)
      · exact .inr (.inl rfl)
      · exact (ih h).imp_right .inr

theorem Su.fit_mem (e x : Entry) (u : Su) : x ∈ (u.fit e).list → x = e ∨ x ∈ u.list := by
  unfold Su.fit
  split
  · exact fun h => insertRank_mem _ _ _ _ h
  · exact fun h => insertRank_mem _ _ _ _ (List.mem_of_mem_take h)

theorem Su.place_mem (e x : Entry) (u : Su) : x ∈ (u.place e).list → x = e ∨ x ∈ u.list := by
  unfold Su.place
  split
  · exact Su.fit_mem e x u
  · split
    · exact fun h => (Su.fit_mem e x _ h).imp_right List.mem_of_mem_erase
    · exact .inr

/-- An offered STOP joins the list as a STOP, at its own beat or at the next. -/
theorem Su.install_stop_mem (m : Nat) (late : Bool) (origin cause detail : Nat) (fast : Bool) (beat : Nat) (x : Entry)
    (u : Su) : x ∈ (u.install m late (.stop origin cause detail fast beat)).1.list → x.isStop = false → x ∈ u.list := by
  unfold Su.install
  intro h free
  split at h
  · exact h
  · split at h
    · rcases Su.place_mem _ x _ h with rfl | h
      · cases free
      · exact h
    · rcases Su.place_mem _ x _ h with rfl | h
      · cases free
      · exact h

@[simp] theorem State.torqueOffAll_su (r : AxisReason) (s : State) : (s.torqueOffAll r).su = s.su := by
  have one (i : Fin 4) (s : State) : (s.enterTorqueOff r i).su = s.su := by
    unfold State.enterTorqueOff
    split
    · simp [State.changeAxis, State.axisEvent, State.onAxis]
    · rfl
  simp [State.torqueOffAll, State.eachAxis, one]

@[simp] theorem State.markChange_su (s : State) : s.markChange.su = s.su := by
  unfold State.markChange
  split <;> simp [State.postNotice]

@[simp] theorem State.offer_su (f : LaneFrame) (s : State) : (s.offer f).su = s.su := by rw [State.offer_eq]

@[simp] theorem State.clearTrip_su (k : TripKey) (s : State) : (s.clearTrip k).su = s.su := by
  unfold State.clearTrip State.updateLocalStop
  split
  · rfl
  · split <;> simp

theorem State.raiseEffects_stopsOnly (r : Raise) (s : State) : s.StopsOnly (s.raiseEffects r).1 := by
  unfold State.raiseEffects State.updateLocalStop
  have held : (if r.category = .torqueOff then s.torqueOffAll .torqueOff else s).su = s.su := by
    split <;> simp
  refine State.StopsOnly.trans (.of_su held) ?_
  generalize (if r.category = .torqueOff then s.torqueOffAll .torqueOff else s) = x
  cases r.lineStop with
  | none => exact .refl x
  | some fast => exact fun e he free => Su.install_stop_mem _ _ _ _ _ _ _ e x.su he free

theorem State.raise_stopsOnly (r : Raise) (s : State) : s.StopsOnly (s.raise r).1 := by
  unfold State.raise
  split
  · refine (State.raiseEffects_stopsOnly r (s.onTu fun u => u.enlist (r.entry s.su.beat))).trans (.of_su ?_)
    simp [State.offerFirstTrip]
  · refine (State.raiseEffects_stopsOnly r (s.onTu fun u => u.onEntry r.key (TripEntry.reraise r))).trans (.of_su ?_)
    dsimp only
    split <;> simp

theorem State.causeOn_stopsOnly (c d : Nat) (s : State) : s.StopsOnly (s.causeOn c d).1 := by
  have raised (f : Tu → Tu) (r : Raise) : s.StopsOnly ((s.onTu f).raise r).1 :=
    (State.StopsOnly.of_su (State.onTu_su s f)).trans (State.raise_stopsOnly r _)
  unfold State.causeOn
  dsimp only
  split
  · exact .of_su rfl
  · dsimp only
    split
    · exact (raised _ _).trans (.of_su (State.offer_su _ _))
    · exact raised _ _

theorem State.reportLate_stopsOnly (late : Bool) (s : State) : s.StopsOnly (s.reportLate late) := by
  unfold State.reportLate
  split
  · exact s.causeOn_stopsOnly 12 0
  · exact .refl s

@[simp] theorem State.causeOff_su (c d : Nat) (s : State) : (s.causeOff c d).su = s.su := by
  unfold State.causeOff
  split
  · rfl
  · dsimp only
    split
    · split <;> simp
    · rfl

@[simp] theorem State.reportFalse_su (c d : Nat) (s : State) : (s.reportFalse c d).su = s.su := by
  unfold State.reportFalse
  split <;> simp

@[simp] theorem State.reportAllFalse_su (c : Nat) (p : Nat → Bool) (s : State) : (s.reportAllFalse c p).su = s.su := by
  unfold State.reportAllFalse
  generalize s.tu.causes.filter (fun k => k.cause == c && p k.detail) = l
  induction l generalizing s with
  | nil => rfl
  | cons k l ih => exact (ih _).trans (s.reportFalse_su c k.detail)

/-! ## A cause re-evaluated under a new configuration (R152) -/

/-- A cause that becomes false is one reported false. -/
theorem State.causeOff_eq_reportFalse (c d : Nat) (s : State) : s.causeOff c d = s.reportFalse c d := by
  unfold State.reportFalse
  split
  · rfl
  · rename_i absent
    have none : s.tu.causes.find? (fun x => x.cause == c && x.detail == d) = none := by
      simpa [State.causeTrue] using absent
    simp only [State.causeOff, none]

/-- What a report can do does not depend on the configuration held. -/
theorem State.Reported.onCfg (h : s.Reported t) (c : Option Cfg) :
    State.Reported { s with cfg := c } { t with cfg := c } :=
  ⟨by rw [h.fields], h.ring, h.shaft, h.axes, h.axis, h.first, h.held, h.port⟩

theorem State.reevaluate_reported (old : Option Cfg) {new : Option Cfg} (k : OwnCause) (h : s.cfg = new) :
    s.Reported (s.reevaluate old new k) := by
  have off := (State.causeOff_reported k.cause k.detail { s with cfg := old }).onCfg new
  have same : { { s with cfg := old } with cfg := new } = s := by rw [← h]
  rw [same] at off
  exact off.trans ((State.causeOn_reported _ _ _).trans (State.reportLate_reported _ _))

theorem State.reevaluate_stopsOnly (old new : Option Cfg) (k : OwnCause) (s : State) :
    s.StopsOnly (s.reevaluate old new k) := by
  have off : s.StopsOnly { State.causeOff k.cause k.detail { s with cfg := old } with cfg := new } :=
    .of_su (State.causeOff_su k.cause k.detail { s with cfg := old })
  exact off.trans ((State.causeOn_stopsOnly _ _ _).trans (State.reportLate_stopsOnly _ _))

/-- A cause re-evaluated is true, and the others are as they were but for lateness. -/
theorem State.reevaluate_causeTrue (old new : Option Cfg) (k : OwnCause) (s : State) (c d : Nat) (h : c ≠ 12) :
    (s.reevaluate old new k).causeTrue c d = (s.causeTrue c d || (c == k.cause && d == k.detail)) := by
  unfold State.reevaluate
  dsimp only
  rw [State.reportLate_true _ _ _ _ fun e => h (congrArg Prod.fst e), State.causeOn_true]
  have off : State.causeTrue { State.causeOff k.cause k.detail { s with cfg := old } with cfg := new } c d =
      (s.causeTrue c d && !(c == k.cause && d == k.detail)) := by
    rw [State.causeOff_eq_reportFalse]
    exact State.reportFalse_causeTrue k.cause k.detail c d { s with cfg := old }
  rw [off]
  cases s.causeTrue c d <;> cases c == k.cause && d == k.detail <;> rfl

/-- The causes `l` re-evaluated in turn. -/
theorem State.reevaluateAll_keeps (old : Option Cfg) {new : Option Cfg} (l : List OwnCause) (h : s.cfg = new) :
    s.Reported (l.foldl (State.reevaluate old new) s) ∧ s.StopsOnly (l.foldl (State.reevaluate old new) s) := by
  induction l generalizing s with
  | nil => exact ⟨.refl s, .refl s⟩
  | cons k l ih =>
    have first := State.reevaluate_reported old k h
    obtain ⟨told, stops⟩ := ih (first.cfg_eq.trans h)
    exact ⟨first.trans told, (s.reevaluate_stopsOnly old new k).trans stops⟩

theorem State.reevaluateAll_causeTrue (old new : Option Cfg) (l : List OwnCause) (s : State) (c d : Nat) (h : c ≠ 12) :
    (l.foldl (State.reevaluate old new) s).causeTrue c d =
      (s.causeTrue c d || l.any fun k => k.cause == c && k.detail == d) := by
  induction l generalizing s with
  | nil => simp
  | cons k l ih =>
    rw [List.foldl_cons, ih, State.reevaluate_causeTrue _ _ _ _ _ _ h, List.any_cons, Bool.or_assoc,
      Bool.beq_comm (a := c), Bool.beq_comm (a := d)]

end Sys2Proof.Machine
end

/-! What a configuration that takes effect does unit by unit, and what each stage of it keeps (R74, R132, R133). -/

section
namespace Sys2Proof.Machine

variable {s t u : State}

/-! ## One step per unit -/

/-- What four steps make of four things, when each step acts on its own and leaves the others alone. -/
theorem State.eachAxis_get {α : Type} {f : Fin 4 → State → State} {g : State → Fin 4 → α} {P : State → Prop}
    {v : Fin 4 → α → α} (own : ∀ i s, P s → g (f i s) i = v i (g s i))
    (other : ∀ i j s, P s → j ≠ i → g (f i s) j = g s j) (keeps : ∀ i s, P s → P (f i s)) (h : P s) (i : Fin 4) :
    g (s.eachAxis f) i = v i (g s i) := by
  have h0 := keeps 0 s h
  have h1 := keeps 1 _ h0
  have h2 := keeps 2 _ h1
  unfold State.eachAxis
  match i with
  | 0 => rw [other 3 0 _ h2 (by decide), other 2 0 _ h1 (by decide), other 1 0 _ h0 (by decide), own 0 s h]
  | 1 => rw [other 3 1 _ h2 (by decide), other 2 1 _ h1 (by decide), own 1 _ h0, other 0 1 s h (by decide)]
  | 2 => rw [other 3 2 _ h2 (by decide), own 2 _ h1, other 1 2 _ h0 (by decide), other 0 2 s h (by decide)]
  | 3 => rw [own 3 _ h2, other 2 3 _ h1 (by decide), other 1 3 _ h0 (by decide), other 0 3 s h (by decide)]

theorem State.eachAxis_keeps {f : Fin 4 → State → State} {P : State → Prop} (keeps : ∀ i s, P s → P (f i s)) (h : P s) :
    P (s.eachAxis f) := keeps 3 _ (keeps 2 _ (keeps 1 _ (keeps 0 s h)))

/-! ## What every stage keeps -/

/-- Between two stages of a configuration's taking effect: the backdrop stays, no SET or RELEASE joins the change list, a filled
first-trip record stays, of the Command Port the events and transfers alone change, and the causes outside 12 to 18 stay. -/
structure State.Settles (s t : State) : Prop where
  backdrop : t.backdrop = s.backdrop
  stops : s.StopsOnly t
  first : s.tu.first.isSome = true → t.tu.first = s.tu.first
  port : t.cmp = { s.cmp with
    event := t.cmp.event, lostPending := t.cmp.lostPending, dma := t.cmp.dma, eventsLost := t.cmp.eventsLost }
  others : ∀ c d, c ≤ 11 ∨ 19 ≤ c → t.causeTrue c d = s.causeTrue c d

theorem State.Settles.refl (s : State) : s.Settles s := ⟨rfl, .refl s, fun _ => rfl, rfl, fun _ _ _ => rfl⟩

theorem State.Settles.trans (h : s.Settles t) (k : t.Settles u) : s.Settles u where
  backdrop := k.backdrop.trans h.backdrop
  stops := h.stops.trans k.stops
  first full := by rw [k.first (by rw [h.first full]; exact full), h.first full]
  port := by rw [k.port, h.port]
  others c d range := (k.others c d range).trans (h.others c d range)

theorem State.Settles.cfg_eq (h : s.Settles t) : t.cfg = s.cfg := (congrArg State.cfg h.backdrop :)

theorem State.Reported.settles (h : s.Reported t) (stops : s.StopsOnly t)
    (others : ∀ c d, c ≤ 11 ∨ 19 ≤ c → t.causeTrue c d = s.causeTrue c d) : s.Settles t :=
  ⟨h.backdrop_eq, stops, h.first, by rw [h.port.fields], others⟩

theorem State.Settles.post (e : Event) (s : State) : s.Settles (s.post e) :=
  (State.Reported.post e s).settles (.of_su (s.post_su e)) fun c d _ => by simp [State.causeTrue]

/-- Causes 12 to 18 reported false. -/
theorem State.Settles.reportAllFalse (c : Nat) (p : Nat → Bool) (s : State) (h : 12 ≤ c ∧ c ≤ 18) :
    s.Settles (s.reportAllFalse c p) := by
  refine (State.reportAllFalse_reported c p s).settles (.of_su (s.reportAllFalse_su c p)) fun x d range => ?_
  have other : (x == c) = false := by
    rw [beq_eq_false_iff_ne]
    omega
  rw [State.reportAllFalse_causeTrue, other]
  simp

/-! ## The axes (R74) -/

/-- An axis when a configuration has taken effect. -/
def resetAxis (c : Cfg) (i : Fin 4) : Axis := Axis.reset (if (c.axes.get i).isSome = true then .torqueOff else .disabled)

theorem resetAxis_off (c : Cfg) (i : Fin 4) : (resetAxis c i).state.energised = false := by
  unfold resetAxis
  split <;> rfl

/-- Of the rest of the part the event of a change of state touches the Command Port alone. -/
theorem State.configureAxis_eq (i : Fin 4) (s : State) : s.configureAxis i =
    { s.onAxis i (fun _ => Axis.reset (axisResetState (s.axisCfg i))) with cmp := (s.configureAxis i).cmp } := by
  unfold State.configureAxis
  dsimp only
  split
  · rfl
  · rw [State.post_eq]

theorem State.configureAxis_settles (i : Fin 4) (s : State) : s.Settles (s.configureAxis i) := by
  have moved (f : Axis → Axis) : s.Settles (s.onAxis i f) := ⟨rfl, .of_su rfl, fun _ => rfl, rfl, fun _ _ _ => rfl⟩
  unfold State.configureAxis
  dsimp only
  split
  · exact moved _
  · exact (moved _).trans (.post _ _)

theorem State.configureAxes_settles (s : State) : s.Settles (s.eachAxis State.configureAxis) :=
  State.eachAxis_keeps (P := s.Settles) (fun i t h => h.trans (t.configureAxis_settles i)) (.refl s)

/-- Configuring the axes touches the Axis Unit, and the Command Port by its events. -/
theorem State.configureAxes_eq (s : State) : s.eachAxis State.configureAxis =
    { s with au := (s.eachAxis State.configureAxis).au, cmp := (s.eachAxis State.configureAxis).cmp } :=
  State.eachAxis_keeps (P := fun t => t = { s with au := t.au, cmp := t.cmp })
    (fun i t h => by rw [State.configureAxis_eq, h]; rfl) rfl

theorem State.configureAxes_axis {c : Cfg} (h : s.cfg = some c) (i : Fin 4) :
    (s.eachAxis State.configureAxis).axis i = resetAxis c i := by
  refine State.eachAxis_get (f := State.configureAxis) (g := State.axis) (P := fun s => s.cfg = some c)
    (v := fun i _ => resetAxis c i) (fun i s h => ?own) (fun i j s _ ne => ?other)
    (fun i s h => (s.configureAxis_settles i).cfg_eq.trans h) h i
  case own =>
    have given : s.axisCfg i = c.axes.get i := by rw [State.axisCfg, h]; rfl
    rw [State.configureAxis_eq, given]
    exact State.onAxis_axis i _ s
  case other =>
    rw [State.configureAxis_eq]
    exact State.onAxis_axis_ne ne _ s

/-! ## The register loops (R132, R133) -/

/-- What configuring a loop can do besides setting it: it reports cause 17 false, and posts an event. -/
theorem State.configureLoop_reported (i : Fin 4) (s : State) :
    (s.onLoop i (Loop.configured (s.camCfg i).isSome)).Reported (s.configureLoop i) := by
  have told := State.reportAllFalse_reported 17 (fun d => d / 8 == i.val)
    (s.onLoop i (Loop.configured (s.camCfg i).isSome))
  unfold State.configureLoop
  dsimp only
  split
  · exact told
  · exact told.trans (.post _ _)

theorem State.configureLoop_causeTrue (i : Fin 4) (s : State) (c d : Nat) :
    (s.configureLoop i).causeTrue c d = (s.causeTrue c d && !(c == 17 && d / 8 == i.val)) := by
  have told := State.reportAllFalse_causeTrue 17 (fun d => d / 8 == i.val) c d
    (s.onLoop i (Loop.configured (s.camCfg i).isSome))
  unfold State.configureLoop
  dsimp only
  split
  · exact told
  · refine Eq.trans ?_ told
    rw [State.loopEvent, State.causeTrue, State.post_tu]
    rfl

theorem State.configureLoop_settles (i : Fin 4) (s : State) : s.Settles (s.configureLoop i) := by
  have moved : s.Settles (s.onLoop i (Loop.configured (s.camCfg i).isSome)) :=
    ⟨rfl, .of_su rfl, fun _ => rfl, rfl, fun _ _ _ => rfl⟩
  have told := State.Settles.reportAllFalse 17 (fun d => d / 8 == i.val)
    (s.onLoop i (Loop.configured (s.camCfg i).isSome)) (by decide)
  unfold State.configureLoop
  dsimp only
  split
  · exact moved.trans told
  · exact (moved.trans told).trans (.post _ _)

theorem State.configureLoops_settles (s : State) : s.Settles (s.eachAxis State.configureLoop) :=
  State.eachAxis_keeps (P := s.Settles) (fun i t h => h.trans (t.configureLoop_settles i)) (.refl s)

theorem State.configureLoops_loop {c : Cfg} (h : s.cfg = some c) (i : Fin 4) :
    (s.eachAxis State.configureLoop).loop i = Loop.configured (c.cams.get i).isSome (s.loop i) := by
  refine State.eachAxis_get (f := State.configureLoop) (g := State.loop) (P := fun s => s.cfg = some c)
    (v := fun i => Loop.configured (c.cams.get i).isSome) (fun i s h => ?own) (fun i j s _ ne => ?other)
    (fun i s h => (s.configureLoop_settles i).cfg_eq.trans h) h i
  case own =>
    have given : s.camCfg i = c.cams.get i := by rw [State.camCfg, h]; rfl
    rw [State.loop, (s.configureLoop_reported i).mu_eq, given]
    exact Quad.get_modify_self ..
  case other =>
    rw [State.loop, (s.configureLoop_reported i).mu_eq]
    exact Quad.get_modify_ne _ ne _

/-- Cause 17 is false for every entry of every camera (R127). -/
theorem State.configureLoops_marks (s : State) (i : Fin 4) (d : Nat) (h : d / 8 = i.val) :
    (s.eachAxis State.configureLoop).causeTrue 17 d = false := by
  have told := State.eachAxis_get (f := State.configureLoop) (g := fun s i d => s.causeTrue 17 d && d / 8 == i.val)
    (P := fun _ => True) (v := fun _ _ _ => false)
    (fun i s _ => funext fun d => by
      rw [State.configureLoop_causeTrue]
      cases s.causeTrue 17 d <;> cases d / 8 == i.val <;> rfl)
    (fun i j s _ ne => funext fun d => by
      rw [State.configureLoop_causeTrue]
      by_cases own : d / 8 = i.val
      · have apart : (d / 8 == j.val) = false := beq_eq_false_iff_ne.mpr fun e => ne (Fin.ext (e.symm.trans own))
        rw [apart, Bool.and_false, Bool.and_false]
      · have apart : (d / 8 == i.val) = false := beq_eq_false_iff_ne.mpr own
        rw [apart, Bool.and_false, Bool.not_false, Bool.and_true])
    (fun _ _ _ => trivial) trivial (s := s) i
  have := congrFun told d
  simpa [h] using this

/-- The causes other than 17 are as they were. -/
theorem State.configureLoops_causeTrue (s : State) {c : Nat} (h : c ≠ 17) (d : Nat) :
    (s.eachAxis State.configureLoop).causeTrue c d = s.causeTrue c d :=
  State.eachAxis_keeps (P := fun t => t.causeTrue c d = s.causeTrue c d)
    (fun i t k => by simp [State.configureLoop_causeTrue, h, k]) rfl

/-- Axes that are not energised, and the Camera Unit, stay as they are. -/
theorem State.configureLoops_axis {i : Fin 4} (off : (s.axis i).state.energised = false) :
    (s.eachAxis State.configureLoop).axis i = s.axis i :=
  State.eachAxis_keeps (P := fun t => t.axis i = s.axis i)
    (fun j t h => ((t.configureLoop_reported j).axis_eq (i := i) (by rw [← h] at off; exact off)).trans h) rfl

theorem State.configureLoops_cu (s : State) : (s.eachAxis State.configureLoop).cu = s.cu :=
  State.eachAxis_keeps (P := fun t => t.cu = s.cu) (fun j t h => (t.configureLoop_reported j).cu_eq.trans h) rfl

end Sys2Proof.Machine
end

/-! The stages in which a configuration takes effect, and what stands after the last of them (R74, R115, R133, R152, R184,
R191). -/

section
namespace Sys2Proof.Machine

variable {s t u : State}

/-! ## The stages of a configuration's taking effect (R191) -/

/-- First the configuration is held, the roster and the line follow it. -/
def State.configBegun (c : Cfg) (s : State) : State :=
  { s with
    cfg := some c
    mc := { s.mc with roster := s.mc.roster.mapIdx fun n r => { r with required := c.required.getLsbD (n + 1) } }
    su := s.su.limit c.maxSpeed }

/-- Then the causes are re-evaluated. -/
def State.configJudged (c : Cfg) (s : State) : State :=
  s.tu.causes.foldl (State.reevaluate s.cfg (some c)) (s.configBegun c)

/-- Then the axes are at their reset values, and their causes false. -/
def State.drivesReset (s : State) : State :=
  (((s.eachAxis State.configureAxis).reportAllFalse 13 fun _ => true).reportAllFalse 14 fun _ => true).reportAllFalse 15
    fun _ => true

/-- Then the transfers of the cameras are let go of. -/
def State.transfersLoose (s : State) : State := s.onCmp fun p => { p with dma := p.dma.map Transfer.letGo }

/-! ### The causes -/

theorem State.configJudged_reported (c : Cfg) (s : State) : (s.configBegun c).Reported (s.configJudged c) :=
  (State.reevaluateAll_keeps s.cfg s.tu.causes rfl).1

theorem State.configJudged_causeTrue (c : Cfg) (s : State) {k : Nat} (d : Nat) (h : k ≠ 12) :
    (s.configJudged c).causeTrue k d = s.causeTrue k d :=
  (State.reevaluateAll_causeTrue _ _ _ _ _ _ h).trans (Bool.or_self _)

theorem State.configJudged_settles (c : Cfg) (s : State) : (s.configBegun c).Settles (s.configJudged c) :=
  (s.configJudged_reported c).settles (State.reevaluateAll_keeps s.cfg s.tu.causes rfl).2
    fun _ d range => s.configJudged_causeTrue c d (by omega)

/-! ### The axes -/

theorem State.drivesReset_reported (s : State) : (s.eachAxis State.configureAxis).Reported s.drivesReset :=
  ((State.reportAllFalse_reported 13 _ _).trans (State.reportAllFalse_reported 14 _ _)).trans
    (State.reportAllFalse_reported 15 _ _)

theorem State.drivesReset_settles (s : State) : s.Settles s.drivesReset :=
  (((State.configureAxes_settles s).trans (.reportAllFalse 13 _ _ (by decide))).trans
    (.reportAllFalse 14 _ _ (by decide))).trans (.reportAllFalse 15 _ _ (by decide))

theorem State.drivesReset_axis {c : Cfg} (h : s.cfg = some c) (i : Fin 4) : s.drivesReset.axis i = resetAxis c i := by
  have reset := State.configureAxes_axis h i
  rw [s.drivesReset_reported.axis_eq (by rw [reset]; exact resetAxis_off c i), reset]

theorem State.drivesReset_units (s : State) : s.drivesReset.cu = s.cu ∧ s.drivesReset.mu = s.mu := by
  rw [s.drivesReset_reported.cu_eq, s.drivesReset_reported.mu_eq, State.configureAxes_eq]
  exact ⟨rfl, rfl⟩

theorem State.drivesReset_false (s : State) (k d : Nat) (h : k ∈ [13, 14, 15]) :
    s.drivesReset.causeTrue k d = false := by
  simp only [State.drivesReset, State.reportAllFalse_causeTrue]
  fin_cases h <;> simp

/-! ### The cameras -/

theorem State.transfersLoose_settles (s : State) : s.Settles s.transfersLoose :=
  ⟨rfl, .of_su rfl, fun _ => rfl, rfl, fun _ _ _ => rfl⟩

/-- The Camera Unit set afresh, its counters kept (R115). -/
def Cu.afresh (u : Cu) : Cu :=
  { u with
    cams := Quad.rep .reset, sweep := none, lastSweep := none, cache := List.replicate 8 none, pointer := 0
    invalidate := false, draining := none }

theorem State.freshCameras_eq (s : State) : s.freshCameras =
    ((s.onCu Cu.afresh).reportAllFalse 16 fun _ => true).reportAllFalse 18 fun _ => true := rfl

theorem State.freshCameras_afresh (s : State) : (s.onCu Cu.afresh).Reported s.freshCameras := s.freshCameras_reported

theorem State.freshCameras_settles (s : State) : s.Settles s.freshCameras := by
  have moved : s.Settles (s.onCu Cu.afresh) := ⟨rfl, .of_su rfl, fun _ => rfl, rfl, fun _ _ _ => rfl⟩
  rw [State.freshCameras_eq]
  exact (moved.trans (.reportAllFalse 16 _ _ (by decide))).trans (.reportAllFalse 18 _ _ (by decide))

theorem State.freshCameras_causeTrue (s : State) (k d : Nat) :
    s.freshCameras.causeTrue k d = (s.causeTrue k d && !(k == 16) && !(k == 18)) := by
  rw [State.freshCameras_eq, State.reportAllFalse_causeTrue, State.reportAllFalse_causeTrue, Bool.and_true, Bool.and_true]
  rfl

theorem State.freshCameras_axis {i : Fin 4} (off : (s.axis i).state.energised = false) :
    s.freshCameras.axis i = s.axis i := s.freshCameras_afresh.axis_eq off

/-- The cameras set afresh with their transfers let go of. -/
def State.camerasReset (s : State) : State := s.transfersLoose.freshCameras

theorem State.camerasReset_settles (s : State) : s.Settles s.camerasReset :=
  s.transfersLoose_settles.trans s.transfersLoose.freshCameras_settles

theorem State.camerasReset_causeTrue (s : State) (k d : Nat) :
    s.camerasReset.causeTrue k d = (s.causeTrue k d && !(k == 16) && !(k == 18)) :=
  s.transfersLoose.freshCameras_causeTrue k d

theorem State.camerasReset_axis {i : Fin 4} (off : (s.axis i).state.energised = false) :
    s.camerasReset.axis i = s.axis i := State.freshCameras_axis (s := s.transfersLoose) off

theorem State.camerasReset_units (s : State) : s.camerasReset.cu = s.cu.afresh ∧ s.camerasReset.mu = s.mu :=
  ⟨s.transfersLoose.freshCameras_afresh.cu_eq, s.transfersLoose.freshCameras_afresh.mu_eq⟩

/-! ### What stands before the loops are configured -/

/-- The state whose loops and screen are still to be configured. -/
def State.configFilmed (c : Cfg) (s : State) : State := (s.configJudged c).drivesReset.camerasReset

theorem State.configFilmed_settles (c : Cfg) (s : State) : (s.configBegun c).Settles (s.configFilmed c) :=
  ((s.configJudged_settles c).trans (State.drivesReset_settles _)).trans (State.camerasReset_settles _)

theorem State.configFilmed_false (c : Cfg) (s : State) (k d : Nat) (h : k ∈ [13, 14, 15, 16, 18]) :
    (s.configFilmed c).causeTrue k d = false := by
  rw [State.configFilmed, State.camerasReset_causeTrue]
  by_cases driven : k ∈ [13, 14, 15]
  · rw [State.drivesReset_false _ k d driven]
    rfl
  · obtain rfl | rfl : k = 16 ∨ k = 18 := by
      simp only [List.mem_cons, List.not_mem_nil, or_false] at h driven
      omega
    all_goals simp

theorem State.configFilmed_units (c : Cfg) (s : State) :
    (s.configFilmed c).cu = s.cu.afresh ∧ (s.configFilmed c).mu = s.mu := by
  obtain ⟨driveCu, driveMu⟩ := (s.configJudged c).drivesReset_units
  obtain ⟨cu, mu⟩ := (s.configJudged c).drivesReset.camerasReset_units
  have told := s.configJudged_reported c
  rw [State.configFilmed, cu, mu, driveCu, driveMu, told.cu_eq, told.mu_eq]
  exact ⟨rfl, rfl⟩

theorem State.configFilmed_axis (c : Cfg) (s : State) (i : Fin 4) : (s.configFilmed c).axis i = resetAxis c i := by
  have before := State.drivesReset_axis (s.configJudged_reported c).cfg_eq i
  rw [State.configFilmed, State.camerasReset_axis (by rw [before]; exact resetAxis_off c i), before]

/-! ### The whole -/

/-- A SET of a reduced list is within the maximum. -/
theorem clamped_target {m : Nat} {l : List Entry} {origin num target accel decel beat : Nat}
    (h : Entry.set origin num target accel decel beat ∈ l.map (Entry.clamped m)) : target ≤ m := by
  obtain ⟨e, -, he⟩ := List.mem_map.mp h
  cases e with
  | set =>
    cases he
    exact Nat.min_le_right ..
  | release => cases he
  | stop => cases he

theorem State.configLoops_settles (c : Cfg) (s : State) :
    (s.configBegun c).Settles ((s.configFilmed c).eachAxis State.configureLoop) :=
  (s.configFilmed_settles c).trans (State.configureLoops_settles _)

/-- Last come the loops, the screen and the stop level of the Axis Unit. -/
theorem State.configure_eq (c : Cfg) (s : State) : s.configure c =
    (((s.configFilmed c).eachAxis State.configureLoop).onScu Scu.configured).updateLocalStop := rfl

theorem State.configure_configured (c : Cfg) (s : State) : s.Configured c (s.configure c) := by
  have settled := s.configLoops_settles c
  have su := State.su_of_backdrop settled.backdrop
  obtain ⟨cu, mu⟩ := s.configFilmed_units c
  have loops (i : Fin 4) : ((s.configFilmed c).eachAxis State.configureLoop).loop i =
      Loop.configured (c.cams.get i).isSome (s.loop i) := by
    rw [State.configureLoops_loop (s.configFilmed_settles c).cfg_eq i, State.loop, mu]
    rfl
  have cameras := (State.configureLoops_cu (s.configFilmed c)).trans cu
  have axes (i : Fin 4) : ((s.configFilmed c).eachAxis State.configureLoop).axis i = resetAxis c i := by
    have before := s.configFilmed_axis c i
    rw [State.configureLoops_axis (by rw [before]; exact resetAxis_off c i), before]
  have quiet (k d : Nat) (h : k ∈ [13, 14, 15, 16, 18]) :
      ((s.configFilmed c).eachAxis State.configureLoop).causeTrue k d = false :=
    (State.configureLoops_causeTrue _ (by rintro rfl; simp at h) d).trans (s.configFilmed_false c k d h)
  have marks := State.configureLoops_marks (s.configFilmed c)
  rw [State.configure_eq]
  generalize (s.configFilmed c).eachAxis State.configureLoop = w at *
  constructor
  case config => exact ⟨settled.cfg_eq, (congrArg State.pins settled.backdrop :), (congrArg Cmp.warmCount settled.port :)⟩
  case members => exact (congrArg State.mc settled.backdrop :)
  case line => exact (congrArg Su.line su :)
  case place => exact ⟨(congrArg Su.beat su :), (congrArg Su.step su :)⟩
  case targets => exact fun _ _ _ _ _ _ h => clamped_target (settled.stops _ h rfl)
  case axes => exact axes
  case stop => rfl
  case cameras => exact cameras
  case loops =>
    intro i
    have loop : ((w.onScu Scu.configured).updateLocalStop).loop i =
      Loop.configured (c.cams.get i).isSome (s.loop i) := loops i
    rw [loop]
    cases present : c.cams.get i with
    | none => exact ⟨rfl, fun _ => rfl, fun h => by cases h⟩
    | some x => exact ⟨rfl, fun h => by (cases h), fun _ => rfl⟩
  case screen => exact (congrArg (fun x => x.scu.configured) settled.backdrop :)
  case first => exact settled.first
  case quiet => exact quiet
  case marks => exact marks
  case others => exact settled.others

/-- The Command Port keeps its queues, its DMA error record and its warm-reset count. -/
theorem State.configure_keeps (c : Cfg) (s : State) : (s.configure c).now = s.now ∧
    (s.configure c).cmp.normal = s.cmp.normal ∧ (s.configure c).cmp.dmaErr = s.cmp.dmaErr ∧
    (s.configure c).cmp.dmaMore = s.cmp.dmaMore := by
  have settled := s.configLoops_settles c
  rw [State.configure_eq]
  generalize (s.configFilmed c).eachAxis State.configureLoop = w at settled
  have port := settled.port
  exact ⟨(congrArg State.now settled.backdrop :), (congrArg Cmp.normal port :), (congrArg Cmp.dmaErr port :),
    (congrArg Cmp.dmaMore port :)⟩

end Sys2Proof.Machine
end

/-! CONFIGURE and WARM RESET: the read of the block, its outcomes, and the strip writes a configuration waits for (R115,
R190 to R192, R197). -/

section
namespace Sys2Proof.Machine

variable {s t u : State}

/-! ## The commands (R190, R192) -/

theorem exec_warmReset (h : s.taken .normal = some .warmReset) :
    exec .warmReset s = .next { s with cmp := s.cmp.answered .normal .done 0 s.now } := by
  simp only [exec, execWarmReset, h, State.result_eq]

theorem State.startRead_eq (p : Purpose) (a l : Nat) (s : State) :
    s.startRead p a l = { s with cmp := s.cmp.reading p a l s.now } := by
  simp [State.startRead, State.issueRead, State.issue, State.setWorking, State.onQ, State.onCmp, Cmp.reading, Cmp.setQ,
    Cmp.q]

theorem exec_configure {a l : Nat} (h : s.taken .normal = some (.configure a l)) :
    exec .configure s = .next
      (if s.mc.link.isOut = false then { s with cmp := s.cmp.answered .normal .refusedState 0 s.now }
       else if l < 512 then { s with cmp := s.cmp.answered .normal .refusedValue 0 s.now }
       else { s with cmp := s.cmp.reading .configRead a 512 s.now }) := by
  simp only [exec, execConfigure, h, State.result_eq, State.startRead_eq, Bool.not_eq_true']

/-! ## Transfers taken out of flight (R197) -/

/-- The transfer that can come back is the oldest of its purpose and unit. -/
theorem readyIn_find {p : Transfer → Bool} {l : List Transfer} {x : Transfer} (h : readyIn p l = some x) :
    l.find? p = some x := by
  induction l with
  | nil => cases h
  | cons y l ih =>
    unfold readyIn at h
    split at h
    · rename_i own
      rw [List.find?_cons_of_pos own]
      exact h
    · rename_i other
      split at h
      · cases h
      · rw [List.find?_cons_of_neg other]
        exact ih h

/-- Taking a transfer out of flight leaves as many of another kind. -/
theorem any_eraseP_of_disjoint {p q : Transfer → Bool} (apart : ∀ x, p x = true → q x = false) (l : List Transfer) :
    (l.eraseP p).any q = l.any q := by
  induction l with
  | nil => rfl
  | cons x l ih =>
    by_cases h : p x = true
    · rw [List.eraseP_cons_of_pos h, List.any_cons, apart x h, Bool.false_or]
    · rw [List.eraseP_cons_of_neg h, List.any_cons, List.any_cons, ih]

/-- Taking the only transfer of a kind out of flight leaves none. -/
theorem any_eraseP_of_last {p q : Transfer → Bool} {l : List Transfer} {x : Transfer} (found : l.find? p = some x)
    (own : q x = true) (one : l.countP q = 1) : (l.eraseP p).any q = false := by
  induction l with
  | nil => cases found
  | cons y l ih =>
    by_cases h : p y = true
    · rw [List.find?_cons_of_pos h] at found
      cases found
      rw [List.countP_cons_of_pos own] at one
      have rest : l.countP q = 0 := by omega
      rw [List.eraseP_cons_of_pos h]
      simpa using List.countP_eq_zero.mp rest
    · rw [List.find?_cons_of_neg h] at found
      have later : 0 < l.countP q := List.countP_pos_iff.mpr ⟨x, List.mem_of_find?_eq_some found, own⟩
      have other : q y = false := by
        by_contra k
        rw [List.countP_cons_of_pos (by simpa using k)] at one
        omega
      rw [List.countP_cons_of_neg (by simp [other])] at one
      rw [List.eraseP_cons_of_neg h, List.any_cons, other, Bool.false_or]
      exact ih found one

/-- Transfers let go of are of the purposes they had. -/
theorem any_letGo (l : List Transfer) :
    (l.map Transfer.letGo).any (fun x => x.purpose == .stripWrite) = l.any (fun x => x.purpose == .stripWrite) := by
  have same (x : Transfer) : x.letGo.purpose = x.purpose := by
    unfold Transfer.letGo
    split
    · rfl
    · split <;> rfl
  simp only [List.any_map, Function.comp_def, same]

theorem Transfer.letGo_eq : Transfer.letGo = fun x =>
    if x.purpose = .stripWrite then { x with strip := x.strip.map fun w => { w with serves := false } }
    else if x.purpose = .mapEntryRead then { x with strip := none } else x := by
  funext x
  simp only [Transfer.letGo, beq_iff_eq]
  rfl

/-! ## A failure entered (R198) -/

theorem State.post_dmaErr (e : Event) (s : State) : (s.post e).cmp.dmaErr = s.cmp.dmaErr := by
  rw [(State.post_posted e s).fields]

theorem State.enterDmaError_enters (x : Transfer) (k : DmaKind) (s : State) :
    EntersDmaError x k s (s.enterDmaError x k) := by
  unfold EntersDmaError State.enterDmaError
  cases h : s.cmp.dmaErr with
  | none => exact State.post_dmaErr _ _
  | some r => exact ⟨h, rfl⟩

/-- An event's write is no write of a strip. -/
theorem State.post_writesStrips (e : Event) (s : State) : (s.post e).cmp.writesStrips = s.cmp.writesStrips := by
  have pump (s : State) : s.pumpEvents.cmp.writesStrips = s.cmp.writesStrips := by
    unfold State.pumpEvents
    split
    · rfl
    · split
      · rfl
      · exact (List.any_append ..).trans (Bool.or_false _)
  unfold State.post
  dsimp only
  split
  · exact pump _
  · rfl

/-- Of the Command Port entering a failure leaves the normal queue, the warm-reset count and the writes of strips. -/
theorem State.enterDmaError_keeps (x : Transfer) (k : DmaKind) (s : State) :
    (s.enterDmaError x k).cmp.normal = s.cmp.normal ∧ (s.enterDmaError x k).cmp.warmCount = s.cmp.warmCount ∧
      (s.enterDmaError x k).cmp.writesStrips = s.cmp.writesStrips := by
  unfold State.enterDmaError
  split
  · exact ⟨rfl, rfl, rfl⟩
  · dsimp only
    refine ⟨?_, ?_, State.post_writesStrips _ _⟩
    · rw [(State.post_posted _ _).fields]
      rfl
    · rw [(State.post_posted _ _).fields]
      rfl

/-! ## A configuration takes effect, and CONFIGURE is answered (R191) -/

theorem Cmp.answered_warmCount (q : CmdQueue) (r : Result) (detail now : Nat) (c : Cmp) :
    (c.answered q r detail now).warmCount = c.warmCount := by
  unfold Cmp.answered
  split
  · rfl
  · cases q <;> rfl

/-- The outcome of a configuration that takes effect at the moment `now`, but for the DMA error record. -/
def State.ConfigureDone (c : Cfg) (now : Nat) (s u : State) : Prop :=
  Answers .normal .done 0 s u ∧ u.now = now ∧ s.Configured c u

/-- It may have waited with a Command Port `p` that still holds the command. -/
theorem State.configureDone {f : InFlight} (inFlight : s.cmp.normal.inFlight = some f) (c : Cfg) (n : Nat) {w : State}
    {d : Option Cfg} {p : Cmp} (start : w = { s with now := n, cu := { s.cu with draining := d }, cmp := p })
    (normal : p.normal = s.cmp.normal) (warm : p.warmCount = s.cmp.warmCount) :
    s.ConfigureDone c n ((w.configure c).result .normal .done) ∧
      ((w.configure c).result .normal .done).cmp.dmaErr = p.dmaErr ∧
      ((w.configure c).result .normal .done).cmp.dmaMore = p.dmaMore := by
  obtain ⟨now, queue, dmaErr, dmaMore⟩ := w.configure_keeps c
  obtain ⟨config, members, line, place, targets, axes, stop, cameras, loops, screen, first, quiet, marks, others⟩ :=
    w.configure_configured c
  have answers : Answers .normal .done 0 s ((w.configure c).result .normal .done) :=
    State.complete_answers_of_q .done 0 inFlight (queue.trans (by rw [start]; exact normal))
  rw [State.result_eq] at answers ⊢
  generalize w.configure c = v at *
  subst start
  obtain ⟨-, -, keepsErr, keepsMore⟩ := Cmp.answered_keeps .normal .done 0 v.now v.cmp
  refine ⟨⟨answers, now, ?_⟩, keepsErr.trans dmaErr, keepsMore.trans dmaMore⟩
  obtain ⟨held, pins, count⟩ := config
  exact ⟨⟨held, pins, (Cmp.answered_warmCount ..).trans (count.trans warm)⟩, members, line, place, targets, axes, stop,
    cameras, loops, screen, first, quiet, marks, others⟩

/-! ## The block read (R190, R191) -/

theorem exec_configRead_none (h : s.cmp.ready .configRead .normal = none) (t : Nat) (reply : DmaReply) :
    exec (.configReadComplete t reply) s = .next (s.atTime t) := by
  have idle : (s.atTime t).cmp.ready .configRead .normal = none := h
  simp only [exec, execConfigReadComplete, State.withReply, State.withTransfer_of_none _ idle]

/-- The state in which the block is handed to its command. -/
def State.configBack (t : Nat) (s : State) : State := { s.atTime t with cmp := s.cmp.without .configRead .normal }

theorem exec_configRead {x : Transfer} (h : s.cmp.ready .configRead .normal = some x) (t : Nat) (bytes : List Byte) :
    exec (.configReadComplete t (.data bytes)) s = .next ((s.configBack t).takeConfig bytes) := by
  have ready : (s.atTime t).cmp.ready .configRead .normal = some x := h
  simp only [exec, execConfigReadComplete, State.withReply, State.withTransfer_of_ready _ ready]
  rfl

/-- A configuration that waits, with the transfers of the cameras let go of. -/
def State.configWaits (c : Cfg) (t : Nat) (s : State) : State := { s.atTime t with
  cu := { s.cu with draining := some c }
  cmp := { s.cmp with dma := (s.cmp.dma.eraseP (Transfer.isOf .configRead .normal)).map Transfer.letGo } }

theorem State.takeConfig_good {bytes : List Byte} {c : Cfg} (h : checkConfig bytes = .inl c) (t : Nat) (s : State) :
    (s.configBack t).takeConfig bytes = (s.configWaits c t).finishConfigure := by
  simp only [State.takeConfig, h]
  rfl

/-- The read of the block is no write of a strip. -/
theorem State.configWaits_writesStrips (c : Cfg) (t : Nat) (s : State) :
    (s.configWaits c t).cmp.writesStrips = s.cmp.dma.any fun y => y.purpose == .stripWrite := by
  refine (any_letGo _).trans (any_eraseP_of_disjoint (fun x own => ?_) _)
  simp only [Transfer.isOf, Bool.and_eq_true, beq_iff_eq] at own
  rw [own.1]
  rfl

/-! ## The last strip write (R115) -/

/-- A strip write that serves no strip completes: the configuration may go on. -/
theorem exec_stripWrite_loose {x : Transfer} {h : Half} {a : Nat} {i : Fin 4} (loose : x.strip = some ⟨h, a, false⟩)
    (ready : s.cmp.ready .stripWrite (.camera i) = some x) (t : Nat) : exec (.stripWriteComplete t i true) s =
      .next (((s.atTime t).dropDma (Transfer.isOf .stripWrite (.camera i))).finishConfigure) := by
  have back : (s.atTime t).cmp.ready .stripWrite (.camera i) = some x := ready
  have written (w : State) : w.stripWritten i x = w := by simp [State.stripWritten, loose]
  simp only [exec, execStripWriteComplete, State.withWrite, State.withTransfer_of_ready _ back, if_true, written]

theorem exec_stripWrite_failed {x : Transfer} {i : Fin 4} (ready : s.cmp.ready .stripWrite (.camera i) = some x)
    (t : Nat) : exec (.stripWriteComplete t i false) s =
      .next (((s.atTime t).dropDma (Transfer.isOf .stripWrite (.camera i))).failTransfer x .errorCompletion) := by
  have back : (s.atTime t).cmp.ready .stripWrite (.camera i) = some x := ready
  simp only [exec, execStripWriteComplete, State.withWrite, State.withTransfer_of_ready _ back, Bool.false_eq_true,
    if_false]

/-- The transfer was issued 1 ms before a moment, or earlier. -/
def Transfer.lateAt (now : Nat) (x : Transfer) : Bool := decide (x.issued + 1000000 ≤ now)

theorem exec_dmaTimeout_found {x : Transfer} {t : Nat} (found : s.cmp.dma.find? (Transfer.lateAt (max s.now t)) = some x) :
    exec (.dmaTimeout t) s = .next (((s.atTime t).dropDma (Transfer.lateAt (max s.now t))).failTransfer x .timeout) := by
  have late : (s.atTime t).findDma (fun y => decide (y.issued + 1000000 ≤ (s.atTime t).now)) = some x := found
  simp only [exec, execDmaTimeout]
  rw [late]
  rfl

/-- A strip write that serves no strip fails: the failure is entered, and the configuration may go on. -/
theorem State.failTransfer_loose {x : Transfer} {h : Half} {a : Nat} {i : Fin 4} (write : x.purpose = .stripWrite)
    (cam : x.unit = .camera i) (loose : x.strip = some ⟨h, a, false⟩) (k : DmaKind) (s : State) :
    s.failTransfer x k = (s.enterDmaError x k).finishConfigure := by
  simp [State.failTransfer, write, cam, State.stripTransferFailed, loose]

/-- At the end of the last strip write, and whatever else it enters into the Command Port, the configuration takes effect. -/
theorem State.finishConfigure_done {c : Cfg} {f : InFlight} {n : Nat} {w : State} (inFlight : s.cmp.normal.inFlight = some f)
    (drains : s.cu.draining = some c) (start : w = { s with now := n, cmp := w.cmp })
    (normal : w.cmp.normal = s.cmp.normal) (warm : w.cmp.warmCount = s.cmp.warmCount) (last : w.cmp.writesStrips = false) :
    s.ConfigureDone c n w.finishConfigure ∧ w.finishConfigure.cmp.dmaErr = w.cmp.dmaErr ∧
      w.finishConfigure.cmp.dmaMore = w.cmp.dmaMore := by
  have waits : w.cu.draining = some c := by rw [start]; exact drains
  rw [State.finishConfigure_of_last waits last]
  exact State.configureDone inFlight c n (d := s.cu.draining) start normal warm

theorem EntersDmaError.congr {x : Transfer} {k : DmaKind} {s' v : State} (h : EntersDmaError x k s' t)
    (beat : s'.su.beat = s.su.beat) (err : s'.cmp.dmaErr = s.cmp.dmaErr) (err' : v.cmp.dmaErr = t.cmp.dmaErr)
    (more : v.cmp.dmaMore = t.cmp.dmaMore) : EntersDmaError x k s v := by
  unfold EntersDmaError at h ⊢
  rw [err', more, ← err, ← beat]
  exact h

/-- What the failure of the last strip write does. -/
theorem State.failTransfer_done {c : Cfg} {f : InFlight} {x : Transfer} {h : Half} {a : Nat} {i : Fin 4}
    (inFlight : s.cmp.normal.inFlight = some f) (drains : s.cu.draining = some c) (write : x.purpose = .stripWrite)
    (cam : x.unit = .camera i) (loose : x.strip = some ⟨h, a, false⟩)
    (one : s.cmp.dma.countP (fun y => y.purpose == .stripWrite) = 1) {p : Transfer → Bool}
    (found : s.cmp.dma.find? p = some x) (t : Nat) (k : DmaKind) :
    s.ConfigureDone c (max s.now t) (((s.atTime t).dropDma p).failTransfer x k) ∧
      EntersDmaError x k s (((s.atTime t).dropDma p).failTransfer x k) := by
  obtain ⟨normal, warm, strips⟩ := State.enterDmaError_keeps x k ((s.atTime t).dropDma p)
  have last : ((s.atTime t).dropDma p).cmp.writesStrips = false :=
    any_eraseP_of_last found (by rw [write]; rfl) one
  rw [State.failTransfer_loose write cam loose]
  obtain ⟨done, err, more⟩ := State.finishConfigure_done (n := max s.now t) inFlight drains
    (State.enterDmaError_eq x k ((s.atTime t).dropDma p)) normal warm (strips.trans last)
  exact ⟨done, (State.enterDmaError_enters x k ((s.atTime t).dropDma p)).congr rfl rfl err more⟩

/-! ## O49 -/

/-- Settles O49: a block is checked field by field; one that passes takes effect at once, or with the end of the last strip
write in flight. -/
theorem configuration : Obligations.Configuration := by
  refine ⟨fun bytes c => ?_, fun s => exec_warmReset, fun s a l taken => ?_, fun t reply s idle =>
    exec_configRead_none idle t reply, fun t bytes s x f ready inFlight => ?_,
    fun t i s x c h a f drains write cam loose one inFlight => ?_⟩
  · rw [checkConfig_iff, configChecks_pass]
    exact and_congr_right fun e => by rw [e]
  · rw [exec_configure taken]
    refine ⟨fun out => by simp [out], fun out short => by simp [out, short], fun out long => ?_⟩
    simp [out, Nat.not_lt.mpr long]
  · rw [exec_configRead ready]
    refine ⟨fun d bad => ?_, fun c good => ?_⟩
    · simp only [State.takeConfig, bad, State.complete_eq]
      rfl
    · rw [State.takeConfig_good good, ← State.configWaits_writesStrips c t s]
      refine ⟨fun idle => ?_, fun busy => ?_⟩
      · rw [State.finishConfigure_of_last rfl idle]
        obtain ⟨⟨answers, now, configured⟩, err, -⟩ := State.configureDone inFlight c (max s.now t)
          (w := s.configWaits c t) rfl rfl rfl
        exact ⟨_, rfl, answers, now, configured, err⟩
      · rw [State.finishConfigure_of_writes busy, State.configWaits, Transfer.letGo_eq]
  · refine ⟨fun ready => ?_, fun j kind fails => ?_⟩
    · have last : ((s.atTime t).dropDma (Transfer.isOf .stripWrite (.camera i))).cmp.writesStrips = false :=
        any_eraseP_of_last (readyIn_find ready) (by rw [write]; rfl) one
      obtain ⟨⟨answers, now, configured⟩, err, -⟩ := State.finishConfigure_done (n := max s.now t) inFlight drains
        (w := (s.atTime t).dropDma (Transfer.isOf .stripWrite (.camera i))) rfl rfl rfl last
      exact ⟨_, exec_stripWrite_loose loose ready t, answers, now, configured, err⟩
    · rcases fails with ⟨rfl, rfl, found⟩ | ⟨rfl, ready, owner⟩
      · obtain ⟨⟨answers, now, configured⟩, enters⟩ :=
          State.failTransfer_done inFlight drains write cam loose one found t .timeout
        exact ⟨_, exec_dmaTimeout_found found, answers, now, configured, enters⟩
      · rw [write] at owner
        obtain ⟨i', unit, rfl⟩ := owner
        rw [write, unit] at ready
        obtain ⟨⟨answers, now, configured⟩, enters⟩ :=
          State.failTransfer_done inFlight drains write cam loose one (readyIn_find ready) t .errorCompletion
        exact ⟨_, exec_stripWrite_failed ready t, answers, now, configured, enters⟩

end Sys2Proof.Machine
end

/-! The ledger of the line and of the trips: what the bounds of the change list, of the trip table and of the line speed speak of,
and what it means that an operation keeps them (R46, R48, R49, R88, R138, R140, R147). -/

section
namespace Sys2Proof.Machine

/-! ## The ledger -/

/-- What the bounds speak of: the configuration, the line with the tick in progress, the change list, the trip table, and the
local stop level. -/
structure Ledger where
  cfg : Option Cfg
  line : Line
  next : TickResult
  list : List Entry
  table : List TripEntry
  localStop : StopMode

variable {s t : State} {l m n : Ledger}

/-- The ledger of a state. -/
def State.ledger (s : State) : Ledger := ⟨s.cfg, s.su.line, s.su.next, s.su.list, s.tu.table, s.au.localStop⟩

/-- The maximum line speed in force (R70). -/
def Ledger.maxSpeed (l : Ledger) : Nat := (l.cfg.map (·.maxSpeed)).getD 0

/-- The local stop level a trip table calls for at a station (R88, R147). -/
def stopLevel (own : Nat) (table : List TripEntry) : StopMode :=
  if table.any (TripEntry.localStops own .fastStop) then .fast
  else if table.any (TripEntry.localStops own .normalStop) then .normal
  else .none

/-- Every SET of a list has its target within `v`. -/
def TargetsWithin (v : Nat) (list : List Entry) : Prop :=
  ∀ origin num target accel decel beat, Entry.set origin num target accel decel beat ∈ list → target ≤ v

/-- The speeds and targets are within the maximum line speed. -/
def Ledger.SpeedSafe (l : Ledger) : Prop :=
  l.line.speed ≤ l.maxSpeed ∧ l.line.target ≤ l.maxSpeed ∧ l.next.speed ≤ l.maxSpeed ∧ TargetsWithin l.maxSpeed l.list

/-- At most eight entries of distinct identity (R48). -/
def ListBounded (list : List Entry) : Prop := list.length ≤ 8 ∧ (list.map Entry.ident).Nodup

/-- At most 32 entries of distinct key (R138). -/
def TableBounded (table : List TripEntry) : Prop := table.length ≤ 32 ∧ (table.map (·.key)).Nodup

/-- The local stop level is the one the table calls for. -/
def Ledger.Level (l : Ledger) : Prop := l.localStop = stopLevel ((l.cfg.map (·.station)).getD 0) l.table

theorem State.speedSafe_iff : s.speedSafe ↔ s.ledger.SpeedSafe := Iff.rfl
theorem State.listBounded_iff : s.listBounded ↔ ListBounded s.ledger.list := Iff.rfl
theorem State.tripsBounded_iff : s.tripsBounded ↔ TableBounded s.ledger.table ∧ s.ledger.Level :=
  ⟨fun ⟨len, keys, level⟩ => ⟨⟨len, keys⟩, level⟩, fun ⟨⟨len, keys⟩, level⟩ => ⟨len, keys, level⟩⟩

/-- From `l` to `m` the speeds stay safe and the two tables bounded. -/
structure Ledger.Holds (l m : Ledger) : Prop where
  speed : l.SpeedSafe → m.SpeedSafe
  list : ListBounded l.list → ListBounded m.list
  table : TableBounded l.table → TableBounded m.table

/-- From `l` to `m` all the bounds stay, and with them the local stop level the table calls for. -/
structure Ledger.Keeps (l m : Ledger) : Prop extends Ledger.Holds l m where
  level : l.Level → m.Level

theorem Ledger.Holds.refl (l : Ledger) : l.Holds l := ⟨id, id, id⟩
theorem Ledger.Keeps.refl (l : Ledger) : l.Keeps l := ⟨.refl l, id⟩

theorem Ledger.Holds.trans (h : l.Holds m) (k : m.Holds n) : l.Holds n :=
  ⟨k.speed ∘ h.speed, k.list ∘ h.list, k.table ∘ h.table⟩

theorem Ledger.Keeps.trans (h : l.Keeps m) (k : m.Keeps n) : l.Keeps n := ⟨h.toHolds.trans k.toHolds, k.level ∘ h.level⟩

/-! ## What leaves the ledger as it is -/

@[simp] theorem State.atTime_ledger (t : Nat) (s : State) : (s.atTime t).ledger = s.ledger := (rfl)
@[simp] theorem State.onPins_ledger (f : Pins → Pins) (s : State) : (s.onPins f).ledger = s.ledger := (rfl)
@[simp] theorem State.onRp_ledger (f : Rp → Rp) (s : State) : (s.onRp f).ledger = s.ledger := (rfl)
@[simp] theorem State.onMc_ledger (f : Mc → Mc) (s : State) : (s.onMc f).ledger = s.ledger := (rfl)
@[simp] theorem State.onCu_ledger (f : Cu → Cu) (s : State) : (s.onCu f).ledger = s.ledger := (rfl)
@[simp] theorem State.onMu_ledger (f : Mu → Mu) (s : State) : (s.onMu f).ledger = s.ledger := (rfl)
@[simp] theorem State.onScu_ledger (f : Scu → Scu) (s : State) : (s.onScu f).ledger = s.ledger := (rfl)
@[simp] theorem State.onCmp_ledger (f : Cmp → Cmp) (s : State) : (s.onCmp f).ledger = s.ledger := (rfl)
@[simp] theorem State.onQ_ledger (q : CmdQueue) (f : CmdQ → CmdQ) (s : State) : (s.onQ q f).ledger = s.ledger := (rfl)
@[simp] theorem State.onAxis_ledger (i : Fin 4) (f : Axis → Axis) (s : State) : (s.onAxis i f).ledger = s.ledger := (rfl)
@[simp] theorem State.onCam_ledger (i : Fin 4) (f : Cam → Cam) (s : State) : (s.onCam i f).ledger = s.ledger := (rfl)
@[simp] theorem State.onLoop_ledger (i : Fin 4) (f : Loop → Loop) (s : State) : (s.onLoop i f).ledger = s.ledger := (rfl)
@[simp] theorem State.onSlot_ledger (n : Nat) (f : RosterSlot → RosterSlot) (s : State) :
    (s.onSlot n f).ledger = s.ledger := by rw [State.onSlot_eq]; rfl
@[simp] theorem State.issue_ledger (x : Transfer) (s : State) : (s.issue x).ledger = s.ledger := (rfl)
@[simp] theorem State.issueRead_ledger (p : Purpose) (u : DmaUnit) (a l : Nat) (s : State) :
    (s.issueRead p u a l).ledger = s.ledger := (rfl)
@[simp] theorem State.issueWrite_ledger (p : Purpose) (u : DmaUnit) (a : Nat) (g : List (Nat × List Byte)) (s : State) :
    (s.issueWrite p u a g).ledger = s.ledger := (rfl)
@[simp] theorem State.dropDma_ledger (p : Transfer → Bool) (s : State) : (s.dropDma p).ledger = s.ledger := (rfl)
@[simp] theorem State.setWorking_ledger (s : State) : s.setWorking.ledger = s.ledger := (rfl)
@[simp] theorem State.loseEvent_ledger (s : State) : s.loseEvent.ledger = s.ledger := (rfl)
@[simp] theorem State.pumpEvents_ledger (s : State) : s.pumpEvents.ledger = s.ledger := by rw [State.pumpEvents_eq]; rfl
@[simp] theorem State.post_ledger (e : Event) (s : State) : (s.post e).ledger = s.ledger := by rw [State.post_eq]; rfl
@[simp] theorem State.enterDmaError_ledger (x : Transfer) (k : DmaKind) (s : State) :
    (s.enterDmaError x k).ledger = s.ledger := by rw [State.enterDmaError_eq]; rfl
@[simp] theorem State.complete_ledger (q : CmdQueue) (r : Result) (d : Nat) (s : State) :
    (s.complete q r d).ledger = s.ledger := by rw [State.complete_eq]; rfl
@[simp] theorem State.result_ledger (q : CmdQueue) (r : Result) (s : State) : (s.result q r).ledger = s.ledger :=
  s.complete_ledger q r 0
@[simp] theorem State.offerR_ledger (f : LaneFrame) (s : State) : (s.offerR f).1.ledger = s.ledger := by
  rw [State.offerR_eq]; rfl
@[simp] theorem State.offer_ledger (f : LaneFrame) (s : State) : (s.offer f).ledger = s.ledger := s.offerR_ledger f

/-- A change of the Shaft Unit beside the line, the tick in progress and the change list. -/
theorem State.onSu_ledger {f : Su → Su} (h : (f s.su).line = s.su.line ∧ (f s.su).next = s.su.next ∧
    (f s.su).list = s.su.list) : (s.onSu f).ledger = s.ledger := by
  obtain ⟨line, next, list⟩ := h
  simp only [State.ledger, State.onSu_su, State.onSu_cfg, State.onSu_tu, State.onSu_au, line, next, list]

/-- A change of the Trip Unit beside the trip table. -/
theorem State.onTu_ledger {f : Tu → Tu} (h : (f s.tu).table = s.tu.table) : (s.onTu f).ledger = s.ledger := by
  simp only [State.ledger, State.onTu_su, State.onTu_cfg, State.onTu_tu, State.onTu_au, h]

/-- A change of the Axis Unit beside the local stop level. -/
theorem State.onAu_ledger {f : Au → Au} (h : (f s.au).localStop = s.au.localStop) : (s.onAu f).ledger = s.ledger := by
  simp only [State.ledger, State.onAu_su, State.onAu_cfg, State.onAu_tu, State.onAu_au, h]

/-- Four steps, one per unit, that leave the ledger as it is. -/
theorem State.eachAxis_ledger {f : Fin 4 → State → State} (h : ∀ i s, (f i s).ledger = s.ledger) (s : State) :
    (s.eachAxis f).ledger = s.ledger := by simp only [State.eachAxis, h]

theorem State.foldl_ledger {α : Type} {f : State → α → State} (h : ∀ s a, (f s a).ledger = s.ledger) (x : List α)
    (s : State) : (x.foldl f s).ledger = s.ledger := by
  induction x generalizing s with
  | nil => rfl
  | cons a x ih => exact (ih _).trans (h s a)

theorem Ledger.Keeps.of_eq (h : l.Keeps s.ledger) (e : t.ledger = s.ledger) : l.Keeps t.ledger := e ▸ h

/-- A fold of operations that keep the bounds keeps them. -/
theorem Ledger.Keeps.foldl {α : Type} {f : State → α → State} (h : l.Keeps s.ledger)
    (hf : ∀ s a, l.Keeps s.ledger → l.Keeps (f s a).ledger) (x : List α) : l.Keeps (x.foldl f s).ledger := by
  induction x generalizing s with
  | nil => exact h
  | cons a x ih => exact ih (hf s a h)

theorem Ledger.Keeps.eachAxis {f : Fin 4 → State → State} (h : l.Keeps s.ledger)
    (hf : ∀ i s, l.Keeps s.ledger → l.Keeps (f i s).ledger) : l.Keeps (s.eachAxis f).ledger :=
  State.eachAxis_keeps (P := fun s => l.Keeps s.ledger) hf h

/-! ## The change list (R48, R49) -/

theorem insertRank_perm (b : Nat) (e : Entry) (x : List Entry) : (insertRank b e x).Perm (e :: x) := by
  induction x with
  | nil => exact .refl _
  | cons y x ih =>
    unfold insertRank
    split
    · exact .refl _
    · exact (ih.cons y).trans (.swap e y x)

@[simp] theorem Entry.ident_at (b : Nat) (e : Entry) : (e.at b).ident = e.ident := by cases e <;> rfl
@[simp] theorem Entry.ident_clamped (v : Nat) (e : Entry) : (e.clamped v).ident = e.ident := by cases e <;> rfl

/-- The entry is a SET only with its target within `v`. -/
def Entry.Within (v : Nat) (e : Entry) : Prop :=
  ∀ origin num target accel decel beat, e = .set origin num target accel decel beat → target ≤ v

theorem Entry.Within.clamped (v : Nat) (e : Entry) : (e.clamped v).Within v := by
  rintro o n t a d b h
  cases e <;> cases h
  exact Nat.min_le_right _ _

theorem Entry.Within.at {v : Nat} {e : Entry} (h : e.Within v) (b : Nat) : (e.at b).Within v := by
  rintro o n t a d c k
  cases e <;> cases k
  exact h _ _ _ _ _ _ rfl

theorem Entry.Within.of_isStop {v : Nat} {e : Entry} (h : e.isStop = true) : e.Within v := by
  rintro o n t a d b rfl
  cases h

theorem TargetsWithin.of_mem {v : Nat} {x y : List Entry} (h : TargetsWithin v x) (sub : ∀ e ∈ y, e ∈ x ∨ e.Within v) :
    TargetsWithin v y := fun o n t a d b k => (sub _ k).elim (h o n t a d b) fun w => w o n t a d b rfl

/-- An entry with an identity of its own joins a list in its rank. -/
theorem insertRank_idents {b : Nat} {e : Entry} {x : List Entry} (h : (x.map Entry.ident).Nodup)
    (fresh : e.ident ∉ x.map Entry.ident) : ((insertRank b e x).map Entry.ident).Nodup := by
  rw [((insertRank_perm b e x).map _).nodup_iff]
  exact List.nodup_cons.mpr ⟨fresh, h⟩

/-- The list after an entry of its own identity has joined: bounded, the lowest-ranked of nine being dropped. -/
theorem Su.fit_bounded {e : Entry} {u : Su} (h : (u.list.map Entry.ident).Nodup) (fresh : e.ident ∉ u.list.map Entry.ident) :
    ListBounded (u.fit e).list := by
  have joined := insertRank_idents (b := u.beat) h fresh
  unfold Su.fit
  split
  · next room => exact ⟨by rw [(insertRank_perm _ _ _).length_eq]; exact room, joined⟩
  · exact ⟨by simp, joined.sublist ((List.take_sublist _ _).map _)⟩

theorem Su.place_bounded {e : Entry} {u : Su} (h : ListBounded u.list) (fresh : e.ident ∉ u.list.map Entry.ident) :
    ListBounded (u.place e).list := by
  unfold Su.place
  split
  · exact Su.fit_bounded h.2 fresh
  · next o _ =>
    split
    · have less : ((u.list.erase o).map Entry.ident).Sublist (u.list.map Entry.ident) := List.erase_sublist.map _
      exact Su.fit_bounded (h.2.sublist less) fun k => fresh (less.mem k)
    · exact h

theorem Su.fresh_of_holds {e : Entry} {u : Su} (h : u.holds e = false) : e.ident ∉ u.list.map Entry.ident := by
  simp only [Su.holds, Bool.or_eq_false_iff, List.any_eq_false, beq_iff_eq] at h
  rintro k
  obtain ⟨x, hx, same⟩ := List.mem_map.mp k
  exact h.1 x hx same

theorem Su.install_bounded (v : Nat) (late : Bool) (e : Entry) {u : Su} (h : ListBounded u.list) :
    ListBounded (u.install v late e).1.list := by
  unfold Su.install
  split
  · exact h
  · next absent =>
    have fresh := Su.fresh_of_holds (Bool.eq_false_iff.mpr absent)
    split
    · exact Su.place_bounded (u := u.markLate) h (by rw [Entry.ident_at, Entry.ident_clamped]; exact fresh)
    · exact Su.place_bounded h (by rw [Entry.ident_clamped]; exact fresh)

theorem Su.installStop_bounded (e : Entry) {u : Su} (h : ListBounded u.list) : ListBounded (u.installStop e).list := by
  unfold Su.installStop
  split
  · exact h
  · next absent => exact Su.place_bounded h (by simpa using Su.fresh_of_holds (Bool.eq_false_iff.mpr absent))

theorem Su.place_within {v : Nat} {e : Entry} {u : Su} (h : TargetsWithin v u.list) (w : e.Within v) :
    TargetsWithin v (u.place e).list := h.of_mem fun x hx => by
  rcases Su.place_mem e x u hx with rfl | k
  · exact .inr w
  · exact .inl k

theorem Su.install_within (v : Nat) (late : Bool) (e : Entry) {u : Su} (h : TargetsWithin v u.list) :
    TargetsWithin v (u.install v late e).1.list := by
  unfold Su.install
  split
  · exact h
  · split
    · exact Su.place_within (u := u.markLate) h ((Entry.Within.clamped v e).at _)
    · exact Su.place_within h (.clamped v e)

/-- An offered entry keeps the bounds: it is clamped, and joins with an identity of its own (R49). -/
theorem Ledger.Keeps.install (h : l.Keeps s.ledger) (late : Bool) (e : Entry) :
    l.Keeps (State.ledger { s with su := (s.su.install s.maxSpeed late e).1 }) := by
  refine h.trans ⟨⟨fun ⟨speed, target, next, targets⟩ => ?_, fun list => Su.install_bounded _ _ _ list, id⟩, id⟩
  have line : (s.su.install s.maxSpeed late e).1.line = s.su.line := by rw [Su.install_eq]
  have tick : (s.su.install s.maxSpeed late e).1.next = s.su.next := by rw [Su.install_eq]
  refine ⟨?_, ?_, ?_, Su.install_within _ _ _ targets⟩
  · exact (congrArg Line.speed line).le.trans speed
  · exact (congrArg Line.target line).le.trans target
  · exact (congrArg TickResult.speed tick).le.trans next

end Sys2Proof.Machine
end

/-! The bounds of the change list, of the trip table and of the line speed under reports of causes, raises and clears (R134, R138
to R145, R148 to R152). -/

section
namespace Sys2Proof.Machine

variable {s t : State} {l m n : Ledger}

/-! ## The trip table (R138, R140, R142, R145) -/

/-- The local stop level set to what the table calls for. -/
theorem Ledger.Holds.updateLocalStop (h : l.Holds s.ledger) : l.Keeps s.updateLocalStop.ledger :=
  ⟨⟨h.speed, h.list, h.table⟩, fun _ => rfl⟩

/-- A change of the trip table alone. -/
theorem Ledger.Holds.onTu {f : Tu → Tu} (h : l.Holds s.ledger)
    (bounded : TableBounded s.tu.table → TableBounded (f s.tu).table) : l.Holds (s.onTu f).ledger :=
  ⟨h.speed, h.list, bounded ∘ h.table⟩

theorem map_keys {f : TripEntry → TripEntry} (h : ∀ e, (f e).key = e.key) (x : List TripEntry) :
    (x.map f).map (·.key) = x.map (·.key) := by
  rw [List.map_map]
  exact List.map_congr_left fun e _ => h e

theorem TableBounded.map {f : TripEntry → TripEntry} (h : ∀ e, (f e).key = e.key) {x : List TripEntry}
    (k : TableBounded x) : TableBounded (x.map f) := ⟨by simpa using k.1, by rw [map_keys h]; exact k.2⟩

theorem TableBounded.onEntry {k : TripKey} {f : TripEntry → TripEntry} {u : Tu} (b : TableBounded u.table)
    (h : ∀ e, (f e).key = e.key := by exact fun _ => rfl) : TableBounded (u.onEntry k f).table :=
  b.map fun e => by split <;> simp [h]

/-- A new key joins the table while there is room. -/
theorem TableBounded.enlist {e : TripEntry} {u : Tu} (b : TableBounded u.table) (new : u.entry e.key = none) :
    TableBounded (u.enlist e).table := by
  unfold Tu.enlist
  split
  · refine ⟨by simp; omega, ?_⟩
    have absent : ∀ x ∈ u.table, x.key ≠ e.key := by simpa [Tu.entry] using new
    simpa [List.nodup_append, b.2] using absent
  · exact b

/-- A change of entries that leaves of each what a local stop depends on, and its key. -/
theorem Ledger.Keeps.mapTable {f : TripEntry → TripEntry} (h : l.Keeps s.ledger)
    (same : ∀ e, (f e).key = e.key ∧ (f e).state = e.state ∧ (f e).scope = e.scope ∧ (f e).category = e.category) :
    l.Keeps (s.onTu fun u => { u with table := u.table.map f }).ledger := by
  have stops (own : Nat) (c : Category) (x : List TripEntry) :
      (x.map f).any (TripEntry.localStops own c) = x.any (TripEntry.localStops own c) := by
    rw [List.any_map]
    refine congrArg x.any (funext fun e => ?_)
    obtain ⟨key, state, scope, category⟩ := same e
    simp only [Function.comp, TripEntry.localStops, key, state, scope, category]
  refine ⟨h.toHolds.onTu fun b => b.map fun e => (same e).1, fun start => ?_⟩
  have level : ∀ own, stopLevel own (s.tu.table.map f) = stopLevel own s.tu.table := fun own => by
    simp only [stopLevel, stops]
  exact (h.level start).trans (level _).symm

/-! ## Axes losing torque, and the notice -/

@[simp] theorem State.axisEvent_ledger (i : Fin 4) (p : AxisState) (r : AxisReason) (s : State) :
    (s.axisEvent i p r).ledger = s.ledger := State.post_ledger _ s
@[simp] theorem State.changeAxis_ledger (i : Fin 4) (f : Axis → Axis) (r : AxisReason) (s : State) :
    (s.changeAxis i f r).ledger = s.ledger := by simp [State.changeAxis]
@[simp] theorem State.enterTorqueOff_ledger (r : AxisReason) (i : Fin 4) (s : State) :
    (s.enterTorqueOff r i).ledger = s.ledger := by unfold State.enterTorqueOff; split <;> simp
@[simp] theorem State.torqueOffAll_ledger (r : AxisReason) (s : State) : (s.torqueOffAll r).ledger = s.ledger :=
  State.eachAxis_ledger (fun i s => s.enterTorqueOff_ledger r i) s
@[simp] theorem State.postNotice_ledger (s : State) : s.postNotice.ledger = s.ledger :=
  (State.onTu_ledger rfl).trans (State.post_ledger _ s)
@[simp] theorem State.markChange_ledger (s : State) : s.markChange.ledger = s.ledger := by
  unfold State.markChange
  split
  · exact State.onTu_ledger rfl
  · exact s.postNotice_ledger

/-! ## Raises and clears (R140 to R146) -/

/-- Once the table is bounded, the effects of a raise leave all bounds. -/
theorem Ledger.Holds.raiseEffects (h : l.Holds s.ledger) (r : Raise) : l.Keeps (s.raiseEffects r).1.ledger := by
  have torque : (if r.category = .torqueOff then s.torqueOffAll .torqueOff else s).ledger = s.ledger := by
    split <;> simp
  unfold State.raiseEffects
  generalize (if r.category = .torqueOff then s.torqueOffAll .torqueOff else s) = x at torque
  have held : l.Holds x.ledger := torque ▸ h
  cases r.lineStop with
  | none => exact held.updateLocalStop
  | some fast => exact (held.trans ((Ledger.Keeps.refl _).install _ _).toHolds).updateLocalStop

@[simp] theorem Ledger.Keeps.raise (h : l.Keeps s.ledger) (r : Raise) : l.Keeps (s.raise r).1.ledger := by
  unfold State.raise
  split
  · next new =>
    have listed : l.Holds (s.onTu fun u => u.enlist (r.entry s.su.beat)).ledger :=
      h.toHolds.onTu fun b => b.enlist new
    have offered (x : State) : (x.offerFirstTrip r).ledger = x.ledger := by
      refine State.onTu_ledger ?_
      split <;> rfl
    have source (x : State) : (x.onTu fun u => u.offerSource r).ledger = x.ledger := by
      refine State.onTu_ledger ?_
      unfold Tu.offerSource
      split <;> rfl
    dsimp only
    rw [State.markChange_ledger, source, offered]
    exact listed.raiseEffects r
  · have raised : l.Holds (s.onTu fun u => u.onEntry r.key (TripEntry.reraise r)).ledger :=
      h.toHolds.onTu fun b => b.onEntry
    dsimp only
    split
    · exact raised.raiseEffects r
    · rw [State.markChange_ledger]
      exact raised.raiseEffects r

@[simp] theorem Ledger.Keeps.clearTrip (h : l.Keeps s.ledger) (k : TripKey) : l.Keeps (s.clearTrip k).ledger := by
  unfold State.clearTrip
  split
  · exact h
  · split
    · exact h
    · rw [State.markChange_ledger]
      exact Ledger.Holds.updateLocalStop (h.toHolds.onTu fun b => b.onEntry)

@[simp] theorem Ledger.Keeps.orphanWhere (h : l.Keeps s.ledger) (p : Nat → Bool) : l.Keeps (s.orphanWhere p).ledger := by
  refine h.foldl (fun s k h => ?_) _
  rw [State.orphanTrip, State.markChange_ledger]
  exact Ledger.Holds.updateLocalStop (h.toHolds.onTu fun b => b.onEntry)

/-! ## Reports of causes (R134, R148, R150) -/

theorem State.causes_ledger (f : List OwnCause → List OwnCause) (s : State) :
    (s.onTu fun u => { u with causes := f u.causes }).ledger = s.ledger := State.onTu_ledger rfl

@[simp] theorem Ledger.Keeps.causeOn (h : l.Keeps s.ledger) (c d : Nat) : l.Keeps (s.causeOn c d).1.ledger := by
  have listed (f : List OwnCause → List OwnCause) : l.Keeps (s.onTu fun u => { u with causes := f u.causes }).ledger :=
    h.of_eq (s.causes_ledger f)
  unfold State.causeOn
  dsimp only
  split
  · exact listed _
  · dsimp only
    split
    · rw [State.offer_ledger]
      exact (listed _).raise _
    · exact (listed _).raise _

@[simp] theorem Ledger.Keeps.causeOff (h : l.Keeps s.ledger) (c d : Nat) : l.Keeps (s.causeOff c d).ledger := by
  have dropped (f : List OwnCause → List OwnCause) : l.Keeps (s.onTu fun u => { u with causes := f u.causes }).ledger :=
    h.of_eq (s.causes_ledger f)
  unfold State.causeOff
  split
  · exact h
  · dsimp only
    split
    · split
      · rw [State.offer_ledger]
        exact (dropped _).clearTrip _
      · exact (dropped _).clearTrip _
    · exact dropped _

@[simp] theorem Ledger.Keeps.reportLate (h : l.Keeps s.ledger) (b : Bool) : l.Keeps (s.reportLate b).ledger := by
  unfold State.reportLate; split <;> simp [h]
@[simp] theorem Ledger.Keeps.reportTrue (h : l.Keeps s.ledger) (c d : Nat) : l.Keeps (s.reportTrue c d).ledger := by
  unfold State.reportTrue; split <;> simp [h]
@[simp] theorem Ledger.Keeps.reportFalse (h : l.Keeps s.ledger) (c d : Nat) : l.Keeps (s.reportFalse c d).ledger := by
  unfold State.reportFalse; split <;> simp [h]
@[simp] theorem Ledger.Keeps.report (h : l.Keeps s.ledger) (c d : Nat) (b : Bool) : l.Keeps (s.report c d b).ledger := by
  unfold State.report; split <;> simp [h]
@[simp] theorem Ledger.Keeps.reportAllFalse (h : l.Keeps s.ledger) (c : Nat) (p : Nat → Bool) :
    l.Keeps (s.reportAllFalse c p).ledger := h.foldl (fun _ _ h => h.reportFalse _ _) _
@[simp] theorem Ledger.Keeps.takeRaise (h : l.Keeps s.ledger) (r : Raise) : l.Keeps (s.takeRaise r).ledger := by
  simp [State.takeRaise, h]
@[simp] theorem Ledger.Keeps.installEntry (h : l.Keeps s.ledger) (e : Entry) : l.Keeps (s.installEntry e).ledger :=
  (h.install false e).reportLate _

/-- A change of the counts of the entry of a key. -/
theorem Ledger.Keeps.onEntry {f : TripEntry → TripEntry} (h : l.Keeps s.ledger) (k : TripKey)
    (same : ∀ e, (f e).key = e.key ∧ (f e).state = e.state ∧ (f e).scope = e.scope ∧ (f e).category = e.category) :
    l.Keeps (s.onTu fun u => u.onEntry k f).ledger :=
  h.mapTable fun e => by split <;> simp [same]

@[simp] theorem Ledger.Keeps.takeRefresh (h : l.Keeps s.ledger) (r : Raise) : l.Keeps (s.takeRefresh r).ledger := by
  unfold State.takeRefresh
  split
  · split
    · exact h.onEntry _ fun e => ⟨rfl, rfl, rfl, rfl⟩
    · exact h.takeRaise r
  · exact h.takeRaise r

@[simp] theorem Ledger.Keeps.lapseTrip (h : l.Keeps s.ledger) (k : TripKey) : l.Keeps (s.lapseTrip k).ledger := by
  unfold State.lapseTrip; split <;> simp [h]

@[simp] theorem Ledger.Keeps.takeTrip (h : l.Keeps s.ledger) (c : Copy) : l.Keeps (s.takeTrip c).ledger := by
  unfold State.takeTrip
  split
  · exact h
  · dsimp only
    split <;> simp [h]

@[simp] theorem Ledger.Keeps.offerRefreshes (h : l.Keeps s.ledger) : l.Keeps s.offerRefreshes.ledger := by
  unfold State.offerRefreshes
  split
  · refine h.foldl (fun s c h => ?_) _
    exact Ledger.Keeps.onEntry (h.of_eq (State.offer_ledger _ s)) _ fun e => ⟨rfl, rfl, rfl, rfl⟩
  · exact h

@[simp] theorem State.raisesOnEntry_ledger (s : State) : s.raisesOnEntry.ledger = s.ledger :=
  State.foldl_ledger (fun _ _ => (State.offer_ledger _ _).trans (State.onTu_ledger rfl)) _ s

@[simp] theorem Ledger.Keeps.stepQuiet (h : l.Keeps s.ledger) : l.Keeps s.stepQuiet.ledger := by
  unfold State.stepQuiet
  split
  · exact h.mapTable fun e => by split <;> simp
  · exact h

/-- A cause re-evaluated keeps the tables bounded; the local stop level waits for the end of the configuration (R152). -/
theorem Ledger.Holds.reevaluate (h : l.Holds s.ledger) (old : Option Cfg) (k : OwnCause) :
    l.Holds (s.reevaluate old s.cfg k).ledger := by
  have su : (State.causeOff k.cause k.detail { s with cfg := old }).su = s.su := State.causeOff_su _ _ _
  have off : l.Holds (State.ledger { State.causeOff k.cause k.detail { s with cfg := old } with cfg := s.cfg }) := by
    have cleared := (Ledger.Keeps.refl (State.ledger { s with cfg := old })).causeOff k.cause k.detail
    refine h.trans ⟨fun safe => ?_, fun list => ?_, cleared.table⟩
    · simp only [State.ledger, su]
      exact safe
    · simp only [State.ledger, su]
      exact list
  exact off.trans (((Ledger.Keeps.refl _).causeOn k.cause k.detail).reportLate _).toHolds

end Sys2Proof.Machine
end

/-! The bounds of the change list, of the trip table and of the line speed under the operations of the Ring Port and of the Axis,
Mark, Camera and Screen Units: these leave the ledger as it is, but for the causes they report. -/

section
namespace Sys2Proof.Machine

variable {s t : State} {l : Ledger}

/-! ## The Ring Port (R9 to R23) -/

theorem State.BulkOnly.ledger_eq (h : s.BulkOnly t) : t.ledger = s.ledger := by rw [h]; rfl
theorem State.PortsOnly.ledger_eq (h : s.PortsOnly t) : t.ledger = s.ledger := h.bulkOnly.ledger_eq

@[simp] theorem State.muPump_ledger (s : State) : s.muPump.ledger = s.ledger := (s.muPumpN_bulkOnly _).ledger_eq
@[simp] theorem State.pubAdvance_ledger (s : State) : s.pubAdvance.ledger = s.ledger := s.pubAdvance_bulkOnly.ledger_eq
@[simp] theorem State.emptyBulk_ledger (s : State) : s.emptyBulk.ledger = s.ledger := s.emptyBulk_bulkOnly.ledger_eq
@[simp] theorem State.offerScreen_ledger (f : LaneFrame) (s : State) : (s.offerScreen f).ledger = s.ledger :=
  (State.PortsOnly.offerScreen f s).ledger_eq
@[simp] theorem State.offerAll_ledger (fs : List LaneFrame) (s : State) : (s.offerAll fs).ledger = s.ledger :=
  (State.PortsOnly.offerAll fs s).ledger_eq
@[simp] theorem State.admitWaiting_ledger (s : State) : s.admitWaiting.ledger = s.ledger := by
  unfold State.admitWaiting
  split
  · rfl
  · split <;> simp
  · split <;> simp
@[simp] theorem State.sendTest_ledger (s : State) : s.sendTest.ledger = s.ledger := (rfl)
@[simp] theorem State.handCopy_ledger (k : Kind) (c : Copy) (s : State) : (s.handCopy k c).ledger = s.ledger := by
  unfold State.handCopy
  split
  case h_8 => split <;> rfl
  all_goals rfl

@[simp] theorem Ledger.Keeps.receiverError (h : l.Keeps s.ledger) : l.Keeps s.receiverError.ledger := by
  unfold State.receiverError
  dsimp only
  split <;> simp [h]
@[simp] theorem Ledger.Keeps.rollErrorWindow (h : l.Keeps s.ledger) : l.Keeps s.rollErrorWindow.ledger := by
  unfold State.rollErrorWindow
  dsimp only
  split <;> simp [h]
@[simp] theorem Ledger.Keeps.watchMissing (h : l.Keeps s.ledger) (q : Nat) : l.Keeps (s.watchMissing q).ledger := by
  unfold State.watchMissing
  dsimp only
  split <;> simp [h]
@[simp] theorem Ledger.Keeps.takeReturn (h : l.Keeps s.ledger) (c q : Nat) : l.Keeps (s.takeReturn c q).ledger := by
  unfold State.takeReturn
  split
  · exact h
  · split <;> simp [h]
@[simp] theorem Ledger.Keeps.endReception (h : l.Keeps s.ledger) (rx : Reception) (b : List Byte) (e : FrameEnding) :
    l.Keeps (s.endReception rx b e).ledger := by
  have handed (x : State) (p : Prop) [Decidable p] (k : Kind) (c : Copy) :
      (if p then x.handCopy k c else x).ledger = x.ledger := by split <;> simp
  unfold State.endReception State.countAborted
  dsimp only
  split
  · simpa using h
  · split
    · simpa using h
    · split
      · simp [h]
      · exact Ledger.Keeps.takeReturn (by rw [handed]; simpa using h) _ _
  · split
    · simp [h]
    · split
      · simpa using h
      · split
        · simp [h]
        · split
          · rw [handed]; simpa using h
          · simpa using h
@[simp] theorem Ledger.Keeps.cutReception (h : l.Keeps s.ledger) (m : Bool) (a : List Byte) :
    l.Keeps (s.cutReception m a).ledger := by
  unfold State.cutReception
  split
  · exact h.endReception _ _ _
  · split <;> simp [h]
@[simp] theorem Ledger.Keeps.launch (h : l.Keeps s.ledger) (lane : Lane) (f : LaneFrame) :
    l.Keeps (s.launch lane f).ledger := by
  cases lane
  · have watched (x : State) (q : Nat) (h : l.Keeps x.ledger) : l.Keeps (x.watchLaunch q).ledger := by
      unfold State.watchLaunch
      dsimp only
      split <;> simp [h]
    exact watched _ _ (by simpa using h)
  · exact h
@[simp] theorem Ledger.Keeps.arbitrate (h : l.Keeps s.ledger) (n : Nat) : l.Keeps (s.arbitrate n).ledger := by
  unfold State.arbitrate
  dsimp only
  repeat' split
  all_goals simp [h]

/-! ## The Axis Unit (R75 to R94) -/

@[simp] theorem State.historyDecouple_ledger (v : Nat) (i : Fin 4) (s : State) :
    (s.historyDecouple v i).ledger = s.ledger := by
  unfold State.historyDecouple
  split
  · split <;> simp
  · rfl
@[simp] theorem State.stopEntry_ledger (c : AxisCfg) (v : Nat) (i : Fin 4) (s : State) :
    (s.stopEntry c v i).ledger = s.ledger := by
  unfold State.stopEntry
  dsimp only
  split
  · rfl
  · split <;> simp
@[simp] theorem State.axisTick_ledger (i : Fin 4) (s : State) : (s.axisTick i).ledger = s.ledger := by
  have arithmetic (c : AxisCfg) (x : State) : (x.axisArithmetic c i).ledger = x.ledger := by
    unfold State.axisArithmetic
    dsimp only
    split <;> simp
  unfold State.axisTick
  split
  · split <;> simp [arithmetic]
  · rfl
@[simp] theorem State.axisTickEnd_ledger (i : Fin 4) (s : State) : (s.axisTickEnd i).ledger = s.ledger := by
  unfold State.axisTickEnd
  dsimp only
  split
  · split <;> simp
  · split <;> simp
@[simp] theorem State.takeCorrection_ledger (a : Nat) (e : Int) (s : State) : (s.takeCorrection a e).ledger = s.ledger := by
  have discarded : s.discardCorrection.ledger = s.ledger := State.onAu_ledger rfl
  unfold State.takeCorrection
  split
  · split
    · split <;> simp [discarded]
    · exact discarded
  · exact discarded

@[simp] theorem Ledger.Keeps.driveTrip (h : l.Keeps s.ledger) (r : AxisReason) (c : Nat) (i : Fin 4) :
    l.Keeps (s.driveTrip r c i).ledger := Ledger.Keeps.reportTrue (by simpa using h) c i.val
@[simp] theorem Ledger.Keeps.answer (h : l.Keeps s.ledger) (c : AxisCfg) (p : Nat) (x : Answer) (i : Fin 4) :
    l.Keeps (s.answer c p x i).ledger := by
  have judged (t : State) (h : l.Keeps t.ledger) : l.Keeps (t.judgeAnswer c p x i).ledger := by
    unfold State.judgeAnswer
    dsimp only
    split
    · split <;> simp [h]
    · split <;> simp [h]
  unfold State.answer
  dsimp only
  split
  · exact judged _ h
  · exact h
@[simp] theorem Ledger.Keeps.closeWindow (h : l.Keeps s.ledger) (c : AxisCfg) (i : Fin 4) :
    l.Keeps (s.closeWindow c i).ledger := by
  have missed : l.Keeps ((s.onAxis i Axis.missAnswer).onAu fun u =>
      { u with missedAnswers := bump u.missedAnswers }).ledger := by
    rw [State.onAu_ledger rfl]
    exact h
  unfold State.closeWindow
  dsimp only
  split
  · exact missed.driveTrip _ _ _
  · exact missed

/-! ## The Mark Unit (R119 to R133) -/

@[simp] theorem State.loopEvent_ledger (i : Fin 4) (p : LoopState) (r : LoopReason) (n : Option Nat) (s : State) :
    (s.loopEvent i p r n).ledger = s.ledger := State.post_ledger _ s
@[simp] theorem State.issueCorrection_ledger (x : MarkEntry) (e : Int) (s : State) :
    (s.issueCorrection x e).ledger = s.ledger := by
  unfold State.issueCorrection State.sendCorrection
  split <;> simp
@[simp] theorem Ledger.Keeps.stepTolerance (h : l.Keeps s.ledger) (i : Fin 4) (c : CamCfg) (n : Nat) (e : Int) :
    l.Keeps (s.stepTolerance i c n e).ledger := by
  unfold State.stepTolerance
  dsimp only
  repeat' split
  all_goals simp [h]
@[simp] theorem Ledger.Keeps.clearTolerance (h : l.Keeps s.ledger) (i : Fin 4) : l.Keeps (s.clearTolerance i).ledger := by
  simp [State.clearTolerance, h]
@[simp] theorem Ledger.Keeps.judge (h : l.Keeps s.ledger) (i : Fin 4) (c : CamCfg) (r p n : Nat) :
    l.Keeps (s.judge i c r p n).ledger := by
  unfold State.judge
  dsimp only
  split
  · exact h
  · split
    · unfold State.markMissing
      dsimp only
      split <;> simp [h]
    · unfold State.markFound
      dsimp only
      split <;> simp [h]
@[simp] theorem Ledger.Keeps.evaluate (h : l.Keeps s.ledger) (i : Fin 4) (c : CamCfg) (r : Nat) :
    l.Keeps (s.evaluate i c r).ledger := by
  have full (p : Option Nat) : l.Keeps (s.evaluateFull i c r p).ledger := by
    unfold State.evaluateFull
    dsimp only
    split
    · split <;> simp [h]
    · exact Ledger.Keeps.foldl (by simpa using h) (fun s n h => h.judge i c r _ n) _
  have seek (p : Option Nat) : (s.evaluateSeek i c p).ledger = s.ledger := by
    unfold State.evaluateSeek
    dsimp only
    split
    · simp
    · split <;> simp
  unfold State.evaluate
  split
  · exact h
  · split <;> simp [h, full, seek]
@[simp] theorem Ledger.Keeps.loopTick (h : l.Keeps s.ledger) (n : Cov) (i : Fin 4) : l.Keeps (s.loopTick n i).ledger := by
  unfold State.loopTick
  split
  · exact h
  · split
    · exact h
    · dsimp only
      split <;> simp [h]
@[simp] theorem State.loopCompare_ledger (i : Fin 4) (s : State) : (s.loopCompare i).ledger = s.ledger := by
  unfold State.loopCompare State.loopSpeed
  dsimp only
  repeat' split
  all_goals simp
@[simp] theorem Ledger.Keeps.markTick (h : l.Keeps s.ledger) : l.Keeps s.markTick.ledger := by
  rw [State.markTick, State.onMu_ledger, State.eachAxis_ledger State.loopCompare_ledger]
  exact h.eachAxis fun i s h => h.loopTick _ i
@[simp] theorem Ledger.Keeps.enterSeeking (h : l.Keeps s.ledger) (i : Fin 4) (r : LoopReason) :
    l.Keeps (s.enterSeeking i r).ledger := by simp [State.enterSeeking, h]
@[simp] theorem Ledger.Keeps.enterOff (h : l.Keeps s.ledger) (i : Fin 4) (r : LoopReason) :
    l.Keeps (s.enterOff i r).ledger := by
  unfold State.enterOff
  dsimp only
  split <;> simp [h]
@[simp] theorem Ledger.Keeps.configureLoop (h : l.Keeps s.ledger) (i : Fin 4) : l.Keeps (s.configureLoop i).ledger := by
  unfold State.configureLoop
  dsimp only
  split <;> simp [h]

/-! ## The Camera Unit (R99 to R115) -/

@[simp] theorem State.triggerDue_ledger (i : Fin 4) (s : State) : (s.triggerDue i).ledger = s.ledger := by
  have offered (w : Sweep) (d : Nat × Nat) (x : State) : (x.offerTrigger i w d).ledger = x.ledger := by
    unfold State.offerTrigger State.skipTrigger State.sendTrigger
    dsimp only
    split <;> simp
  unfold State.triggerDue
  split
  · rfl
  · dsimp only
    split
    · simp [offered]
    · split <;> simp [offered]
@[simp] theorem Ledger.Keeps.rearmTick (h : l.Keeps s.ledger) : l.Keeps s.rearmTick.ledger := by
  unfold State.rearmTick
  split
  · exact h.eachAxis fun i s h => by unfold State.rearmCamera; split <;> simp [h]
  · exact h
@[simp] theorem Ledger.Keeps.judgeWeb (h : l.Keeps s.ledger) (i : Fin 4) (c : CamCfg) (p : List Byte) :
    l.Keeps (s.judgeWeb i c p).ledger := by
  unfold State.judgeWeb
  dsimp only
  split
  · exact h
  · repeat' split
    all_goals simp [h]
@[simp] theorem State.stripDone_ledger (i : Fin 4) (f : Half) (n : Nat) (s : State) :
    (s.stripDone i f n).ledger = s.ledger := by simp [State.stripDone]
theorem State.pumpStripN_ledger (i : Fin 4) (b n : Nat) (s : State) : (s.pumpStripN i b n).ledger = s.ledger := by
  induction n generalizing s with
  | zero => rfl
  | succ n ih =>
    unfold State.pumpStripN
    repeat' split
    all_goals simp [ih]
@[simp] theorem State.pumpStrip_ledger (i : Fin 4) (s : State) : (s.pumpStrip i).ledger = s.ledger := by
  unfold State.pumpStrip
  split
  · exact s.pumpStripN_ledger i _ 3
  · rfl
@[simp] theorem State.acceptLine_ledger (i : Fin 4) (c : CamCfg) (g : LineTag) (p : List Byte) (s : State) :
    (s.acceptLine i c g p).ledger = s.ledger := by
  unfold State.acceptLine
  dsimp only
  split
  · simp
  · split <;> simp
@[simp] theorem State.fillStrip_ledger (i : Fin 4) (c : CamCfg) (g : LineTag) (p : List Byte) (s : State) :
    (s.fillStrip i c g p).ledger = s.ledger := by
  unfold State.fillStrip State.dropLine
  dsimp only
  split
  · rfl
  · split
    · simp
    · split
      · simp [State.startStrip]
      · split <;> simp
@[simp] theorem State.finishAborted_ledger (i : Fin 4) (f : Half) (s : State) :
    (s.finishAborted i f).ledger = s.ledger := by
  unfold State.finishAborted
  dsimp only
  split <;> simp
@[simp] theorem State.abortStrip_ledger (i : Fin 4) (f : Half) (b : Bool) (s : State) :
    (s.abortStrip i f b).ledger = s.ledger := by
  unfold State.abortStrip
  dsimp only
  split <;> simp
@[simp] theorem State.mapEntryRead_ledger (i : Fin 4) (x : Transfer) (b : List Byte) (s : State) :
    (s.mapEntryRead i x b).ledger = s.ledger := by
  unfold State.mapEntryRead State.cacheTranslation State.countMapError
  dsimp only
  repeat' split
  all_goals simp
@[simp] theorem State.stripWritten_ledger (i : Fin 4) (x : Transfer) (s : State) :
    (s.stripWritten i x).ledger = s.ledger := by
  unfold State.stripWritten
  dsimp only
  repeat' split
  all_goals simp
@[simp] theorem State.stripTransferFailed_ledger (i : Fin 4) (x : Transfer) (k : DmaKind) (s : State) :
    (s.stripTransferFailed i x k).ledger = s.ledger := by
  unfold State.stripTransferFailed
  split
  · split <;> simp
  · simp
@[simp] theorem Ledger.Keeps.freshCameras (h : l.Keeps s.ledger) : l.Keeps s.freshCameras.ledger := by
  simp [State.freshCameras, h]

/-! ## The Screen Unit (R162 to R183) -/

@[simp] theorem State.requestTile_ledger (id : TileId) (v : Option Nat) (s : State) :
    (s.requestTile id v).ledger = s.ledger := by
  unfold State.requestTile; split <;> simp
@[simp] theorem State.assign_ledger (a : Nat × Content) (s : State) : (s.assign a).ledger = s.ledger := by
  have allocated (id : TileId) (x : State) : (x.allocate id).ledger = x.ledger := by
    unfold State.allocate
    split
    · rfl
    · exact State.requestTile_ledger _ _ _
  unfold State.assign
  dsimp only
  split
  · split <;> simp [allocated]
  · rfl
  · rfl
@[simp] theorem State.takeRefusal_ledger (n i c r : Nat) (s : State) : (s.takeRefusal n i c r).ledger = s.ledger := by
  unfold State.takeRefusal
  dsimp only
  split
  · rfl
  · split <;> simp
@[simp] theorem State.takeViewRequest_ledger (n i c k w : Nat) (s : State) :
    (s.takeViewRequest n i c k w).ledger = s.ledger := by
  unfold State.takeViewRequest
  dsimp only
  split
  · rfl
  · split
    · exact State.takeRefusal_ledger _ _ _ _ _
    · exact State.offerScreen_ledger _ _
@[simp] theorem State.requestView_ledger (i : Fin 2) (s : State) : (s.requestView i).ledger = s.ledger := by
  unfold State.requestView
  dsimp only
  split <;> simp
@[simp] theorem State.repeatViews_ledger (s : State) : s.repeatViews.ledger = s.ledger := by rw [State.repeatViews_eq]; rfl
@[simp] theorem State.viewersTake_ledger (i : Fin 4) (g : LineTag) (p : List Byte) (s : State) :
    (s.viewersTake i g p).ledger = s.ledger := by
  refine State.foldl_ledger (fun s v => ?_) _ s
  unfold State.viewLineFor
  dsimp only
  split
  · split <;> simp
  · rfl
@[simp] theorem State.routeTouch_ledger (b : Bool) (x y : Nat) (s : State) : (s.routeTouch b x y).ledger = s.ledger := by
  unfold State.routeTouch
  dsimp only
  repeat' split
  all_goals simp
@[simp] theorem State.takeViewStop_ledger (n i c : Nat) (s : State) : (s.takeViewStop n i c).ledger = s.ledger := by
  unfold State.takeViewStop; split <;> simp
@[simp] theorem State.closeView_ledger (i : Fin 2) (s : State) : (s.closeView i).ledger = s.ledger := by
  unfold State.closeView State.stopView
  dsimp only
  rw [State.onScu_ledger]
  split
  · rfl
  · split <;> simp
@[simp] theorem State.takePageMap_ledger (n : Nat) (b : List Byte) (s : State) : (s.takePageMap n b).ledger = s.ledger := by
  unfold State.takePageMap
  split
  · simp
  · rw [State.result_ledger]
    exact State.foldl_ledger (fun s a => s.assign_ledger a) _ s
@[simp] theorem State.takePublish_ledger (n : Nat) (b : List Byte) (s : State) : (s.takePublish n b).ledger = s.ledger := by
  unfold State.takePublish
  split <;> simp [State.publish]
@[simp] theorem State.takeTile_ledger (b : List Byte) (s : State) : (s.takeTile b).ledger = s.ledger := by
  unfold State.takeTile
  dsimp only
  split
  · rfl
  · split <;> simp
@[simp] theorem State.noProgress_ledger (x : Tile) (s : State) : (s.noProgress x).ledger = s.ledger := by
  unfold State.noProgress; split <;> simp

end Sys2Proof.Machine
end

/-! The bounds of the change list, of the trip table and of the line speed under the operations of the ring's membership and of
the line shaft (R26 to R69, R84). -/

section
namespace Sys2Proof.Machine

variable {s t : State} {l : Ledger}

/-! ## Membership (R26 to R42) -/

@[simp] theorem State.offerHello_ledger (s : State) : s.offerHello.ledger = s.ledger := State.offer_ledger _ s
@[simp] theorem State.stepEvent_ledger (p : StepState) (s : State) : (s.stepEvent p).ledger = s.ledger :=
  State.post_ledger _ s
@[simp] theorem State.linkEvent_ledger (p : LinkState) (a e : Nat) (s : State) : (s.linkEvent p a e).ledger = s.ledger :=
  State.post_ledger _ s

/-- A change of step state beside the line, the tick in progress and the change list. -/
theorem State.changeStep_ledger {f : Su → Su} (h : (f s.su).line = s.su.line ∧ (f s.su).next = s.su.next ∧
    (f s.su).list = s.su.list) : (s.changeStep f).ledger = s.ledger :=
  (State.stepEvent_ledger _ _).trans (State.onSu_ledger h)

@[simp] theorem Ledger.Keeps.forgetViews (h : l.Keeps s.ledger) : l.Keeps s.forgetViews.ledger := by
  simp [State.forgetViews, h]

@[simp] theorem Ledger.Keeps.shaftMembered (h : l.Keeps s.ledger) : l.Keeps s.shaftMembered.ledger := by
  unfold State.shaftMembered
  dsimp only
  split <;> simp [State.changeStep_ledger, State.onSu_ledger, h]

@[simp] theorem Ledger.Keeps.shaftOut (h : l.Keeps s.ledger) : l.Keeps s.shaftOut.ledger := by
  have idle : (if (s.su.step != .shaftIdle || s.su.adopted) = true then
      s.changeStep fun u => { u with step := .shaftIdle, adopted := false } else s).ledger = s.ledger := by
    split <;> simp [State.changeStep_ledger]
  have forgotten := Ledger.Keeps.forgetViews (h.of_eq idle)
  have dropped := forgotten.of_eq (State.onSu_ledger (f := fun u => { u with heldHistory := false }) ⟨rfl, rfl, rfl⟩)
  exact (dropped.reportFalse 10 0).reportFalse 12 0

@[simp] theorem Ledger.Keeps.ringOut (h : l.Keeps s.ledger) : l.Keeps s.ringOut.ledger :=
  ((Ledger.Keeps.reportFalse (by simpa using h) 6 0).reportFalse 7 0).reportFalse 9 0

@[simp] theorem Ledger.Keeps.memberOut (h : l.Keeps s.ledger) (b : Bool) : l.Keeps (s.memberOut b).ledger := by
  unfold State.memberOut
  dsimp only
  refine Ledger.Keeps.reportFalse (Ledger.Keeps.reportAllFalse ?_ 8 _) 9 1
  rw [State.onScu_ledger]
  split <;> simp [h]

@[simp] theorem Ledger.Keeps.changeLink (h : l.Keeps s.ledger) (k : LinkState) (r : BypassReason) (a e : Nat) :
    l.Keeps (s.changeLink k r a e).ledger := by
  have switched : l.Keeps (if k.bypass = s.mc.link.bypass then s else s.switchBypass).ledger := by
    split <;> simp [State.switchBypass, h]
  unfold State.changeLink
  dsimp only
  generalize (if k.bypass = s.mc.link.bypass then s else s.switchBypass) = v at switched ⊢
  split
  · exact Ledger.Keeps.shaftOut (Ledger.Keeps.memberOut (by simp [switched]) _)
  · exact Ledger.Keeps.shaftOut (Ledger.Keeps.memberOut (by simp [switched]) _)
  all_goals simp [State.onSu_ledger, switched]

@[simp] theorem State.startAttempt_ledger (s : State) : s.startAttempt.ledger = s.ledger := by simp [State.startAttempt]

@[simp] theorem Ledger.Keeps.endAttempt (h : l.Keeps s.ledger) (n : Nat) : l.Keeps (s.endAttempt n).ledger := by
  unfold State.endAttempt
  dsimp only
  split
  · simp [h]
  · split <;> simp [h]

@[simp] theorem Ledger.Keeps.dropPeer (h : l.Keeps s.ledger) (n : Nat) : l.Keeps (s.dropPeer n).ledger := by
  have left : l.Keeps (((((s.onSlot n fun r => .absent r.required).orphanWhere fun o => o == n).onScu
      (Scu.dropStation n)).onSu fun u => { u with reports := u.reports.filter fun r => r.peer != n }).reportFalse
        11 n).ledger := by simp [State.onSu_ledger, h]
  unfold State.dropPeer
  dsimp only
  split
  · exact left.reportTrue 8 n
  · exact left

@[simp] theorem Ledger.Keeps.removePeer (h : l.Keeps s.ledger) (n : Nat) (r : RosterReason) :
    l.Keeps (s.removePeer n r).ledger := by simp [State.removePeer, h]

@[simp] theorem Ledger.Keeps.removeSilent (h : l.Keeps s.ledger) (n : Nat) : l.Keeps (s.removeSilent n).ledger := by
  unfold State.removeSilent; split <;> simp [h]

@[simp] theorem Ledger.Keeps.makePresent (h : l.Keeps s.ledger) (n d : Nat) (m : HelloMsg) :
    l.Keeps (s.makePresent n d m).ledger := by simp [State.makePresent, h]

@[simp] theorem Ledger.Keeps.slotHello (h : l.Keeps s.ledger) (n d : Nat) (m : HelloMsg) :
    l.Keeps (s.slotHello n d m).ledger := by
  unfold State.slotHello
  dsimp only
  repeat' split
  all_goals simp [h]

@[simp] theorem Ledger.Keeps.endDuplicate (h : l.Keeps s.ledger) : l.Keeps s.endDuplicate.ledger := by
  unfold State.endDuplicate; split <;> simp [h]

@[simp] theorem Ledger.Keeps.foreignHello (h : l.Keeps s.ledger) (d : Nat) (m : HelloMsg) :
    l.Keeps (s.foreignHello d m).ledger := by
  unfold State.foreignHello
  dsimp only
  repeat' split
  all_goals simp [h]

@[simp] theorem Ledger.Keeps.takeHello (h : l.Keeps s.ledger) (c : Copy) : l.Keeps (s.takeHello c).ledger := by
  unfold State.takeHello State.ownHello State.peerHello
  dsimp only
  repeat' split
  all_goals simp [h]

/-! ## Roster beats (R23, R32, R34, R41) -/

@[simp] theorem State.stepSilences_ledger (s : State) : s.stepSilences.ledger = s.ledger := by
  unfold State.stepSilences; split <;> simp

@[simp] theorem State.stepDuplicate_ledger (s : State) : s.stepDuplicate.ledger = s.ledger := by
  unfold State.stepDuplicate; split <;> simp

@[simp] theorem State.stepListen_ledger (s : State) : s.stepListen.ledger = s.ledger := by
  have counted (x : State) : x.countSinceMember.ledger = x.ledger := State.onSu_ledger ⟨rfl, rfl, rfl⟩
  unfold State.stepListen
  dsimp only
  split
  · split <;> simp
  all_goals simp [counted]

/-! ## The tick and the beat (R46, R50) -/

/-- A tick moves the speed toward the target and not beyond it. -/
theorem approach_le {v speed target : Nat} (up down : Nat) (hs : speed ≤ v) (ht : target ≤ v) :
    approach speed target up down ≤ v := by
  unfold approach
  split
  · omega
  · split <;> omega

theorem Line.tick_within {v : Nat} {k : Line} (normal fast : Nat) (hs : k.speed ≤ v) (ht : k.target ≤ v) :
    (k.tick normal fast).speed ≤ v := by
  rw [Line.tick_speed]
  refine approach_le _ _ hs ?_
  unfold Line.effTarget
  split
  · exact ht
  · exact Nat.zero_le v

theorem Line.ticks_within {v : Nat} {k : Line} (normal fast n : Nat) (hs : k.speed ≤ v) (ht : k.target ≤ v) :
    (k.ticks normal fast n).speed ≤ v ∧ (k.ticks normal fast n).target ≤ v := by
  induction n generalizing k with
  | zero => exact ⟨hs, ht⟩
  | succ n ih => exact ih (k := k.commit (k.tick normal fast)) (Line.tick_within normal fast hs ht) ht

@[simp] theorem Ledger.Keeps.endTick (h : l.Keeps s.ledger) : l.Keeps s.endTick.ledger := by
  unfold State.endTick
  split
  · rw [State.eachAxis_ledger State.axisTickEnd_ledger, State.onMc_ledger]
    exact h.trans ⟨⟨fun ⟨_, target, next, list⟩ => ⟨next, target, next, list⟩, id, id⟩, id⟩
  · exact h

@[simp] theorem Ledger.Keeps.tickBlocks (h : l.Keeps s.ledger) : l.Keeps s.tickBlocks.ledger := by
  have swept : (s.eachAxis State.axisTick).sweepTick.ledger = s.ledger :=
    (State.onCu_ledger _ _).trans (State.eachAxis_ledger State.axisTick_ledger s)
  exact (h.of_eq swept).rearmTick.markTick

@[simp] theorem Ledger.Keeps.tickAt (h : l.Keeps s.ledger) (b : Int) : l.Keeps (s.tickAt b).ledger := by
  refine Ledger.Keeps.tickBlocks ?_
  have ended : l.Keeps (s.endTick.atTime b.toNat).ledger := by simp [h]
  refine ended.trans ⟨⟨fun ⟨speed, target, _, list⟩ => ⟨speed, target, ?_, list⟩, id, id⟩, id⟩
  exact Line.tick_within _ _ speed target

/-- Applied entries bring in no speed and no target but their own. -/
theorem Line.applies_within {v : Nat} {k : Line} {due : List Entry} (hs : k.speed ≤ v) (ht : k.target ≤ v)
    (h : TargetsWithin v due) : (due.foldl Line.apply k).speed ≤ v ∧ (due.foldl Line.apply k).target ≤ v := by
  induction due generalizing k with
  | nil => exact ⟨hs, ht⟩
  | cons e due ih =>
    have rest : TargetsWithin v due := h.of_mem fun x hx => .inl (List.mem_cons_of_mem e hx)
    rw [List.foldl_cons]
    cases e with
    | set o n t a d b => exact ih hs (h o n t a d b List.mem_cons_self) rest
    | release o n b => exact ih hs (Nat.zero_le v) rest
    | stop o c d f b => exact ih hs ht rest

theorem applyOrder_mem (due : List Entry) : ∀ e ∈ applyOrder due, e ∈ due := fun e h => by
  simp only [applyOrder, List.mem_append, List.mem_filter] at h
  obtain (⟨k, -⟩ | ⟨k, -⟩) | ⟨k, -⟩ := h <;> exact k

/-- The entries of a beat applied and taken out of the list (R50). -/
@[simp] theorem Ledger.Keeps.startBeat (h : l.Keeps s.ledger) : l.Keeps s.startBeat.ledger := by
  have offered (x : State) : x.offerShaft.ledger = x.ledger := by unfold State.offerShaft; split <;> simp
  unfold State.startBeat
  rw [offered]
  refine h.endTick.trans ⟨⟨fun ⟨speed, target, next, list⟩ => ?_, fun ⟨few, single⟩ => ?_, id⟩, id⟩
  · have some (p : Entry → Bool) : TargetsWithin s.endTick.ledger.maxSpeed (s.endTick.su.list.filter p) :=
      list.of_mem fun e k => .inl (List.mem_of_mem_filter k)
    obtain ⟨speeds, targets⟩ := Line.applies_within speed target
      ((some _).of_mem fun e k => .inl (applyOrder_mem _ e k))
    exact ⟨speeds, targets, next, some _⟩
  · have less (p : Entry → Bool) : (s.endTick.su.list.filter p).Sublist s.endTick.su.list := List.filter_sublist
    exact ⟨(less _).length_le.trans few, single.sublist ((less _).map _)⟩

/-! ## Shaft and Speed copies (R54 to R60) -/

@[simp] theorem State.enterAlone_ledger (s : State) : s.enterAlone.ledger = s.ledger := by
  unfold State.enterAlone; split <;> simp [State.changeStep_ledger]

@[simp] theorem Ledger.Keeps.takeReport (h : l.Keeps s.ledger) (x : Header) (b : Int) (m : ShaftMsg) :
    l.Keeps (s.takeReport x b m).ledger := by
  have counted (r : Exclusion) (u : State) : (u.onSu (Su.countExclusion r)).ledger = u.ledger :=
    State.onSu_ledger (by cases r <;> exact ⟨rfl, rfl, rfl⟩)
  have entered (r : Report) (u : State) : (u.onSu (Su.enterReport r)).ledger = u.ledger :=
    State.onSu_ledger ⟨rfl, rfl, rfl⟩
  unfold State.takeReport
  dsimp only
  repeat' split
  all_goals simp [State.changeStep_ledger, counted, entered, h]

@[simp] theorem Ledger.Keeps.offerCarried (h : l.Keeps s.ledger) (m : ShaftMsg) : l.Keeps (s.offerCarried m).ledger := by
  unfold State.offerCarried
  split
  · exact h.foldl (fun _ e h => h.installEntry e) _
  · exact h

@[simp] theorem Ledger.Keeps.measure (h : l.Keeps s.ledger) (x : Header) (b : Int) (m : ShaftMsg) :
    l.Keeps (s.measure x b m).ledger := by
  unfold State.measure; split <;> simp [h]

@[simp] theorem Ledger.Keeps.takeSpeed (h : l.Keeps s.ledger) (c : Copy) : l.Keeps (s.takeSpeed c).ledger := by
  unfold State.takeSpeed
  dsimp only
  split
  · exact h
  · split
    · exact h.installEntry _
    · exact h.of_eq (State.onSu_ledger ⟨rfl, rfl, rfl⟩)

@[simp] theorem Ledger.Keeps.command (h : l.Keeps s.ledger) (e : Entry) : l.Keeps (s.command e).ledger := by
  simp [State.command, State.onSu_ledger, h]

/-! ## A replaced line history (R55, R63, R65, R84) -/

@[simp] theorem State.lineReplaced_ledger (v : Nat) (s : State) : (s.lineReplaced v).ledger = s.ledger := by
  simp only [State.lineReplaced, State.onMu_ledger, State.onCu_ledger, State.eachAxis_ledger (State.historyDecouple_ledger v)]

theorem State.standingStops_isStop (s : State) : ∀ e ∈ s.standingStops, e.isStop = true := fun e h => by
  obtain ⟨x, -, hx⟩ := List.mem_filterMap.mp h
  split at hx
  · split at hx <;> cases hx <;> rfl
  · cases hx

theorem Su.installStop_eq (u : Su) (e : Entry) : u.installStop e = { u with
    list := (u.installStop e).list, droppedEntries := (u.installStop e).droppedEntries } := by
  unfold Su.installStop
  split
  · rfl
  · exact Su.place_eq _ u

theorem Su.installStop_within {v : Nat} {u : Su} {e : Entry} (h : TargetsWithin v u.list) (k : e.isStop = true) :
    TargetsWithin v (u.installStop e).list := by
  unfold Su.installStop
  split
  · exact h
  · exact Su.place_within h (Entry.Within.at (.of_isStop k) _)

/-- Stops submitted anew join the list as any entry does, and touch nothing else of the ledger. -/
theorem Su.installStops {stops : List Entry} (u : Su) :
    (stops.foldl Su.installStop u).line = u.line ∧ (stops.foldl Su.installStop u).next = u.next ∧
      (ListBounded u.list → ListBounded (stops.foldl Su.installStop u).list) ∧
      ((∀ e ∈ stops, e.isStop = true) → ∀ v, TargetsWithin v u.list →
        TargetsWithin v (stops.foldl Su.installStop u).list) := by
  induction stops generalizing u with
  | nil => exact ⟨rfl, rfl, id, fun _ _ => id⟩
  | cons e stops ih =>
    obtain ⟨line, next, list, targets⟩ := ih (u.installStop e)
    refine ⟨line.trans (by rw [Su.installStop_eq]), next.trans (by rw [Su.installStop_eq]),
      fun k => list (Su.installStop_bounded e k), fun k v w => ?_⟩
    exact targets (fun x hx => k x (List.mem_cons_of_mem e hx)) v (Su.installStop_within w (k e List.mem_cons_self))

@[simp] theorem Ledger.Keeps.resubmitStops (h : l.Keeps s.ledger) : l.Keeps s.resubmitStops.ledger := by
  obtain ⟨line, next, list, targets⟩ := Su.installStops (stops := s.standingStops) s.su
  refine h.trans ⟨⟨fun ⟨hs, ht, hn, hl⟩ => ⟨?_, ?_, ?_, targets s.standingStops_isStop _ hl⟩, list, id⟩, id⟩
  · exact (congrArg Line.speed line).le.trans hs
  · exact (congrArg Line.target line).le.trans ht
  · exact (congrArg TickResult.speed next).le.trans hn

/-- The Shaft Unit founds a history at rest with an empty list. -/
@[simp] theorem Ledger.Keeps.found (h : l.Keeps s.ledger) : l.Keeps s.found.ledger := by
  have founded : l.Keeps (s.onSu (Su.found s.ownStation)).ledger :=
    h.trans ⟨⟨fun ⟨_, _, next, _⟩ => ⟨Nat.zero_le _, Nat.zero_le _, next, fun _ _ _ _ _ _ k => by cases k⟩,
      fun _ => ⟨Nat.zero_le 8, List.nodup_nil⟩, id⟩, id⟩
  unfold State.found
  dsimp only
  rw [State.offer_ledger, State.changeStep_ledger ⟨rfl, rfl, rfl⟩]
  exact Ledger.Keeps.resubmitStops (founded.of_eq (State.lineReplaced_ledger _ _))

/-- One carried entry taken by an adoption: put in its rank, unless its identity is there already (R63). -/
def Su.carry (maxSpeed : Nat) (u : Su) (e : Entry) : Su :=
  if u.list.any (fun x => x.ident == e.ident) then u
  else { u with list := insertRank u.beat (e.clamped maxSpeed) u.list }

theorem Su.takeCarried_eq (v : Nat) (entries : List Entry) (u : Su) :
    u.takeCarried v entries = entries.foldl (Su.carry v) { u with list := [] } := rfl

theorem Su.carry_eq (v : Nat) (u : Su) (e : Entry) : u.carry v e = { u with list := (u.carry v e).list } := by
  unfold Su.carry; split <;> rfl

theorem Su.carry_length (v : Nat) (u : Su) (e : Entry) : (u.carry v e).list.length ≤ u.list.length + 1 := by
  unfold Su.carry
  split
  · omega
  · exact (insertRank_perm _ _ _).length_eq.le

theorem Su.carry_idents {v : Nat} {u : Su} {e : Entry} (h : (u.list.map Entry.ident).Nodup) :
    ((u.carry v e).list.map Entry.ident).Nodup := by
  unfold Su.carry
  split
  · exact h
  · next absent =>
    refine insertRank_idents h ?_
    simpa using absent

theorem Su.carry_within {v : Nat} {u : Su} {e : Entry} (h : TargetsWithin v u.list) :
    TargetsWithin v (u.carry v e).list := by
  unfold Su.carry
  split
  · exact h
  · refine h.of_mem fun x hx => ?_
    rcases List.mem_cons.mp ((insertRank_perm _ _ _).subset hx) with rfl | k
    · exact .inr (.clamped v e)
    · exact .inl k

/-- The list an adoption takes from a frame's entries: no more of them, of distinct identity, clamped (R63). -/
theorem Su.carries_list {v : Nat} (entries : List Entry) {u : Su} (h : (u.list.map Entry.ident).Nodup)
    (w : TargetsWithin v u.list) :
    (entries.foldl (Su.carry v) u).list.length ≤ u.list.length + entries.length ∧
      ((entries.foldl (Su.carry v) u).list.map Entry.ident).Nodup ∧
      TargetsWithin v (entries.foldl (Su.carry v) u).list := by
  induction entries generalizing u with
  | nil => exact ⟨le_rfl, h, w⟩
  | cons e entries ih =>
    obtain ⟨len, idents, targets⟩ := ih (Su.carry_idents (v := v) (e := e) h) (Su.carry_within w)
    have one := Su.carry_length v u e
    refine ⟨?_, idents, targets⟩
    simp only [List.foldl_cons, List.length_cons]
    omega

theorem Su.takeCarried_eq_list (v : Nat) (entries : List Entry) (u : Su) :
    u.takeCarried v entries = { u with list := (u.takeCarried v entries).list } := by
  have carried (w : Su) : entries.foldl (Su.carry v) w = { w with list := (entries.foldl (Su.carry v) w).list } := by
    induction entries generalizing w with
    | nil => rfl
    | cons e entries ih => rw [List.foldl_cons, ih, Su.carry_eq]
  rw [Su.takeCarried_eq, carried]

/-- A list read entry by entry has as many entries as were read. -/
theorem length_of_mapM_some {α β : Type} {f : α → Option β} {x : List α} {y : List β} (h : x.mapM f = some y) :
    y.length = x.length := by
  induction x generalizing y with
  | nil => cases h; rfl
  | cons a x ih =>
    simp only [List.mapM_cons, Option.bind_eq_bind, Option.bind_eq_some_iff] at h
    obtain ⟨b, -, z, rest, e⟩ := h
    cases e
    simp [ih rest]

theorem parseShaft_entries {p : List Byte} {m : ShaftMsg} (h : parseShaft p = some m) : m.entries.length ≤ 2 := by
  unfold parseShaft at h
  dsimp only at h
  split at h
  · cases h
  · next few =>
    simp only [Option.bind_eq_bind, Option.bind_eq_some_iff, Option.some.injEq] at h
    obtain ⟨stop, -, step, -, entries, read, rfl⟩ := h
    have same := length_of_mapM_some read
    rw [List.length_range] at same
    show entries.length ≤ 2
    omega

/-- The list an adoption takes from a frame's entries: no more of them, of distinct identity, clamped (R63). -/
theorem Su.takeCarried_list (v : Nat) (entries : List Entry) (u : Su) :
    (u.takeCarried v entries).list.length ≤ entries.length ∧ ((u.takeCarried v entries).list.map Entry.ident).Nodup ∧
      TargetsWithin v (u.takeCarried v entries).list := by
  rw [Su.takeCarried_eq]
  simpa using Su.carries_list (v := v) entries (u := { u with list := [] }) List.nodup_nil (fun _ _ _ _ _ _ k => by cases k)

/-- An adopted line within a maximum stays within it, with the tick in progress; the entries are few and clamped (R63). -/
theorem Su.adopt_within {m : ShaftMsg} {v : Nat} (hs : m.line.speed ≤ v) (ht : m.line.target ≤ v)
    (few : m.entries.length ≤ 2) (b : Int) (now normal fast : Nat) (u : Su) :
    ((u.adopt b now v normal fast m).line.speed ≤ v ∧ (u.adopt b now v normal fast m).line.target ≤ v ∧
      (u.adopt b now v normal fast m).next.speed ≤ v ∧ TargetsWithin v (u.adopt b now v normal fast m).list) ∧
      ListBounded (u.adopt b now v normal fast m).list := by
  have carried (w : Su) := Su.takeCarried_list v m.entries w
  unfold Su.adopt
  dsimp only
  generalize tickEndAfter b now _ = stop
  obtain ⟨speed, target⟩ := Line.ticks_within normal fast (ticksPassed b now) hs ht
  have next := (Line.ticks_within normal fast (stop - ticksPassed b now) speed target).1
  rw [Su.takeCarried_eq_list]
  obtain ⟨len, idents, targets⟩ := carried _
  exact ⟨⟨speed, target, next, targets⟩, len.trans (few.trans (by decide)), idents⟩

/-- The line of a frame that qualifies is within the maximum line speed (R63). -/
theorem State.qualifies_within {m : ShaftMsg} {origin transit : Nat} (q : s.qualifies origin transit m = true) :
    m.line.speed ≤ s.maxSpeed ∧ m.line.target ≤ s.maxSpeed := by
  simp only [State.qualifies, Bool.and_eq_true, decide_eq_true_eq] at q
  obtain ⟨⟨-, speed⟩, target⟩ := q
  exact ⟨speed, target⟩

theorem Ledger.Keeps.adopt {m : ShaftMsg} {origin transit : Nat} (h : l.Keeps s.ledger)
    (q : s.qualifies origin transit m = true) (few : m.entries.length ≤ 2) (b : Int) : l.Keeps (s.adopt b m).ledger := by
  obtain ⟨hs, ht⟩ := State.qualifies_within q
  obtain ⟨safe, bounded⟩ := Su.adopt_within hs ht few b s.now s.normalRate s.fastRate s.su
  have adopted : l.Keeps (s.onSu fun u => u.adopt b s.now s.maxSpeed s.normalRate s.fastRate m).ledger :=
    h.trans ⟨⟨fun _ => safe, fun _ => bounded, id⟩, id⟩
  have resubmitted := Ledger.Keeps.resubmitStops (adopted.of_eq (State.lineReplaced_ledger s.su.line.speed _))
  unfold State.adopt
  dsimp only
  split
  · exact resubmitted.of_eq (State.changeStep_ledger ⟨rfl, rfl, rfl⟩)
  · exact resubmitted.of_eq (State.changeStep_ledger ⟨rfl, rfl, rfl⟩)

theorem Ledger.Keeps.examine {m : ShaftMsg} (h : l.Keeps s.ledger) (few : m.entries.length ≤ 2) (f : Bool) (x : Header)
    (b : Int) : l.Keeps (s.examine f x b m).ledger := by
  unfold State.examine
  split
  · next q => exact h.adopt (Bool.and_eq_true_iff.mp q).1 few b
  · exact h

@[simp] theorem Ledger.Keeps.takeShaft (h : l.Keeps s.ledger) (c : Copy) : l.Keeps (s.takeShaft c).ledger := by
  unfold State.takeShaft
  dsimp only
  split
  · exact h
  · next m hm =>
    have few := parseShaft_entries hm
    have examined := h.examine few
    split
    case h_5 =>
      split
      · split
        · exact h.of_eq (State.onSu_ledger ⟨rfl, rfl, rfl⟩)
        · exact h
      all_goals repeat' split
      all_goals simp [h, examined]
    all_goals simp [h, examined]

@[simp] theorem Ledger.Keeps.loseStep (h : l.Keeps s.ledger) : l.Keeps s.loseStep.ledger := by
  have left {f : Su → Su} (e : (f s.su).line = s.su.line ∧ (f s.su).next = s.su.next ∧ (f s.su).list = s.su.list) :
      l.Keeps (s.changeStep f).ledger := h.of_eq (State.changeStep_ledger e)
  unfold State.loseStep
  split
  · exact (left ⟨rfl, rfl, rfl⟩).forgetViews.reportTrue 10 0
  · exact (left ⟨rfl, rfl, rfl⟩).reportTrue 10 0

end Sys2Proof.Machine
end

/-! The bounds of the change list, of the trip table and of the line speed under resets, the host link, the configuration and the
Command Port (R25, R70, R152, R187 to R199). -/

section
namespace Sys2Proof.Machine

variable {s t : State} {l : Ledger}

/-! ## Resets and the host link (R25, R71, R199) -/

/-- Empty tables, a line at rest and no local stop are within the bounds. -/
theorem Ledger.Keeps.of_rest (line : s.su.line = .initial) (next : s.su.next.speed = 0) (list : s.su.list = [])
    (table : s.tu.table = []) (stop : s.au.localStop = .none) : l.Keeps s.ledger := by
  refine ⟨⟨fun _ => ?_, fun _ => ?_, fun _ => ?_⟩, fun _ => ?_⟩
  · simp [Ledger.SpeedSafe, State.ledger, line, next, list, Line.initial, TargetsWithin]
  · simp [State.ledger, list, ListBounded]
  · simp [State.ledger, table, TableBounded]
  · simp [Ledger.Level, State.ledger, table, stop, stopLevel]

@[simp] theorem Ledger.Keeps.reportInputs (h : l.Keeps s.ledger) : l.Keeps s.reportInputs.ledger := by
  have input {s : State} (h : l.Keeps s.ledger) (b : Bool) (c : Nat) : l.Keeps (s.reportInput b c).ledger := by
    unfold State.reportInput; split <;> simp [h]
  exact input (input (input (input (input (input (input h _ 0) _ 1) _ 2) _ 3) _ 4) _ 5) _ 20

@[simp] theorem Ledger.Keeps.coldReset (l : Ledger) (s : State) : l.Keeps s.coldReset.ledger :=
  Ledger.Keeps.reportInputs (.of_rest rfl rfl rfl rfl rfl)

@[simp] theorem Ledger.Keeps.warmReset (l : Ledger) (s : State) : l.Keeps s.warmReset.ledger := by
  have rest : s.su.warm.line = .initial ∧ s.su.warm.next.speed = 0 ∧ s.su.warm.list = [] := by
    unfold Su.warm
    split <;> exact ⟨rfl, rfl, rfl⟩
  obtain ⟨line, next, list⟩ := rest
  exact Ledger.Keeps.reportInputs (.of_rest line next list rfl rfl)

@[simp] theorem Ledger.Keeps.linkLoss (h : l.Keeps s.ledger) : l.Keeps s.linkLoss.ledger := by
  unfold State.linkLoss State.discardEvents
  dsimp only
  rw [State.onTu_ledger rfl]
  simp [h]

@[simp] theorem Ledger.Keeps.portBecameReady (h : l.Keeps s.ledger) : l.Keeps s.portBecameReady.ledger := by
  have ready : l.Keeps ((s.reportFalse 21 0).onTu fun u => { u with noticeHeld := false }).ledger :=
    Ledger.Keeps.of_eq (h.reportFalse 21 0) (State.onTu_ledger rfl)
  unfold State.portBecameReady
  dsimp only
  split
  · rw [State.postNotice_ledger]
    exact ready.of_eq (State.onTu_ledger rfl)
  · exact ready

/-! ## The configuration (R70, R74, R152, R191) -/

@[simp] theorem State.configureAxis_ledger (i : Fin 4) (s : State) : (s.configureAxis i).ledger = s.ledger := by
  unfold State.configureAxis
  dsimp only
  split <;> simp

/-- Speeds and targets reduced to the maximum are within it, and no identity changes (R70). -/
theorem Su.limit_within (v : Nat) (u : Su) :
    ((u.limit v).line.speed ≤ v ∧ (u.limit v).line.target ≤ v ∧ (u.limit v).next.speed ≤ v ∧
      TargetsWithin v (u.limit v).list) ∧ (ListBounded u.list → ListBounded (u.limit v).list) := by
  refine ⟨⟨Nat.min_le_right _ _, Nat.min_le_right _ _, Nat.min_le_right _ _, fun o n t a d b k => ?_⟩, fun k => ?_⟩
  · obtain ⟨e, -, he⟩ := List.mem_map.mp k
    exact Entry.Within.clamped v e o n t a d b he
  · have idents : (u.limit v).list.map Entry.ident = u.list.map Entry.ident := by simp [Su.limit]
    exact ⟨by simpa [Su.limit] using k.1, by rw [idents]; exact k.2⟩

/-- The causes re-evaluated one after another under the configuration that has taken effect (R152). -/
theorem Ledger.Holds.reevaluateAll {c : Option Cfg} (old : Option Cfg) (x : List OwnCause) (h : l.Holds s.ledger)
    (e : s.cfg = c) : l.Holds (x.foldl (State.reevaluate old c) s).ledger := by
  induction x generalizing s with
  | nil => exact h
  | cons k x ih =>
    subst e
    exact ih (h.reevaluate old k) (State.reevaluate_reported old k rfl).cfg_eq

/-- A configuration's taking effect keeps the bounds stage by stage; the local stop level follows at its end. -/
@[simp] theorem Ledger.Keeps.configure (h : l.Keeps s.ledger) (c : Cfg) : l.Keeps (s.configure c).ledger := by
  obtain ⟨safe, list⟩ := Su.limit_within c.maxSpeed s.su
  have begun : l.Holds (s.configBegun c).ledger := h.toHolds.trans ⟨fun _ => safe, list, id⟩
  have judged : l.Holds (s.configJudged c).ledger := begun.reevaluateAll s.cfg s.tu.causes rfl
  have reset (x : State) : x.ledger.Keeps x.drivesReset.ledger := by
    have axes : x.ledger.Keeps (x.eachAxis State.configureAxis).ledger :=
      (Ledger.Keeps.refl _).of_eq (State.eachAxis_ledger State.configureAxis_ledger x)
    exact ((axes.reportAllFalse 13 _).reportAllFalse 14 _).reportAllFalse 15 _
  have filmed (x : State) : x.ledger.Keeps x.camerasReset.ledger :=
    Ledger.Keeps.freshCameras ((Ledger.Keeps.refl _).of_eq (State.onCmp_ledger _ x))
  have looped (x : State) : x.ledger.Keeps (x.eachAxis State.configureLoop).ledger :=
    (Ledger.Keeps.refl _).eachAxis fun i s h => h.configureLoop i
  rw [State.configure_eq]
  refine Ledger.Holds.updateLocalStop ?_
  rw [State.onScu_ledger]
  exact judged.trans (((reset _).trans (filmed _)).trans (looped _)).toHolds

@[simp] theorem Ledger.Keeps.finishConfigure (h : l.Keeps s.ledger) : l.Keeps s.finishConfigure.ledger := by
  unfold State.finishConfigure
  split
  · split <;> simp [h]
  · exact h

@[simp] theorem Ledger.Keeps.awaitStripWrites (h : l.Keeps s.ledger) (c : Cfg) : l.Keeps (s.awaitStripWrites c).ledger := by
  simp [State.awaitStripWrites, h]

/-! ## The Command Port (R187 to R198) -/

@[simp] theorem Ledger.Keeps.writeRun (h : l.Keeps s.ledger) (q : QueueId) (b : Bool) : l.Keeps (s.writeRun q b).ledger := by
  unfold State.writeRun State.setRunFlag
  dsimp only
  repeat' split
  all_goals simp [h]

@[simp] theorem State.setupWrite_ledger (q : QueueId) (b n : Nat) (s : State) : (s.setupWrite q b n).ledger = s.ledger := by
  unfold State.setupWrite; split <;> simp

@[simp] theorem Ledger.Keeps.sizeWrite (h : l.Keeps s.ledger) (q : QueueId) (n : Nat) (b : Bool) :
    l.Keeps (s.sizeWrite q n b).ledger := by
  unfold State.sizeWrite
  repeat' split
  all_goals simp [h]

@[simp] theorem State.startImage_ledger (a n : Nat) (b : List Byte) (s : State) : (s.startImage a n b).ledger = s.ledger := by
  unfold State.startImage; split <;> simp

@[simp] theorem State.startRead_ledger (p : Purpose) (a n : Nat) (s : State) : (s.startRead p a n).ledger = s.ledger := by
  simp [State.startRead]

@[simp] theorem State.failCommand_ledger (k : DmaKind) (s : State) : (s.failCommand k).ledger = s.ledger :=
  s.complete_ledger _ _ _

@[simp] theorem Ledger.Keeps.endCommand (h : l.Keeps s.ledger) (q : CmdQueue) : l.Keeps (s.endCommand q).ledger := by
  unfold State.endCommand
  dsimp only
  split <;> simp [h]

@[simp] theorem State.closeNotice_ledger (s : State) : s.closeNotice.ledger = s.ledger := by
  have closed : (s.onTu fun u => { u with noticeOut := false, changesPending := false }).ledger = s.ledger :=
    State.onTu_ledger rfl
  unfold State.closeNotice
  dsimp only
  split
  · split
    · rw [State.postNotice_ledger, closed]
    · exact closed
  · rfl

@[simp] theorem State.settleCounters_ledger (b : List Byte) (s : State) : (s.settleCounters b).ledger = s.ledger := by
  unfold State.settleCounters
  dsimp only
  split <;> rfl

@[simp] theorem State.imageWritten_ledger (b : List Byte) (s : State) : (s.imageWritten b).ledger = s.ledger := by
  unfold State.imageWritten; split <;> simp

@[simp] theorem State.nextEvent_ledger (s : State) : s.nextEvent.ledger = s.ledger := by simp [State.nextEvent]

@[simp] theorem State.eventWritten_ledger (x : Transfer) (s : State) : (s.eventWritten x).ledger = s.ledger := by
  simp [State.eventWritten]

@[simp] theorem Ledger.Keeps.failTransfer (h : l.Keeps s.ledger) (x : Transfer) (k : DmaKind) :
    l.Keeps (s.failTransfer x k).ledger := by
  unfold State.failTransfer
  repeat' split
  all_goals simp [h]

theorem Ledger.Keeps.withTransfer {f : Transfer → State → State} (h : l.Keeps s.ledger)
    (hf : ∀ x s, l.Keeps s.ledger → l.Keeps (f x s).ledger) (p : Purpose) (u : DmaUnit) :
    l.Keeps (s.withTransfer p u f).ledger := by
  unfold State.withTransfer
  split
  · exact hf _ _ (by simpa using h)
  · exact h

theorem Ledger.Keeps.withReply {f : Transfer → List Byte → State → State} (h : l.Keeps s.ledger)
    (hf : ∀ x b s, l.Keeps s.ledger → l.Keeps (f x b s).ledger) (p : Purpose) (u : DmaUnit) (r : DmaReply) :
    l.Keeps (s.withReply p u r f).ledger :=
  h.withTransfer (fun x s h => by
    cases r with
    | data b => exact hf x b s h
    | error => exact h.failTransfer x _) p u

theorem Ledger.Keeps.withWrite {f : Transfer → State → State} (h : l.Keeps s.ledger)
    (hf : ∀ x s, l.Keeps s.ledger → l.Keeps (f x s).ledger) (p : Purpose) (u : DmaUnit) (ok : Bool) :
    l.Keeps (s.withWrite p u ok f).ledger :=
  h.withTransfer (fun x s h => by
    cases ok with
    | true => exact hf x s h
    | false => exact h.failTransfer x _) p u

@[simp] theorem State.takeDescriptor_ledger (q : CmdQueue) (d : List Byte) (s : State) :
    (s.takeDescriptor q d).ledger = s.ledger := by
  unfold State.takeDescriptor
  dsimp only
  repeat' split
  all_goals simp

/-! ## The ring (R1 to R16) -/

@[simp] theorem State.countBlock_ledger (b : Bool) (s : State) : (s.countBlock b).ledger = s.ledger := State.onMc_ledger _ s

@[simp] theorem Ledger.Keeps.lockLost (h : l.Keeps s.ledger) (m : Bool) (a : List Byte) : l.Keeps (s.lockLost m a).ledger := by
  have cut : l.Keeps (s.cutBlock m a).ledger := by unfold State.cutBlock; split <;> simp [h]
  unfold State.lockLost
  dsimp only
  split <;> simp [cut]

@[simp] theorem Ledger.Keeps.lockGained (h : l.Keeps s.ledger) : l.Keeps s.lockGained.ledger := by
  unfold State.lockGained
  split
  · split <;> simp [h]
  all_goals simp [h]

@[simp] theorem State.takeHeader_ledger (a : Nat) (b : List Byte) (s : State) : (s.takeHeader a b).ledger = s.ledger := by
  unfold State.takeHeader
  dsimp only
  split <;> simp

@[simp] theorem Ledger.Keeps.headless (h : l.Keeps s.ledger) (e : FrameEnding) : l.Keeps (s.headless e).ledger := by
  cases e <;> simp [State.headless, State.countAborted, h]

/-! ## Cameras, commands and screens -/

@[simp] theorem State.markLine_ledger (i : Fin 4) (c : CamCfg) (g : LineTag) (p : List Byte) (s : State) :
    (s.markLine i c g p).ledger = s.ledger := by
  unfold State.markLine; split <;> simp

@[simp] theorem Ledger.Keeps.missLine (h : l.Keeps s.ledger) (i : Fin 4) : l.Keeps (s.missLine i).ledger := by
  unfold State.missLine
  dsimp only
  split <;> simp [h]

@[simp] theorem Ledger.Keeps.enableAxis (h : l.Keeps s.ledger) (i : Fin 4) : l.Keeps (s.enableAxis i).ledger := by
  have changed : l.Keeps (s.changeAxis i Axis.enable .command).ledger := by simpa using h
  exact ((changed.reportFalse 13 i.val).reportFalse 14 i.val).reportFalse 15 i.val

@[simp] theorem State.takeMarkTable_ledger (i : Fin 4) (b : List Byte) (s : State) :
    (s.takeMarkTable i b).ledger = s.ledger := by
  unfold State.takeMarkTable; split <;> simp

@[simp] theorem State.rearmEntries_ledger (i : Fin 4) (s : State) : (s.rearmEntries i).ledger = s.ledger := by
  unfold State.rearmEntries
  dsimp only
  split <;> simp

@[simp] theorem Ledger.Keeps.takeConfig (h : l.Keeps s.ledger) (b : List Byte) : l.Keeps (s.takeConfig b).ledger := by
  unfold State.takeConfig; split <;> simp [h]

@[simp] theorem State.openView_ledger (i : Fin 2) (v : ViewSlot) (s : State) : (s.openView i v).ledger = s.ledger := by
  simp [State.openView]

@[simp] theorem Ledger.Keeps.beginJoin (h : l.Keeps s.ledger) : l.Keeps s.beginJoin.ledger := by simp [State.beginJoin, h]

@[simp] theorem Ledger.Keeps.beginLeave (h : l.Keeps s.ledger) : l.Keeps s.beginLeave.ledger := by simp [State.beginLeave, h]

/-- ACKNOWLEDGE TRIPS takes entries out of the table, and the local stop level follows (R147, R155). -/
@[simp] theorem Ledger.Keeps.acknowledge (h : l.Keeps s.ledger) :
    l.Keeps ((s.onTu Tu.acknowledge).updateLocalStop).ledger :=
  Ledger.Holds.updateLocalStop (h.toHolds.onTu fun ⟨few, keys⟩ =>
    ⟨(List.length_filter_le _ _).trans few, keys.sublist (List.filter_sublist.map _)⟩)

theorem Ledger.Keeps.axisCommand {f : Fin 4 → AxisCfg → State → State} (h : l.Keeps s.ledger)
    (hf : ∀ i c, l.Keeps (f i c s).ledger) (a : Nat) : l.Keeps (s.axisCommand a f).ledger := by
  unfold State.axisCommand
  split
  · simpa using h
  · split
    · simpa using h
    · split
      · simpa using h
      · exact hf _ _

theorem Ledger.Keeps.cameraCommand {f : Fin 4 → State → State} (h : l.Keeps s.ledger)
    (hf : ∀ i, l.Keeps (f i s).ledger) (a : Nat) : l.Keeps (s.cameraCommand a f).ledger := by
  unfold State.cameraCommand
  split
  · simpa using h
  · exact hf _

end Sys2Proof.Machine
end

/-! The change list and the trip table stay bounded and the line speed stays safe: every step. -/

section
namespace Sys2Proof.Machine

variable {s : State} {l : Ledger}

/-- Every state that an answer gives keeps the bounds from `l`. -/
def Ledger.Answers (l : Ledger) (a : Answered) : Prop := ∀ u, a = .next u → l.Keeps u.ledger

@[simp] theorem Ledger.answers_next (l : Ledger) (s : State) : l.Answers (.next s) ↔ l.Keeps s.ledger :=
  ⟨fun h => h s rfl, fun h u e => by cases e; exact h⟩

/-! ## The ring and the copies handed on -/

theorem execFrameEndArrival_keeps (h : l.Keeps s.ledger) (t : Nat) (b : List Byte) (e : FrameEnding) :
    l.Answers (execFrameEndArrival t b e s) := by
  simp only [execFrameEndArrival, Ledger.answers_next]
  split
  · split <;> simp [h]
  · simp [h]

theorem execHelloCopy_keeps (h : l.Keeps s.ledger) : l.Answers (execHelloCopy s) := by
  rw [execHelloCopy, Ledger.answers_next]
  split
  · exact h
  · next c rest _ => exact Ledger.Keeps.takeHello (s := { s with inMc := rest }) h c

theorem execShaftCopy_keeps (h : l.Keeps s.ledger) : l.Answers (execShaftCopy s) := by
  rw [execShaftCopy, Ledger.answers_next]
  split
  · exact h
  · next c rest _ =>
    split
    · exact Ledger.Keeps.takeShaft (s := { s with inSu := rest }) h c
    · exact h

theorem execSpeedCopy_keeps (h : l.Keeps s.ledger) : l.Answers (execSpeedCopy s) := by
  rw [execSpeedCopy, Ledger.answers_next]
  split
  · exact h
  · next c rest _ =>
    split
    · exact Ledger.Keeps.takeSpeed (s := { s with inSu := rest }) h c
    · exact h

theorem execTripCopy_keeps (h : l.Keeps s.ledger) : l.Answers (execTripCopy s) := by
  rw [execTripCopy, Ledger.answers_next]
  split
  · exact h
  · next c rest _ => exact Ledger.Keeps.takeTrip (s := { s with inTu := rest }) h c

theorem execCorrectionCopy_keeps (h : l.Keeps s.ledger) : l.Answers (execCorrectionCopy s) := by
  rw [execCorrectionCopy, Ledger.answers_next]
  split
  · exact h
  · next c rest _ =>
    have taken : State.ledger { s with inAu := rest } = s.ledger := rfl
    dsimp only
    split
    · rw [State.takeCorrection_ledger, taken]; exact h
    · rw [taken]; exact h

/-- A copy of the Screen Unit's inbox taken by operations that leave the ledger as it is. -/
theorem State.takeScreen_ledger {f : Copy → Option (State → State)} (hf : ∀ c g s, f c = some g → (g s).ledger = s.ledger)
    (s : State) : (s.takeScreen f).ledger = s.ledger := by
  unfold State.takeScreen
  split
  · rfl
  · split
    · next hg => exact hf _ _ _ hg
    · rfl

/-- The steps that take a Tile control copy. -/
theorem tileControlCopies_keep (h : l.Keeps s.ledger) :
    l.Answers (execTileInvalidate s) ∧ l.Answers (execTileRequestCopy s) ∧ l.Answers (execTouchCopy s) ∧
      l.Answers (execViewRequest s) ∧ l.Answers (execViewStop s) ∧ l.Answers (execViewRefusal s) := by
  refine ⟨?_, ?_, ?_, ?_, ?_, ?_⟩
  all_goals
    refine (Ledger.answers_next l _).mpr (h.of_eq (State.takeScreen_ledger (fun c g s hg => ?_) s))
    split at hg
    · cases hg
      simp
    · cases hg

/-- The steps that take a copy of pixels. -/
theorem pixelCopies_keep (h : l.Keeps s.ledger) : l.Answers (execTileDataFragment s) ∧ l.Answers (execViewLine s) := by
  constructor
  all_goals
    refine (Ledger.answers_next l _).mpr (h.of_eq (State.takeScreen_ledger (fun c g s hg => ?_) s))
    dsimp only at hg
    split at hg
    · cases hg
      dsimp only
      split <;> simp
    · cases hg

/-! ## Cameras and membership -/

theorem execCameraLine_keeps (h : l.Keeps s.ledger) (t : Nat) (i : Fin 4) (n : Nat) (p : List Byte) :
    l.Answers (execCameraLine t i n p s) := by
  have entry (u : State) (hu : l.Keeps u.ledger) : l.Keeps (u.takeEntry i n).ledger := by simp [State.takeEntry, hu]
  have line (u : State) (hu : l.Keeps u.ledger) (c : CamCfg) (g : LineTag) (q : List Byte) :
      l.Keeps (u.goodLine i c g q).ledger := by simp [State.goodLine, hu]
  simp only [execCameraLine, Ledger.answers_next]
  split
  · exact line _ (entry _ (by simpa using h)) _ _ _
  · simpa using h

theorem execRosterBeatStart_keeps (h : l.Keeps s.ledger) : l.Answers (execRosterBeatStart s) := by
  simp only [execRosterBeatStart, Ledger.answers_next]
  split
  · have begun : l.Keeps ((s.onSu fun u => { u with rosterDue := false }).stepSilences).ledger := by
      simpa [State.onSu_ledger] using h
    have counted := Ledger.Keeps.of_eq begun.rollErrorWindow (State.stepDuplicate_ledger _)
    have heard := Ledger.Keeps.of_eq counted.stepQuiet (State.stepListen_ledger _)
    exact heard.offerRefreshes.of_eq (State.repeatViews_ledger _)
  · exact h

theorem execEnterMember_keeps (h : l.Keeps s.ledger) : l.Answers (execEnterMember s) := by
  simp only [execEnterMember, Ledger.answers_next]
  split
  · rw [State.offerHello_ledger]
    exact (h.changeLink .member .none 0 0).foldl (fun s n h => h.reportTrue 8 n) _
  · exact h

/-! ## Commands of the axes and of the register loops -/

/-- The axis commands of the urgent queue. -/
theorem axisCommands_keep (h : l.Keeps s.ledger) :
    l.Answers (execEnableAxis s) ∧ l.Answers (execDisableAxis s) ∧ l.Answers (execCoupleAxis s) ∧
      l.Answers (execDecoupleAxis s) ∧ l.Answers (execJogAxis s) ∧ l.Answers (execTrimAxis s) := by
  refine ⟨?_, ?_, ?_, ?_, ?_, ?_⟩
  case refine_4 =>
    rw [execDecoupleAxis, Ledger.answers_next]
    split
    · split
      · simpa using h
      · refine h.axisCommand (fun i c => ?_) _
        repeat' split
        all_goals simp [h]
    · exact h
  all_goals
    refine (Ledger.answers_next l _).mpr ?_
    split
    · refine h.axisCommand (fun i c => ?_) _
      repeat' split
      all_goals simp [h]
    · exact h

/-- The register commands of the normal queue. -/
theorem registerCommands_keep (h : l.Keeps s.ledger) :
    l.Answers (execLoadMarkTable s) ∧ l.Answers (execStartRegister s) ∧ l.Answers (execStopRegister s) ∧
      l.Answers (execRearmRegister s) := by
  refine ⟨?_, ?_, ?_, ?_⟩
  all_goals
    refine (Ledger.answers_next l _).mpr ?_
    split
    · refine h.cameraCommand (fun i => ?_) _
      repeat' split
      all_goals simp [h]
    · exact h

/-! ## Transfers that come back -/

theorem execMarkTableReadComplete_keeps (h : l.Keeps s.ledger) (t : Nat) (r : DmaReply) :
    l.Answers (execMarkTableReadComplete t r s) := by
  refine (Ledger.answers_next l _).mpr (Ledger.Keeps.withReply (by simpa using h) (fun _ b s h => ?_) _ _ r)
  split
  · exact h.cameraCommand (fun i => by simpa using h) _
  · exact h

theorem execPageMapReadComplete_keeps (h : l.Keeps s.ledger) (t : Nat) (r : DmaReply) :
    l.Answers (execPageMapReadComplete t r s) := by
  refine (Ledger.answers_next l _).mpr (Ledger.Keeps.withReply (by simpa using h) (fun _ b s h => ?_) _ _ r)
  split <;> simp [h]

theorem execPublishListReadComplete_keeps (h : l.Keeps s.ledger) (t : Nat) (r : DmaReply) :
    l.Answers (execPublishListReadComplete t r s) := by
  refine (Ledger.answers_next l _).mpr (Ledger.Keeps.withReply (by simpa using h) (fun _ b s h => ?_) _ _ r)
  split <;> simp [h]

/-! ## Every step -/

/-- Every step keeps the bounds. -/
theorem exec_keeps (h : l.Keeps s.ledger) (i : Instr) : l.Answers (exec i s) := by
  obtain ⟨invalidate, request, touch, viewReq, viewStop, refusal⟩ := tileControlCopies_keep h
  obtain ⟨fragment, line⟩ := pixelCopies_keep h
  obtain ⟨enable, disable, couple, decouple, jog, trim⟩ := axisCommands_keep h
  obtain ⟨load, start, stop, rearm⟩ := registerCommands_keep h
  have now (t : Nat) : l.Keeps (s.atTime t).ledger := h.of_eq (State.atTime_ledger t s)
  cases i
  case frameEndArrival t b e => exact execFrameEndArrival_keeps h t b e
  case helloCopy => exact execHelloCopy_keeps h
  case shaftCopy => exact execShaftCopy_keeps h
  case speedCopy => exact execSpeedCopy_keeps h
  case tripCopy => exact execTripCopy_keeps h
  case correctionCopy => exact execCorrectionCopy_keeps h
  case cameraLine t i n p => exact execCameraLine_keeps h t i n p
  case rosterBeatStart => exact execRosterBeatStart_keeps h
  case enterMember => exact execEnterMember_keeps h
  case markTableReadComplete t r => exact execMarkTableReadComplete_keeps h t r
  case pageMapReadComplete t r => exact execPageMapReadComplete_keeps h t r
  case publishListReadComplete t r => exact execPublishListReadComplete_keeps h t r
  case tileInvalidate => exact invalidate
  case tileRequestCopy => exact request
  case touchCopy => exact touch
  case viewRequest => exact viewReq
  case viewStop => exact viewStop
  case viewRefusal => exact refusal
  case tileDataFragment => exact fragment
  case viewLine => exact line
  case enableAxis => exact enable
  case disableAxis => exact disable
  case coupleAxis => exact couple
  case decoupleAxis => exact decouple
  case jogAxis => exact jog
  case trimAxis => exact trim
  case loadMarkTable => exact load
  case startRegister => exact start
  case stopRegister => exact stop
  case rearmRegister => exact rearm
  case mapEntryReadComplete t c r =>
    exact (Ledger.answers_next l _).mpr ((now t).withReply (fun x b s h => by simpa using h) _ _ r)
  case descriptorReadComplete t q r =>
    exact (Ledger.answers_next l _).mpr ((now t).withReply (fun x b s h => by simpa using h) _ _ r)
  case configReadComplete t r =>
    exact (Ledger.answers_next l _).mpr ((now t).withReply (fun x b s h => h.takeConfig b) _ _ r)
  case tileReadComplete t r =>
    exact (Ledger.answers_next l _).mpr ((now t).withReply (fun x b s h => by simpa using h) _ _ r)
  case stripWriteComplete t c ok =>
    refine (Ledger.answers_next l _).mpr ((now t).withWrite (fun x s h => ?_) _ _ ok)
    exact (h.of_eq (s.stripWritten_ledger c x)).finishConfigure
  case writebackComplete t q ok =>
    exact (Ledger.answers_next l _).mpr ((now t).withWrite (fun x s h => h.endCommand q) _ _ ok)
  case imageWriteComplete t ok =>
    exact (Ledger.answers_next l _).mpr ((now t).withWrite (fun x s h => by simpa using h) _ _ ok)
  case eventWriteComplete t ok =>
    exact (Ledger.answers_next l _).mpr ((now t).withWrite (fun x s h => by simpa using h) _ _ ok)
  case coldReset | warmInput | hostLinkLoss | eStopAsserted | eStopReleased | tripInputChange | panelStopKey =>
    simp only [exec, execColdReset, execWarmInput, execHostLinkLoss, execEStopAsserted, execEStopReleased,
      execTripInputChange, execPanelStopKey, Ledger.answers_next]
    repeat' split
    all_goals simp [h]
  case lightLost | symbolLockLost | symbolLockGained | frameHeaderArrival | transmitBoundary | bulkWaitAdmit |
      returnWatchExpiry =>
    simp only [exec, execLightLost, execSymbolLockLost, execSymbolLockGained, execFrameHeaderArrival,
      execTransmitBoundary, execBulkWaitAdmit, execReturnWatchExpiry, Ledger.answers_next]
    repeat' split
    all_goals simp [h]
  case testBlockReturn | lightCheckLockTimeout | lightCheckAttemptEnd | insertionTimeout | leaveTimeout |
      drainComplete | silenceRemoval | duplicateQuiet | join | leave =>
    simp only [exec, execTestBlockReturn, State.takeBlock, execLightCheckLockTimeout, execLightCheckAttemptEnd,
      execInsertionTimeout, execLeaveTimeout, execDrainComplete, execSilenceRemoval, execDuplicateQuiet, execJoin,
      execLeave, Ledger.answers_next]
    repeat' split
    all_goals simp [h]
  case tickStart | beatStart | enterInStep | shaftLostStep | enterAlone | latenessClear | foundHistory | setSpeed |
      releaseStop =>
    simp only [exec, execTickStart, execBeatStart, execEnterInStep, execShaftLostStep, execEnterAlone,
      execLatenessClear, execFoundHistory, execSetSpeed, execReleaseStop, Ledger.answers_next]
    repeat' split
    all_goals simp [State.changeStep_ledger, h]
  case driveAnswer | answerWindowClose | triggerDue | triggerTimeout | giveStripBuffer | invalidateMapCache =>
    simp only [exec, execDriveAnswer, execAnswerWindowClose, execTriggerDue, execTriggerTimeout, execGiveStripBuffer,
      execInvalidateMapCache, Ledger.answers_next]
    repeat' split
    all_goals simp [h]
  case tripLapse | raiseHostTrip | clearHostTrip | acknowledgeTrips =>
    simp only [exec, execTripLapse, execRaiseHostTrip, execClearHostTrip, execAcknowledgeTrips, Ledger.answers_next]
    repeat' split
    all_goals simp [h]
  case touch | groupDeadline | tileProgressTimeout | displayFrameStart | setPageMap | publishTiles | openView |
      closeView =>
    simp only [exec, execTouch, execGroupDeadline, execTileProgressTimeout, execDisplayFrameStart, execSetPageMap,
      execPublishTiles, execOpenView, execCloseView, Ledger.answers_next]
    repeat' split
    all_goals simp [h]
  case queueBaseWrite | queueSizeWrite | queueRunSet | queueRunClear | commandTailWrite | eventHeadWrite |
      windowWriteIgnored | descriptorFetch | configure | warmReset | readRoster | readTripTable | readLineState |
      readCounters | dmaTimeout =>
    simp only [exec, execQueueBaseWrite, execQueueSizeWrite, execQueueRunSet, execQueueRunClear, execCommandTailWrite,
      execEventHeadWrite, execWindowWriteIgnored, execDescriptorFetch, execConfigure, execWarmReset, execReadRoster,
      execReadTripTable, execReadLineState, execReadCounters, execDmaTimeout, Ledger.answers_next]
    repeat' split
    all_goals simp [h]

/-- A step executes the instruction at the front of the queue on the state with the queue's rest, whose ledger is the same. -/
theorem step_keeps {u : State} (e : step s = .next u) : s.ledger.Keeps u.ledger := by
  unfold step at e
  split at e
  · cases e
    exact .refl _
  · next i rest _ =>
    have rested : s.ledger.Keeps (State.ledger { s with pending := rest }) := .refl _
    exact exec_keeps rested i u e

/-- Settles O54: no step takes a bounded list, a bounded table or the stop level it calls for out of their bounds. -/
theorem tablesStayBounded : Obligations.TablesStayBounded := by
  intro s u list trips e
  have kept := step_keeps e
  obtain ⟨table, level⟩ := State.tripsBounded_iff.mp trips
  exact ⟨kept.list list, State.tripsBounded_iff.mpr ⟨kept.table table, kept.level level⟩⟩

/-- Settles O55: the tick approaches its target, entries and lines enter clamped or examined, a configuration reduces them. -/
theorem speedStaysSafe : Obligations.SpeedStaysSafe := fun _ _ safe e => (step_keeps e).speed safe

end Sys2Proof.Machine
end

/-! Every message is read from its bytes as it was written into them (R202, 10.1). -/

section
namespace Sys2Proof.Machine

/-! ## Reading where something was written -/

@[simp] theorem rd_cons_zero (b : Byte) (bs : List Byte) : rd (b :: bs) 0 1 = b.toNat := by simp [rd_one]

@[simp] theorem rd_cons_succ (b : Byte) (bs : List Byte) (i k : Nat) : rd (b :: bs) (i + 1) k = rd bs i k := by
  simp only [rd, Nat.add_right_comm i 1, List.getD_cons_succ]

/-- Bytes behind others are read from where they begin. -/
theorem rd_append (p q : List Byte) (i k : Nat) (h : p.length ≤ i) : rd (p ++ q) i k = rd q (i - p.length) k := by
  unfold rd
  refine List.foldr_ext _ _ _ fun j _ acc => ?_
  rw [List.getD_append_right _ _ _ _ (by omega), Nat.sub_add_comm h]

@[simp] theorem rd_le_append (k n : Nat) (bs : List Byte) : rd (le k n ++ bs) 0 k = n % 256 ^ k := rd_le [] bs k n

@[simp] theorem rd_le_end (k n : Nat) : rd (le k n) 0 k = n % 256 ^ k := by simpa using rd_le [] [] k n

@[simp] theorem rd_behind_le (k n : Nat) (bs : List Byte) (i j : Nat) (h : k ≤ i) :
    rd (le k n ++ bs) i j = rd bs (i - k) j := by
  simpa using rd_append (le k n) bs i j (by simpa using h)

@[simp] theorem rd_behind_fill (n : Nat) (bs : List Byte) (i j : Nat) (h : n ≤ i) :
    rd (fill n ++ bs) i j = rd bs (i - n) j := by
  simpa using rd_append (fill n) bs i j (by simpa using h)

@[simp] theorem drop_behind_le (k n : Nat) (bs : List Byte) (i : Nat) (h : k ≤ i) :
    (le k n ++ bs).drop i = bs.drop (i - k) := by
  rw [List.drop_append, List.drop_eq_nil_of_le (by simpa using h), length_le, List.nil_append]

@[simp] theorem drop_behind_fill (n : Nat) (bs : List Byte) (i : Nat) (h : n ≤ i) :
    (fill n ++ bs).drop i = bs.drop (i - n) := by
  rw [List.drop_append, List.drop_eq_nil_of_le (by simpa using h), length_fill, List.nil_append]

/-- Two flags are read from their bits. -/
theorem flagBits (a b : Bool) : ((flagBit 0 a + flagBit 1 b) % 2 == 1) = a ∧
    ((flagBit 0 a + flagBit 1 b) % 256 / 2 % 2 == 1) = b := by cases a <;> cases b <;> decide

/-! ## The codes -/

theorem linkOfCode_code (x : LinkState) : linkOfCode (x.code % 256) = some x := by cases x <;> rfl
theorem stepOfCode_code (x : StepState) : stepOfCode (x.code % 256) = some x := by cases x <;> rfl
theorem stopOfCode_code (x : StopMode) : stopOfCode (x.code % 256) = some x := by cases x <;> rfl
theorem categoryOfCode_code (x : Category) : categoryOfCode (x.code % 256) = some x := by cases x <;> rfl

/-! ## Header, entries and the short messages -/

theorem parseHeader_headerBytes (h : Header) (fits : h.Sendable) : parseHeader (headerBytes h) = h := by
  obtain ⟨kind, cls, origin, dest, sequence, hop, check, transit, delay, index, count, length⟩ := h
  simp only [Header.Sendable] at fits
  simp [parseHeader, headerBytes]
  omega

@[simp] theorem length_entryBytes (e : Entry) : (entryBytes e).length = 16 := by cases e <;> simp [entryBytes]

theorem parseEntry_entryBytes (e : Entry) (h : e.Sendable) : parseEntry (entryBytes e) = some e := by
  cases e with
  | set origin num target accel decel beat =>
    simp only [Entry.Sendable, two32] at h
    simp [parseEntry, entryBytes]
    omega
  | release origin num beat =>
    simp only [Entry.Sendable, two32] at h
    simp [parseEntry, entryBytes]
    omega
  | stop origin cause detail fast beat =>
    simp only [Entry.Sendable, two32] at h
    cases fast
    · simp [parseEntry, entryBytes]
      omega
    · simp [parseEntry, entryBytes]
      omega

theorem parseTrip_tripPayload (action : TripAction) (k : TripKey) (category : Category) (beat founder : Nat)
    (hc : k.cause ≤ 21) (hd : k.detail < 256) (listed : category ≠ .masked) (hb : beat < two32) (hf : founder < 256) :
    parseTrip (tripPayload action k category .ring beat founder) =
      some (action, k.cause, k.detail, category, beat, founder) := by
  have cause : k.cause % 256 = k.cause := Nat.mod_eq_of_lt (by omega)
  simp only [two32] at hb
  cases action
  all_goals
    simp [parseTrip, tripPayload, TripAction.code, cause, Scope.code, categoryOfCode_code, listed]
    omega

theorem parseSpeed_speedPayload (founder : Nat) (e : Entry) (hf : founder < 256) (he : e.Sendable) :
    parseSpeed (speedPayload founder e) = some (founder, e) := by
  simp [parseSpeed, speedPayload, fill, parseEntry_entryBytes e he]
  omega

theorem parseHello_helloPayload (m : HelloMsg) (hf : m.founder < 256) (hs : m.stamp < two32) :
    parseHello (helloPayload m) = some m := by
  obtain ⟨member, authority⟩ := flagBits m.shaftMember m.speedAuthority
  simp only [two32] at hs
  simp [parseHello, helloPayload, linkOfCode_code, stepOfCode_code, member, authority, Nat.mod_eq_of_lt hf,
    Nat.mod_eq_of_lt hs]

/-- A signed number of 32 bits is read from its bytes. -/
theorem signed_unsigned (e : Int) (low : -2147483648 ≤ e) (high : e < 2147483648) :
    signed 32 ((unsigned 32 e : Int) % 4294967296) = e := by
  simp only [signed, unsigned, Nat.reducePow, Nat.reduceSub, Nat.cast_ofNat]
  split_ifs <;> omega

theorem parseCorrection_correctionPayload (axis : Nat) (e : Int) (ha : axis < 256) (low : -2147483648 ≤ e)
    (high : e < 2147483648) : parseCorrection (correctionPayload axis e) = some (axis, e) := by
  simpa [parseCorrection, correctionPayload] using ⟨ha, signed_unsigned e low high⟩

/-! ## The Shaft frame -/

/-- The entries behind a Shaft payload's first 32 bytes are read one after another. -/
theorem parseEntries (head : List Byte) (entries : List Entry) (hl : head.length = 32) (few : entries.length ≤ 2)
    (he : ∀ e ∈ entries, e.Sendable) :
    ((List.range entries.length).mapM fun i =>
      parseEntry (((head ++ entries.flatMap entryBytes).drop (32 + 16 * i)).take 16)) = some entries := by
  have behind (q : List Byte) (i : Nat) : (head ++ q).drop (32 + i) = q.drop i := by
    rw [← hl, List.drop_append, List.drop_eq_nil_of_le (by omega), Nat.add_sub_cancel_left, List.nil_append]
  have front (e : Entry) (q : List Byte) : (entryBytes e ++ q).take 16 = entryBytes e :=
    List.take_left' (length_entryBytes e)
  have last (e : Entry) : (entryBytes e).take 16 = entryBytes e := List.take_of_length_le (length_entryBytes e).le
  have next (e : Entry) (q : List Byte) : (entryBytes e ++ q).drop 16 = q := List.drop_left' (length_entryBytes e)
  have read (e : Entry) (h : e ∈ entries) : parseEntry (entryBytes e) = some e := parseEntry_entryBytes e (he e h)
  simp only [behind]
  match entries, few with
  | [], _ => rfl
  | [a], _ => simp [List.range_succ_eq_map, last, read a]
  | [a, b], _ => simp [List.range_succ_eq_map, front, last, next, read a, read b]

/-- The last applied change is read from its place, where origin 0 stands for none. -/
theorem lastChange_read {x : Option (Nat × Nat)} (h : ∀ p, x = some p → 1 ≤ p.1 ∧ p.1 < 256 ∧ p.2 < 65536) :
    (if (x.map (·.1)).getD 0 % 256 = 0 then none
      else some ((x.map (·.1)).getD 0 % 256, (x.map (·.2)).getD 0 % 65536)) = x := by
  cases x with
  | none => rfl
  | some p =>
    obtain ⟨positive, origin, number⟩ := h p rfl
    simp [Nat.mod_eq_of_lt origin, Nat.mod_eq_of_lt number]
    omega

theorem parseShaft_shaftPayload (m : ShaftMsg) (fits : m.Sendable) : parseShaft (shaftPayload m) = some m := by
  simp only [ShaftMsg.Sendable, two32] at fits
  obtain ⟨beat, founder, angle, rev, speed, target, accel, decel, last, few, he⟩ := fits
  have count : m.entries.length % 256 = m.entries.length := Nat.mod_eq_of_lt (by omega)
  have length : (lineBytes m.beat m.line m.step m.founder m.entries.length).length = 32 := by simp [lineBytes]
  have counted : rd (shaftPayload m) 28 1 = m.entries.length := by simp [shaftPayload, lineBytes, count]
  have whole : (shaftPayload m).length = 32 + 16 * m.entries.length := by
    simp [shaftPayload, length, List.length_flatMap, Nat.mul_comm]
  have entries : ((List.range m.entries.length).mapM fun i =>
      parseEntry (((shaftPayload m).drop (32 + 16 * i)).take 16)) = some m.entries := parseEntries _ m.entries length few he
  unfold parseShaft
  dsimp only
  rw [counted, if_neg (by omega), entries]
  simp [shaftPayload, lineBytes, stopOfCode_code, stepOfCode_code, lastChange_read last, Nat.mod_eq_of_lt beat,
    Nat.mod_eq_of_lt founder, Nat.mod_eq_of_lt angle, Nat.mod_eq_of_lt rev, Nat.mod_eq_of_lt speed,
    Nat.mod_eq_of_lt target, Nat.mod_eq_of_lt accel, Nat.mod_eq_of_lt decel]

/-! ## Screen frames -/

/-- Records of one length are read one after another. -/
theorem rd_flatMap {α : Type} {f : α → List Byte} {n : Nat} (hf : ∀ a, (f a).length = n) (x : List α) (i : Nat)
    (hi : i < x.length) (off k : Nat) (hk : off + k ≤ n) : rd (x.flatMap f) (n * i + off) k = rd (f x[i]) off k := by
  induction x generalizing i with
  | nil => cases hi
  | cons a x ih =>
    rw [List.flatMap_cons]
    cases i with
    | zero =>
      unfold rd
      refine List.foldr_ext _ _ _ fun j hj acc => ?_
      have inside : j < k := List.mem_range.mp hj
      rw [Nat.mul_zero, Nat.zero_add, List.getD_append _ _ _ _ (by rw [hf]; omega), List.getElem_cons_zero]
    | succ i =>
      have place : n * (i + 1) + off - n = n * i + off := by rw [Nat.mul_succ]; omega
      rw [rd_append _ _ _ _ (by rw [hf, Nat.mul_succ]; omega), hf, place, ih i (by simpa using hi),
        List.getElem_cons_succ]

/-- The 8 bytes of a tile in an invalidate (10.1). -/
def tileRecord (t : Nat × Nat × Nat) : List Byte := [byte t.1, 0] ++ le 2 t.2.1 ++ le 2 t.2.2 ++ fill 2

theorem tileCtlPayload_invalidate (group count : Nat) (tiles : List (Nat × Nat × Nat)) :
    tileCtlPayload (.invalidate group count tiles) = [1, byte group, byte count, 0] ++ tiles.flatMap tileRecord := rfl

theorem length_tileRecord (t : Nat × Nat × Nat) : (tileRecord t).length = 8 := by simp [tileRecord]

/-- The tiles of an invalidate are read one after another. -/
theorem tiles_read (head : List Byte) (hl : head.length = 4) (tiles : List (Nat × Nat × Nat))
    (ht : ∀ t ∈ tiles, t.1 < 256 ∧ t.2.1 < 65536 ∧ t.2.2 < 65536) :
    ((List.range tiles.length).map fun i =>
      (rd (head ++ tiles.flatMap tileRecord) (4 + 8 * i) 1, rd (head ++ tiles.flatMap tileRecord) (6 + 8 * i) 2,
        rd (head ++ tiles.flatMap tileRecord) (8 + 8 * i) 2)) = tiles := by
  have behind (i off k : Nat) (hi : i < tiles.length) (hk : off + k ≤ 8) :
      rd (head ++ tiles.flatMap tileRecord) (4 + off + 8 * i) k = rd (tileRecord tiles[i]) off k := by
    rw [rd_append _ _ _ _ (by omega), ← rd_flatMap length_tileRecord tiles i hi off k hk]
    congr 1
    omega
  refine List.ext_getElem (by simp) fun i hi hj => ?_
  obtain ⟨page, index, version⟩ := ht _ (List.getElem_mem hj)
  rw [List.getElem_map, List.getElem_range, behind i 0 1 hj (by decide), behind i 2 2 hj (by decide),
    behind i 4 2 hj (by decide)]
  simp [tileRecord, Nat.mod_eq_of_lt page, Nat.mod_eq_of_lt index, Nat.mod_eq_of_lt version]

theorem parseTileCtl_invalidate (group : Nat) (tiles : List (Nat × Nat × Nat)) (hg : group < 256)
    (hn : tiles.length < 256) (ht : ∀ t ∈ tiles, t.1 < 256 ∧ t.2.1 < 65536 ∧ t.2.2 < 65536) :
    parseTileCtl (tileCtlPayload (.invalidate group tiles.length tiles)) = some (.invalidate group tiles.length tiles) := by
  have records := tiles_read [1, byte group, byte tiles.length, 0] rfl tiles ht
  have length : (tiles.flatMap tileRecord).length = 8 * tiles.length := by
    simp [List.length_flatMap, length_tileRecord, Nat.mul_comm]
  have whole : (tiles.flatMap tileRecord).length + 1 + 1 + 1 + 1 = 4 + 8 * tiles.length := by omega
  rw [tileCtlPayload_invalidate]
  generalize hp : [1, byte group, byte tiles.length, 0] ++ tiles.flatMap tileRecord = p at records
  have code : rd p 0 1 = 1 := by simp [← hp]
  have first : rd p 1 1 = group := by simp [← hp, Nat.mod_eq_of_lt hg]
  have count : rd p 2 1 = tiles.length := by simp [← hp, Nat.mod_eq_of_lt hn]
  have size : p.length = 4 + 8 * tiles.length := by simpa [← hp] using whole
  simp [parseTileCtl, code, first, count, size, records]

theorem parseTileCtl_tileCtlPayload (m : TileCtl) (fits : m.Sendable) : parseTileCtl (tileCtlPayload m) = some m := by
  cases m with
  | invalidate group count tiles =>
    obtain ⟨hg, rfl, hn, ht⟩ := fits
    exact parseTileCtl_invalidate group tiles hg hn ht
  | request held page index =>
    simp only [TileCtl.Sendable] at fits
    obtain ⟨hp, hi, hv⟩ := fits
    cases held with
    | none =>
      simp [parseTileCtl, tileCtlPayload]
      omega
    | some v =>
      have := hv v rfl
      simp [parseTileCtl, tileCtlPayload]
      omega
  | touch press page x index y =>
    simp only [TileCtl.Sendable] at fits
    cases press
    all_goals
      simp [parseTileCtl, tileCtlPayload]
      omega
  | viewRequest slot cam k width =>
    simp only [TileCtl.Sendable] at fits
    simp [parseTileCtl, tileCtlPayload]
    omega
  | viewStop slot cam =>
    simp only [TileCtl.Sendable] at fits
    simp [parseTileCtl, tileCtlPayload]
    omega
  | viewRefusal slot cam reason =>
    simp only [TileCtl.Sendable] at fits
    simp [parseTileCtl, tileCtlPayload]
    omega

theorem parseTileData_tileDataPayload (publisher page group index version count n : Nat) (pixels : List Byte)
    (hp : page < 256) (hg : group < 256) (hi : index < 65536) (hv : version < 65536) (hc : count < 256) (hn : n < 16)
    (length : pixels.length = 128) :
    parseTileData publisher n (tileDataPayload page group index version count pixels) =
      some
        { id := { publisher := publisher, page := page, index := index }, version := version, group := group
          count := count, index := n, pixels := pixels } := by
  have padded : padTo 128 pixels = pixels := by
    rw [padTo, List.take_of_length_le (by omega), length, Nat.sub_self]
    exact List.append_nil _
  simp [parseTileData, tileDataPayload, padded, length]
  omega

theorem parseViewLine_viewLinePayload (station slot cam n : Nat) (tag : LineTag) (pixels : List Byte) (hs : slot < 256)
    (hc : cam < 256) (hr : tag.rev < 65536) (ha : tag.angle < two32) (some : 1 ≤ pixels.length) (most : pixels.length ≤ 128) :
    parseViewLine station n (viewLinePayload slot cam tag pixels) =
      .some
        { station := station, slot := slot, cam := cam, tag := { tag with index := 0 }, column := 128 * n
          pixels := pixels } := by
  simp only [two32] at ha
  have count : pixels.length % 256 = pixels.length := Nat.mod_eq_of_lt (by omega)
  obtain ⟨skipped, part⟩ := flagBits tag.skippedBefore tag.isPartial
  have content : pixels ≠ [] := List.ne_nil_of_length_pos some
  simp [parseViewLine, viewLinePayload, count, skipped, part, content]
  omega

/-- Settles O60: each payload is written field by field, and a field is read where the fields before it end. -/
theorem wireCodec : Obligations.WireCodec :=
  ⟨parseHeader_headerBytes, parseEntry_entryBytes, parseTrip_tripPayload, parseShaft_shaftPayload,
    parseSpeed_speedPayload, parseHello_helloPayload, parseCorrection_correctionPayload, parseTileCtl_tileCtlPayload,
    parseTileData_tileDataPayload, parseViewLine_viewLinePayload⟩

end Sys2Proof.Machine
end

/-! The pending change list as offers find it, Speed copies, and the speed commands (R48 to R54). -/

section
namespace Sys2Proof.Machine

variable {s t : State} {u v : Su} {e o : Entry}

/-! ## An offer and its outcome (R49) -/

@[simp] theorem Entry.rival_clamped (m : Nat) (e : Entry) : (e.clamped m).rival = e.rival := by
  funext o
  cases e <;> cases o <;> rfl

@[simp] theorem Entry.clamped_release (m origin num beat : Nat) :
    (Entry.release origin num beat).clamped m = .release origin num beat := rfl

theorem Entry.prevails_clamped (m : Nat) (e o : Entry) : (e.clamped m).prevails o = e.prevails o := by
  simp only [Entry.prevails, Entry.ident_clamped]

/-- Of two rivals the higher origin, then the newer command number prevails. -/
theorem Entry.prevails_iff {a n b k : Nat} (he : e.ident = [a, n]) (ho : o.ident = [b, k]) :
    e.prevails o = true ↔ b < a ∨ (a = b ∧ newer 16 n k = true) := by
  simp [Entry.prevails, he, ho]

theorem Su.fit_of_room (h : u.list.length < 8) : u.fit e = { u with list := insertRank u.beat e u.list } := if_pos h

theorem Su.fit_of_full (h : 8 ≤ u.list.length) : u.fit e =
    { u with list := (insertRank u.beat e u.list).take 8, droppedEntries := bump u.droppedEntries } :=
  if_neg (by omega)

theorem Su.place_of_free (h : u.list.find? e.rival = none) : u.place e = u.fit e := by simp only [Su.place, h]

theorem Su.place_of_rival (h : u.list.find? e.rival = some o) : u.place e =
    if e.prevails o then { u with list := u.list.erase o, droppedEntries := bump u.droppedEntries }.fit e
    else { u with droppedEntries := bump u.droppedEntries } := by simp only [Su.place, h]

theorem Su.install_of_held (m : Nat) (late : Bool) (h : u.holds e = true) : u.install m late e = (u, false) := if_pos h

theorem Su.install_of_later (m : Nat) (h : u.holds e = false) (later : beatLater e.beat u.beat = true) :
    u.install m false e = (u.place (e.clamped m), false) := by simp [Su.install, h, later]

theorem Su.install_of_late (m : Nat) (h : u.holds e = false) (late : beatLater e.beat u.beat = false) :
    u.install m false e = (u.markLate.place ((e.clamped m).at u.nextBeat), true) := by simp [Su.install, h, late]

/-- An entry that meets nothing joins the list in its rank. -/
theorem Su.install_of_fits (m : Nat) (h : u.Fits e) (later : beatLater e.beat u.beat = true) :
    u.install m false e = ({ u with list := insertRank u.beat (e.clamped m) u.list }, false) := by
  obtain ⟨absent, free, room⟩ := h
  rw [Su.install_of_later m absent later, Su.place_of_free (by simpa using free), Su.fit_of_room room]

/-! ## An offer and lateness (R51) -/

theorem State.reportLate_of_not (s : State) : s.reportLate false = s := by simp [State.reportLate]

theorem State.reportLate_lateness (s : State) : (s.reportLate true).causeTrue 12 0 = true := by
  unfold State.reportLate
  split
  · simp [State.causeOn_true]
  · next h => simpa using h

theorem State.installEntry_eq (e : Entry) (s : State) : s.installEntry e =
    State.reportLate (s.su.install s.maxSpeed false e).2 { s with su := (s.su.install s.maxSpeed false e).1 } := rfl

/-- An entry already there, and one for a later beat, leads to nothing beside the Shaft Unit. -/
theorem State.installEntry_of_punctual (h : (s.su.install s.maxSpeed false e).2 = false) :
    s.installEntry e = { s with su := (s.su.install s.maxSpeed false e).1 } := by
  rw [State.installEntry_eq, h, State.reportLate_of_not]

theorem State.installEntry_of_install (h : s.su.install s.maxSpeed false e = (u, false)) :
    s.installEntry e = { s with su := u } := by
  rw [State.installEntry_of_punctual (by rw [h]), h]

theorem Su.install_punctual (m : Nat) (later : beatLater e.beat u.beat = true) : (u.install m false e).2 = false := by
  unfold Su.install
  split
  · rfl
  · simp [later]

/-! ## The Shaft Unit under a report: STOPs installed, and no more (R146) -/

theorem State.causeOn_su {P : Su → Prop} (install : ∀ m late e u, P u → P (u.install m late e).1) (c d : Nat)
    (h : P s.su) : P (s.causeOn c d).1.su := by
  have effects (r : Raise) (x : State) (k : P x.su) : P (x.raiseEffects r).1.su := by
    have torque : (if r.category = .torqueOff then x.torqueOffAll .torqueOff else x).su = x.su := by split <;> simp
    unfold State.raiseEffects
    generalize (if r.category = .torqueOff then x.torqueOffAll .torqueOff else x) = y at torque
    cases r.lineStop with
    | none => exact torque ▸ k
    | some fast => exact install _ _ _ _ (torque ▸ k)
  have raised (r : Raise) (x : State) (k : P x.su) : P (x.raise r).1.su := by
    unfold State.raise
    split
    · rw [State.markChange_su]
      exact effects r _ k
    · dsimp only
      split
      · exact effects r _ k
      · rw [State.markChange_su]
        exact effects r _ k
  unfold State.causeOn
  dsimp only
  split
  · exact h
  · split
    · rw [State.offer_su]
      exact raised _ _ h
    · exact raised _ _ h

theorem State.reportLate_su {P : Su → Prop} (install : ∀ m late e u, P u → P (u.install m late e).1) (b : Bool)
    (h : P s.su) : P (s.reportLate b).su := by
  unfold State.reportLate
  split
  · exact State.causeOn_su install 12 0 h
  · exact h

/-- An entry has become late in the beat, so no beat is calm (R51). -/
def Su.Late (u : Su) : Prop := u.calm = 0 ∧ u.lateThisBeat = true

theorem Su.Late.place (h : u.Late) (e : Entry) : (u.place e).Late := by rw [Su.place_eq]; exact h

theorem Su.Late.install (m : Nat) (late : Bool) (e : Entry) (u : Su) (h : u.Late) : (u.install m late e).1.Late := by
  unfold Su.install
  split
  · exact h
  · split
    · exact Su.Late.place ⟨rfl, rfl⟩ _
    · exact h.place _

/-- An entry whose beat is not later makes cause 12 true, and the beat late. -/
theorem State.installEntry_late (h : s.su.holds e = false) (late : beatLater e.beat s.su.beat = false) :
    (s.installEntry e).causeTrue 12 0 = true ∧ (s.installEntry e).su.Late := by
  rw [State.installEntry_eq, Su.install_of_late _ h late]
  exact ⟨State.reportLate_lateness _, State.reportLate_su Su.Late.install true (Su.Late.place ⟨rfl, rfl⟩ _)⟩

/-! ## Speed copies (R54) -/

/-- The station takes the entry of a Speed frame of this origin and founder (R54). -/
def State.takesSpeed (origin founder : Nat) (s : State) : Bool :=
  (s.slot origin).any (fun r => r.present && r.speedAuthority) &&
    (s.holdsHistory || (s.su.step == .adopting && s.su.founder != 0)) && founder == s.su.founder && s.mc.link.isMember

theorem State.takeSpeed_eq {c : Copy} {founder : Nat} (h : parseSpeed c.payload = some (founder, e)) :
    s.takeSpeed c = if s.takesSpeed (parseHeader c.header).origin founder then s.installEntry e
      else s.onSu fun u => { u with ignoredSpeed := bump u.ignoredSpeed } := by
  unfold State.takeSpeed
  rw [h]
  rfl

theorem exec_speedCopy {c : Copy} {rest : List Copy} (h : s.inSu = c :: rest) (k : c.isKind .speed = true) :
    exec .speedCopy s = .next (State.takeSpeed c { s with inSu := rest }) := by
  simp only [exec, execSpeedCopy, h, k, if_true]

theorem exec_speedCopy_idle (h : s.inSu = [] ∨ ∃ c rest, s.inSu = c :: rest ∧ c.isKind .speed = false) :
    exec .speedCopy s = .next s := by
  rcases h with h | ⟨c, rest, h, k⟩
  · simp only [exec, execSpeedCopy, h]
  · simp [exec, execSpeedCopy, h, k]

/-- Settles O23: a copy is taken by the outcome of its offer. -/
theorem speedCopies : Obligations.SpeedCopies := by
  refine ⟨fun s => exec_speedCopy_idle, fun s c rest front kind bad => ?_,
    fun s c rest founder e takes front kind parsed rule => ?_⟩
  · rw [exec_speedCopy front kind]
    simp only [State.takeSpeed, bad]
  have rule : takes = State.takesSpeed (parseHeader c.header).origin founder { s with inSu := rest } := rule
  have taken (yes : takes = true) : exec .speedCopy s = .next (State.installEntry e { s with inSu := rest }) := by
    rw [exec_speedCopy front kind, State.takeSpeed_eq parsed, ← rule, if_pos yes]
  have outcome {w : Su} (yes : takes = true) (h : s.su.install s.maxSpeed false e = (w, false)) :
      exec .speedCopy s = .next { s with inSu := rest, su := w } := by
    rw [taken yes, State.installEntry_of_install (s := { s with inSu := rest }) h]
  refine ⟨fun no => ?_, fun yes held => ?_, fun yes fits later => ?_, fun yes new later o a n b k rival he ho => ⟨fun loses => ?_,
    fun wins room => ?_⟩, fun yes new later free full => ?_, fun yes new late => ?_⟩
  · rw [exec_speedCopy front kind, State.takeSpeed_eq parsed, ← rule, no]
    rfl
  · exact outcome yes (Su.install_of_held _ _ held)
  · exact outcome yes (Su.install_of_fits _ fits later)
  · refine outcome yes ?_
    rw [Su.install_of_later _ new later, Su.place_of_rival (by simpa using rival), if_neg]
    rwa [Entry.prevails_clamped, Entry.prevails_iff he ho]
  · have shorter : (s.su.list.erase o).length < 8 := by
      have there := List.mem_of_find?_eq_some rival
      have positive := List.length_pos_of_mem there
      rw [List.length_erase_of_mem there]
      omega
    refine outcome yes ?_
    rw [Su.install_of_later _ new later, Su.place_of_rival (by simpa using rival), if_pos, Su.fit_of_room shorter]
    rwa [Entry.prevails_clamped, Entry.prevails_iff he ho]
  · refine outcome yes ?_
    rw [Su.install_of_later _ new later, Su.place_of_free (by simpa using free), Su.fit_of_full full]
  · obtain ⟨lateness, calm, beat⟩ := State.installEntry_late (s := { s with inSu := rest }) new late
    have told := State.installEntry_reported e { s with inSu := rest }
    exact ⟨_, taken yes, told.inSu_eq, lateness, calm, beat, by rw [told.shaft]⟩

end Sys2Proof.Machine
end

/-! SET SPEED and RELEASE STOP (R52, R53). -/

section
namespace Sys2Proof.Machine

variable {s t : State} {e : Entry} {q : CmdQueue} {r : Result}

/-! ## An own entry installed and sent -/

/-- An offer takes no notice of the Shaft Unit, and leaves it as it is. -/
theorem State.offer_withSu (u : Su) (f : LaneFrame) (s : State) :
    State.offer f { s with su := u } = { s with su := u, rp := (s.offer f).rp } := by
  rw [State.offer_eq, State.offer_rp_congr (s := s) (t := { s with su := u }) rfl rfl rfl]

/-- The command number has stepped (R52, R53). -/
def State.numbered (s : State) : State := s.onSu fun u => { u with cmdNo := (u.cmdNo + 1) % 65536 }

/-- The Speed frame of an own entry (R52). -/
def State.speedFrame (s : State) (e : Entry) : LaneFrame :=
  wholeFrame .speed 0 (speedPayload s.su.founder (e.clamped s.maxSpeed))

theorem State.command_eq (e : Entry) (s : State) : s.command e =
    (s.numbered.installEntry e).offer
      (wholeFrame .speed 0 (speedPayload s.su.founder (e.clamped (s.numbered.installEntry e).maxSpeed))) := rfl

/-- What an own command can touch beside the command number. -/
theorem State.command_reported (e : Entry) (s : State) : s.numbered.Reported (s.command e) :=
  (State.installEntry_reported e s.numbered).trans (.offer _ _)

/-- A command taken, carried out with an own entry and answered. -/
theorem State.command_answers {cmd : HostCmd} (h : s.taken q = some cmd) (e : Entry) (r : Result) :
    Answers q r 0 s ((s.command e).result q r) := by
  obtain ⟨f, flight, -, -⟩ := State.taken_inFlight h
  exact State.complete_answers_of_q r 0 flight ((s.command_reported e).q_eq q)

theorem State.command_number (e : Entry) (q : CmdQueue) (r : Result) (s : State) :
    ((s.command e).result q r).su.cmdNo = (s.su.cmdNo + 1) % 65536 ∧ ((s.command e).result q r).su.line = s.su.line := by
  rw [State.result_eq]
  constructor
  · show (s.command e).su.cmdNo = (s.su.cmdNo + 1) % 65536
    rw [(s.command_reported e).shaft]
    rfl
  · show (s.command e).su.line = s.su.line
    rw [(s.command_reported e).shaft]
    rfl

/-- An own entry that meets nothing joins the list and is sent. -/
theorem State.command_of_fits (fits : s.su.Fits e) (later : beatLater e.beat s.su.beat = true) :
    (s.command e).result q r = { s with
      su := { s.su with
        cmdNo := (s.su.cmdNo + 1) % 65536, list := insertRank s.su.beat (e.clamped s.maxSpeed) s.su.list }
      rp := (s.offer (wholeFrame .speed 0 (speedPayload s.su.founder (e.clamped s.maxSpeed)))).rp
      cmp := ((s.command e).result q r).cmp } := by
  have installed : s.numbered.installEntry e = { s with su := { s.su with
      cmdNo := (s.su.cmdNo + 1) % 65536, list := insertRank s.su.beat (e.clamped s.maxSpeed) s.su.list } } :=
    State.installEntry_of_install (s := s.numbered) (Su.install_of_fits s.maxSpeed (u := s.numbered.su) fits later)
  have sent : s.command e = { s with
      su := { s.su with
        cmdNo := (s.su.cmdNo + 1) % 65536, list := insertRank s.su.beat (e.clamped s.maxSpeed) s.su.list }
      rp := (s.offer (wholeFrame .speed 0 (speedPayload s.su.founder (e.clamped s.maxSpeed)))).rp } := by
    rw [State.command_eq, installed]
    exact State.offer_withSu _ _ s
  rw [State.result_eq, sent]

/-! ## The two commands -/

theorem exec_setSpeed {target accel decel : Nat} (h : s.taken .urgent = some (.setSpeed target accel decel)) :
    exec .setSpeed s = .next (
      if !s.speedAuthority || !s.holdsHistory then s.result .urgent .refusedState
      else if accel = 0 ∨ decel = 0 then s.result .urgent .refusedValue
      else (s.command (.set s.ownStation s.su.cmdNo target accel decel s.applyBeat)).result .urgent
        (if s.maxSpeed < target then .clamped else .done)) := by
  simp only [exec, execSetSpeed, h]

theorem exec_releaseStop (h : s.taken .urgent = some .releaseStop) :
    exec .releaseStop s = .next (
      if !s.speedAuthority || !s.holdsHistory || !s.su.hasStop then s.result .urgent .refusedState
      else if !s.gateOpen then s.result .urgent .refusedTrip
      else (s.command (.release s.ownStation s.su.cmdNo s.applyBeat)).result .urgent .done) := by
  simp only [exec, execReleaseStop, h]

theorem Su.hasStop_iff (u : Su) : u.hasStop = true ↔ u.line.stop ≠ .none ∨ u.list.any Entry.isStop = true := by
  simp [Su.hasStop]

theorem setSpeed_taken {target accel decel : Nat} (h : s.taken .urgent = some (.setSpeed target accel decel))
    (authority : s.speedAuthority = true) (history : s.holdsHistory = true) (up : accel ≠ 0) (down : decel ≠ 0) :
    exec .setSpeed s = .next ((s.command (.set s.ownStation s.su.cmdNo target accel decel s.applyBeat)).result .urgent
      (if s.maxSpeed < target then .clamped else .done)) := by
  rw [exec_setSpeed h, authority, history, if_neg (by decide), if_neg (by simp [up, down])]

theorem setSpeed_refused {target accel decel : Nat} (h : s.taken .urgent = some (.setSpeed target accel decel)) :
    (s.speedAuthority = false ∨ s.holdsHistory = false →
      exec .setSpeed s = .next { s with cmp := s.cmp.answered .urgent .refusedState 0 s.now }) ∧
    (s.speedAuthority = true → s.holdsHistory = true → accel = 0 ∨ decel = 0 →
      exec .setSpeed s = .next { s with cmp := s.cmp.answered .urgent .refusedValue 0 s.now }) := by
  rw [exec_setSpeed h, ← State.result_eq, ← State.result_eq]
  constructor
  · intro no
    rw [if_pos (by simpa using no)]
  · intro authority history zero
    rw [authority, history, if_neg (by decide), if_pos zero]

theorem releaseStop_taken (h : s.taken .urgent = some .releaseStop) (authority : s.speedAuthority = true)
    (history : s.holdsHistory = true) (stop : s.su.hasStop = true) (gate : s.gateOpen = true) :
    exec .releaseStop s =
      .next ((s.command (.release s.ownStation s.su.cmdNo s.applyBeat)).result .urgent .done) := by
  rw [exec_releaseStop h, authority, history, stop, gate, if_neg (by decide), if_neg (by decide)]

theorem releaseStop_refused (h : s.taken .urgent = some .releaseStop) :
    (s.speedAuthority = false ∨ s.holdsHistory = false ∨ s.su.hasStop = false →
      exec .releaseStop s = .next { s with cmp := s.cmp.answered .urgent .refusedState 0 s.now }) ∧
    (s.speedAuthority = true → s.holdsHistory = true → s.su.hasStop = true → s.gateOpen = false →
      exec .releaseStop s = .next { s with cmp := s.cmp.answered .urgent .refusedTrip 0 s.now }) := by
  rw [exec_releaseStop h, ← State.result_eq, ← State.result_eq]
  constructor
  · intro no
    rw [if_pos (by simpa [or_assoc] using no)]
  · intro authority history stop gate
    rw [authority, history, stop, gate, if_neg (by decide), if_pos (by decide)]

/-- Settles O24: each command is refused by its first failing check, else its entry is installed, sent and answered. -/
theorem speedCommands : Obligations.SpeedCommands := by
  refine ⟨fun s target accel decel h authority history up down => ?_, fun s target accel decel => setSpeed_refused,
    fun s h authority history stop gate => ?_, fun s h => ?_⟩
  · obtain ⟨number, line⟩ := s.command_number (.set s.ownStation s.su.cmdNo target accel decel s.applyBeat) .urgent
      (if s.maxSpeed < target then .clamped else .done)
    exact ⟨_, _, setSpeed_taken h authority history up down, rfl, State.command_answers h _ _, number, line,
      State.command_of_fits⟩
  · obtain ⟨number, line⟩ := s.command_number (.release s.ownStation s.su.cmdNo s.applyBeat) .urgent .done
    exact ⟨_, _, releaseStop_taken h authority history (s.su.hasStop_iff.mpr stop) gate, rfl,
      State.command_answers h _ _, number, line, State.command_of_fits⟩
  · obtain ⟨noStop, closed⟩ := releaseStop_refused h
    refine ⟨fun no => noStop ?_, fun authority history stop => closed authority history (s.su.hasStop_iff.mpr stop)⟩
    simpa [Su.hasStop] using no

end Sys2Proof.Machine
end

/-! A beat start (R44, R45, R50, R56, R61, R66 to R68, R71). -/

section
namespace Sys2Proof.Machine

variable {s t : State} {u v : Su}

/-! ## The Shaft Unit at a beat start -/

/-- The Shaft Unit after a beat start: the tick in progress has ended, and the beat is taken. -/
def Su.begun (agreeing follows : Bool) (u : Su) : Su :=
  { u with line := u.lineNow, inTick := false }.startBeat agreeing follows

theorem Su.begun_beat (a f : Bool) (u : Su) : (u.begun a f).beat = if u.beatZeroDue then 0 else u.nextBeat := rfl

theorem Su.begun_entries (a f : Bool) (u : Su) :
    (u.begun a f).line = (applyOrder (u.list.filter fun e => e.beat == (u.begun a f).beat)).foldl Line.apply u.lineNow ∧
      (u.begun a f).list = (u.list.filter fun e => e.beat != (u.begun a f).beat) := ⟨rfl, rfl⟩

theorem Su.begun_snapshots (a f : Bool) (u : Su) :
    (u.begun a f).snapCur = (u.begun a f).line ∧ (u.begun a f).snapPrev = u.snapCur ∧
      (u.begun a f).snapCurFounder = u.founder ∧ (u.begun a f).snapPrevFounder = u.snapCurFounder := ⟨rfl, rfl, rfl, rfl⟩

theorem Su.begun_starts (a f : Bool) (u : Su) :
    (u.begun a f).beatPrev = (if u.beatZeroDue then u.beatPrev else u.beatCur) ∧
      (u.begun a f).beatCur = (if u.beatZeroDue then u.tickEnd else u.beatNext) := ⟨rfl, rfl⟩

theorem Su.begun_timer (a f : Bool) (u : Su) :
    (u.begun a f).beatNext = (u.begun a f).beatCur + (u.begun a f).tickLens.sum ∧ (u.begun a f).tickIdx = 0 ∧
      (u.begun a f).inTick = false ∧ (u.begun a f).reports = [] ∧
      (u.begun a f).rosterDue = ((u.begun a f).beat % 8 == 0) ∧ (u.begun a f).step = u.step ∧
      (u.begun a f).founder = u.founder := ⟨rfl, rfl, rfl, rfl, rfl, rfl, rfl⟩

/-! ### The counts (R66 to R68) -/

theorem Su.begun_settled (a : Bool) (u : Su) : (u.begun a true).settled =
    if settledBeat u.reports = true then min (u.settled + 1) 16 else 0 := rfl

theorem Su.begun_minority (f : Bool) (u : Su) : (u.begun true f).minority =
    if minorityBeat u.reports = true then min (u.minority + 1) 4 else 0 := rfl

/-- The step states in which the alone count steps (R68). -/
def Su.countsAlone (u : Su) : Bool := u.step == .following || u.step == .inStep

theorem Su.countsAlone_iff (u : Su) : u.countsAlone = true ↔ u.step = .following ∨ u.step = .inStep := by
  simp [Su.countsAlone]

theorem Su.begun_alone (a f : Bool) (h : u.countsAlone = true) : (u.begun a f).alone =
    if validOffsets u.reports = [] then min (u.alone + 1) 16 else 0 := by
  show (if u.countsAlone = true then stepOrClear 16 (validOffsets u.reports).isEmpty u.alone else u.alone) = _
  rw [if_pos h]
  simp [stepOrClear]

theorem Su.begun_aloneDue (a f : Bool) (u : Su) :
    (u.begun a f).aloneDue = (u.countsAlone && (u.begun a f).alone == 16) := rfl

theorem Su.begun_aloneDue_iff (a f : Bool) (u : Su) : (u.begun a f).aloneDue = true ↔
    (u.step = .following ∨ u.step = .inStep) ∧ validOffsets u.reports = [] ∧ 15 ≤ u.alone := by
  rw [Su.begun_aloneDue, Bool.and_eq_true, ← Su.countsAlone_iff]
  refine and_congr_right fun counts => ?_
  rw [Su.begun_alone a f counts]
  split
  · next none => simp [none]
  · next some => simp [some]

/-- At the fourth minority beat in a row the station leaves timing agreement (R67). -/
theorem Su.begun_agrees (f : Bool) (u : Su) :
    (u.begun true f).minority < 4 ↔ ¬(minorityBeat u.reports = true ∧ 3 ≤ u.minority) := by
  rw [Su.begun_minority]
  split
  · next minor => simp only [minor, true_and]; omega
  · next other => simp [other]

theorem Su.begun_tickLens (a f : Bool) (u : Su) : (u.begun a f).tickLens =
    if a = true ∧ ¬(minorityBeat u.reports = true ∧ 3 ≤ u.minority) then slewTicks (midpoint (validOffsets u.reports))
    else List.replicate 8 125000 := by
  cases a with
  | false => rfl
  | true =>
    show (if (true && decide ((u.begun true f).minority < 4)) = true then _ else _) = _
    simp only [Bool.true_and, decide_eq_true_eq, Su.begun_agrees, true_and]
    rfl

/-- The step state the Shaft frame of a beat start carries. -/
theorem Su.begun_stepDue (a f : Bool) (h : u.step.sends = true) : (u.begun a f).stepDue =
    if u.step = .following ∧ (u.begun a f).settled = 16 then .inStep
    else if (u.begun a f).aloneDue = true then .alone else u.step := by
  have step : (u.begun a f).step = u.step := rfl
  rw [Su.begun_aloneDue, Su.countsAlone, Su.stepDue, step]
  cases k : u.step with
  | following => simp
  | inStep => simp
  | alone => simp
  | shaftIdle => rw [k] at h; cases h
  | adopting => rw [k] at h; cases h

/-! ## The state at a beat start -/

/-- The station follows settled counts: FOLLOWING, or adopted without shaft membership (R66, R69). -/
def State.follows (s : State) : Bool := s.su.step == .following || (!s.shaftMember && s.su.adopted)

theorem State.endTick_cfg (s : State) : s.endTick.cfg = s.cfg := by rw [State.endTick_eq]

theorem State.startBeat_eq (s : State) : s.startBeat =
    (s.endTick.onSu fun _ => s.su.begun s.agreeing s.follows).offerShaft := by
  have su : s.endTick.su = { s.su with line := s.su.lineNow, inTick := false } := by rw [State.endTick_eq]
  have agreeing : s.endTick.agreeing = s.agreeing := by
    simp only [State.agreeing, State.shaftMember, s.endTick_cfg, su]
  have follows : (s.endTick.su.step == .following || (!s.endTick.shaftMember && s.endTick.su.adopted)) = s.follows := by
    simp only [State.follows, State.shaftMember, s.endTick_cfg, su]
  unfold State.startBeat
  dsimp only
  rw [agreeing, follows, State.onSu, su]
  rfl

theorem State.offerShaft_eq (s : State) : s.offerShaft = { s with rp := s.offerShaft.rp } := by
  unfold State.offerShaft
  split
  · exact State.offer_eq _ s
  · rfl

theorem State.offerShaft_rp (s : State) : s.offerShaft.rp =
    if s.su.step.sends = true ∧ s.su.minority < 4 then (s.offer (s.shaftFrame s.su.stepDue)).rp else s.rp := by
  unfold State.offerShaft
  simp only [Bool.and_eq_true, decide_eq_true_eq]
  split <;> rfl

theorem State.startBeat_parts (s : State) : s.startBeat.su = s.su.begun s.agreeing s.follows ∧ s.startBeat.cfg = s.cfg ∧
    s.startBeat.pins = s.pins ∧ s.startBeat.tu = s.tu ∧ s.startBeat.scu = s.scu := by
  rw [State.startBeat_eq, State.offerShaft_eq, State.endTick_eq]
  exact ⟨rfl, rfl, rfl, rfl, rfl⟩

/-- The Shaft frame of a beat start (R56). -/
def State.beatFrame (s : State) (step : StepState) : LaneFrame :=
  { kind := .shaft, dest := 0, fragIndex := 0, fragCount := 1, beatStart := s.startBeat.su.beatCur
    payload := shaftPayload ⟨s.startBeat.su.beat, s.startBeat.su.line, step, s.su.founder, s.startBeat.su.list.take 2⟩ }

theorem State.startBeat_rp (s : State) : s.startBeat.rp =
    if s.su.step.sends = true ∧ ¬(minorityBeat s.su.reports = true ∧ 3 ≤ s.su.minority) then
      (s.offer (s.beatFrame (s.su.begun s.agreeing s.follows).stepDue)).rp
    else s.rp := by
  obtain ⟨su, -, -, -, -⟩ := s.startBeat_parts
  have begun : (s.endTick.onSu fun _ => s.su.begun s.agreeing s.follows).rp = s.rp ∧
      (s.endTick.onSu fun _ => s.su.begun s.agreeing s.follows).mc.link = s.mc.link ∧
      (s.endTick.onSu fun _ => s.su.begun s.agreeing s.follows).cfg = s.cfg := by
    rw [State.endTick_eq]
    exact ⟨rfl, rfl, rfl⟩
  obtain ⟨rp, link, cfg⟩ := begun
  have frame (g : StepState) : State.shaftFrame g (s.endTick.onSu fun _ => s.su.begun s.agreeing s.follows) = s.beatFrame g := by
    unfold State.beatFrame
    rw [su]
    rfl
  have condition : (s.su.step.sends = true ∧ (s.su.begun s.agreeing s.follows).minority < 4) ↔
      s.su.step.sends = true ∧ ¬(minorityBeat s.su.reports = true ∧ 3 ≤ s.su.minority) :=
    and_congr_right fun k => by rw [show s.agreeing = true by simp [State.agreeing, k], Su.begun_agrees]
  rw [State.startBeat_eq, State.offerShaft_rp, State.onSu_su, frame, State.offer_rp_congr rp link cfg, rp]
  exact if_congr condition rfl rfl

/-! ## The step -/

theorem exec_beatStart_idle (h : s.su.beatDue = false) : exec .beatStart s = .next s := by
  simp only [exec, execBeatStart, h, Bool.false_eq_true, if_false]

theorem exec_beatStart (h : s.su.beatDue = true) :
    exec .beatStart s = .next (s.atTime s.su.beatTime.toNat).startBeat := by
  simp only [exec, execBeatStart, h, if_true]

/-- Settles O20: the Shaft Unit takes the beat as `Su.begun` says, and of the rest only the offer of the Shaft frame is told. -/
theorem beatStarts : Obligations.BeatStarts := by
  refine ⟨fun s => exec_beatStart_idle, fun s l b due hl hb => ⟨_, exec_beatStart due, ?_⟩⟩
  obtain ⟨su, cfg, pins, tu, scu⟩ := (s.atTime s.su.beatTime.toNat).startBeat_parts
  have rp := (s.atTime s.su.beatTime.toNat).startBeat_rp
  simp only [State.beatFrame, su] at rp
  generalize (s.atTime s.su.beatTime.toNat).startBeat = u at su cfg pins tu scu rp ⊢
  have su : u.su = s.su.begun s.agreeing s.follows := su
  have line : s.su.lineNow = l := hl.symm
  have beat : (s.su.begun s.agreeing s.follows).beat = b := hb.symm
  obtain ⟨applied, list⟩ := s.su.begun_entries s.agreeing s.follows
  obtain ⟨snapCur, snapPrev, founderCur, founderPrev⟩ := s.su.begun_snapshots s.agreeing s.follows
  obtain ⟨beatPrev, beatCur⟩ := s.su.begun_starts s.agreeing s.follows
  obtain ⟨beatNext, tickIdx, inTick, reports, roster, step, founder⟩ := s.su.begun_timer s.agreeing s.follows
  rw [beat] at applied list roster
  rw [line] at applied
  rw [su]
  refine ⟨beat, applied, list, snapCur, snapPrev, founderCur, founderPrev, beatPrev, beatCur, s.su.begun_tickLens _ _,
    beatNext, tickIdx, inTick, reports, roster, step, founder, fun following => ?_, fun agreeing => ?_, fun counts => ?_,
    s.su.begun_aloneDue_iff _ _, fun stays => ?_, fun g sends agrees hg => ?_, cfg, pins, tu, scu⟩
  · rw [show s.follows = true by simp [State.follows, following], Su.begun_settled]
  · rw [agreeing, Su.begun_minority]
  · exact Su.begun_alone _ _ (s.su.countsAlone_iff.mpr counts)
  · refine rp.trans (if_neg ?_)
    rintro ⟨sends, agrees⟩
    rcases stays with no | fourth
    · exact absurd (sends.symm.trans no) (by decide)
    · exact agrees fourth
  · have offered := rp.trans (if_pos ⟨sends, agrees⟩)
    rw [hg, ← beat, ← Su.begun_stepDue _ _ sends]
    exact offered.trans (State.offer_rp_congr (s := s) (t := s.atTime s.su.beatTime.toNat) rfl rfl rfl _)

end Sys2Proof.Machine
end

/-! The changes of step state by count, and a line history replaced: founded or adopted (R51, R55, R60, R65 to R69, R84). -/

section
namespace Sys2Proof.Machine

variable {s t : State} {u : Su} {e : Entry}

/-! ## A change of step state (R62) -/

/-- A change of step state is that of the Shaft Unit, with its event. -/
theorem State.changeStep_eq (f : Su → Su) (s : State) :
    s.changeStep f = { s with su := f s.su, cmp := (s.changeStep f).cmp } := State.post_eq _ _

theorem State.changeStep_posts (f : Su → Su) (s : State) :
    Posts (.stepChanged (f s.su).step s.su.step (f s.su).founder (f s.su).adopted) s (s.changeStep f) :=
  (State.post_posts _ (s.onSu f)).congr rfl rfl

theorem State.forgetViews_told (s : State) : s.forgetViews.su = s.su ∧
    s.forgetViews.mc = { s.mc with roster := s.mc.roster.map RosterSlot.unseen } ∧
    ∀ d, s.forgetViews.causeTrue 11 d = false := by
  refine ⟨State.reportAllFalse_su _ _ _, (State.forgetViews_reported s).mc_eq, fun d => ?_⟩
  rw [State.forgetViews, State.reportAllFalse_causeTrue]
  simp

/-- A sending station that loses step goes back to ADOPTING with its line and founder. -/
theorem State.loseStep_sends (h : s.su.step.sends = true) : s.loseStep.su.step = .adopting ∧ s.loseStep.su.line = s.su.line ∧
    s.loseStep.su.founder = s.su.founder ∧ s.loseStep.causeTrue 10 0 = true ∧ (∀ d, s.loseStep.causeTrue 11 d = false) ∧
    s.loseStep.mc = { s.mc with roster := s.mc.roster.map RosterSlot.unseen } := by
  have run : s.loseStep = ((s.changeStep fun u => { u with step := .adopting }).forgetViews).reportTrue 10 0 := if_pos h
  obtain ⟨-, changedMc, changedSu, -, -⟩ := State.changeStep_keeps (fun u => { u with step := .adopting }) s
  generalize s.changeStep (fun u => { u with step := .adopting }) = x at run changedMc changedSu
  obtain ⟨su, mc, causes⟩ := x.forgetViews_told
  have told := State.reportTrue_reported 10 0 x.forgetViews
  rw [run, told.shaft, told.mc_eq, su, mc, changedMc, changedSu]
  refine ⟨rfl, rfl, rfl, State.reportTrue_true _ _ _, fun d => ?_, rfl⟩
  rw [State.reportTrue_other _ _ _ _ _ (by simp) (by simp), causes]

/-- An adopted station that sends no Shaft frames loses its history and nothing of its step state. -/
theorem State.loseStep_listens (h : s.su.step.sends = false) :
    s.loseStep.su.adopted = false ∧ s.loseStep.su.step = s.su.step ∧ s.loseStep.causeTrue 10 0 = true := by
  have run : s.loseStep = (s.changeStep fun u => { u with adopted := false }).reportTrue 10 0 :=
    if_neg (by simp [h])
  rw [run, (State.reportTrue_reported 10 0 _).shaft, State.changeStep_eq]
  exact ⟨rfl, rfl, State.reportTrue_true _ _ _⟩

/-! ## The line replaced under the axes (R84) -/

/-- An axis that leaves COUPLING or COUPLED because the line history is replaced (R84). -/
def Axis.leaveLine (speed : Nat) (c : Option AxisCfg) (a : Axis) : Axis :=
  match c with
  | some c => if a.state.onLine then a.decouple c speed else a
  | none => a

theorem State.historyDecouple_eq (v : Nat) (i : Fin 4) (s : State) : s.historyDecouple v i =
    { s with au := (s.historyDecouple v i).au, cmp := (s.historyDecouple v i).cmp } := by
  unfold State.historyDecouple
  split
  · split
    · unfold State.changeAxis State.axisEvent
      rw [State.post_eq]
      rfl
    · rfl
  · rfl

theorem State.historyDecouple_axis (v : Nat) (i : Fin 4) (s : State) :
    (s.historyDecouple v i).axis i = (s.axis i).leaveLine v (s.axisCfg i) := by
  unfold State.historyDecouple Axis.leaveLine
  cases s.axisCfg i with
  | none => rfl
  | some c =>
    dsimp only
    split
    · simp [State.changeAxis, State.axisEvent, State.axis, State.onAxis]
    · rfl

theorem State.historyDecouple_axis_ne (v : Nat) {i j : Fin 4} (h : j ≠ i) (s : State) :
    (s.historyDecouple v i).axis j = s.axis j := by
  unfold State.historyDecouple
  split
  · split
    · unfold State.changeAxis State.axisEvent
      rw [State.axis, State.post_au]
      exact State.onAxis_axis_ne h _ _
    · rfl
  · rfl

theorem State.historyDecouples_eq (v : Nat) (s : State) : s.eachAxis (State.historyDecouple v) =
    { s with
      au := (s.eachAxis (State.historyDecouple v)).au, cmp := (s.eachAxis (State.historyDecouple v)).cmp } := by
  unfold State.eachAxis
  rw [State.historyDecouple_eq v 3, State.historyDecouple_eq v 2, State.historyDecouple_eq v 1,
    State.historyDecouple_eq v 0]

/-- A line replaced is told to the axes, the cameras and the register loops. -/
theorem State.lineReplaced_eq (v : Nat) (s : State) : s.lineReplaced v = { s with
    au := (s.lineReplaced v).au, cu := (s.lineReplaced v).cu, mu := (s.lineReplaced v).mu
    cmp := (s.lineReplaced v).cmp } := by
  unfold State.lineReplaced
  dsimp only
  rw [State.historyDecouples_eq]
  rfl

theorem State.lineReplaced_axis (v : Nat) (i : Fin 4) (s : State) :
    (s.lineReplaced v).axis i = (s.axis i).leaveLine v (s.axisCfg i) := by
  have cfg (i : Fin 4) (x : State) (h : x.cfg = s.cfg) : (x.historyDecouple v i).cfg = s.cfg := by
    rw [State.historyDecouple_eq]
    exact h
  refine State.eachAxis_get (g := State.axis) (v := fun i a => a.leaveLine v (s.axisCfg i)) (P := fun x => x.cfg = s.cfg)
    (fun i x h => ?_) (fun i j x _ ne => State.historyDecouple_axis_ne v ne x) cfg rfl i
  rw [State.historyDecouple_axis, State.axisCfg, h]
  rfl

theorem Axis.leaveLine_of_onLine (v : Nat) (c : AxisCfg) {a : Axis} (h : a.state.onLine = true) :
    a.leaveLine v (some c) = a.decouple c v := if_pos h

theorem Axis.leaveLine_of_not (v : Nat) (c : Option AxisCfg) {a : Axis} (h : a.state.onLine = false) :
    a.leaveLine v c = a := by
  unfold Axis.leaveLine
  split
  · exact if_neg (by simp [h])
  · rfl

/-! ## The stops submitted anew (R55) -/

@[simp] theorem Entry.isStop_at (b : Nat) (e : Entry) : (e.at b).isStop = e.isStop := by cases e <;> rfl
@[simp] theorem Entry.beat_at (b : Nat) (e : Entry) : (e.at b).beat = b := by cases e <;> rfl

theorem Su.installStops_eq (stops : List Entry) (u : Su) : stops.foldl Su.installStop u = { u with
    list := (stops.foldl Su.installStop u).list, droppedEntries := (stops.foldl Su.installStop u).droppedEntries } := by
  induction stops generalizing u with
  | nil => rfl
  | cons e stops ih => rw [List.foldl_cons, ih, Su.installStop_eq]

/-- A list that stops join holds the stops, at the next beat, and what it held. -/
theorem Su.installStops_mem {stops : List Entry} (h : ∀ e ∈ stops, e.isStop = true) (u : Su) :
    ∀ x ∈ (stops.foldl Su.installStop u).list, (x.isStop = true ∧ x.beat = u.nextBeat) ∨ x ∈ u.list := by
  induction stops generalizing u with
  | nil => exact fun x hx => .inr hx
  | cons e stops ih =>
    intro x hx
    have next : (u.installStop e).nextBeat = u.nextBeat := by rw [Su.installStop_eq]; rfl
    rcases ih (fun y hy => h y (List.mem_cons_of_mem e hy)) (u.installStop e) x hx with ⟨stop, beat⟩ | there
    · exact .inl ⟨stop, beat.trans next⟩
    · unfold Su.installStop at there
      split at there
      · exact .inr there
      · rcases Su.place_mem _ _ _ there with rfl | old
        · exact .inl ⟨by simpa using h e List.mem_cons_self, Entry.beat_at _ e⟩
        · exact .inr old

/-! ## The founding (R65) -/

/-- The state in which a history is founded, before its Shaft frame is offered. -/
def State.foundedHistory (s : State) : State :=
  ((s.onSu (Su.found s.ownStation)).lineReplaced s.su.line.speed).resubmitStops.changeStep fun u => { u with step := .alone }

theorem State.found_eq (s : State) : s.found = s.foundedHistory.offer (s.foundedHistory.shaftFrame .alone) := rfl

theorem State.foundedHistory_eq (s : State) : s.foundedHistory = { s with
    su := { s.standingStops.foldl Su.installStop (s.su.found s.ownStation) with step := .alone }
    au := s.foundedHistory.au, cu := s.foundedHistory.cu, mu := s.foundedHistory.mu, cmp := s.foundedHistory.cmp } := by
  unfold State.foundedHistory
  rw [State.changeStep_eq, State.resubmitStops, State.lineReplaced_eq]
  rfl

theorem State.foundedHistory_axis (i : Fin 4) (s : State) :
    s.foundedHistory.axis i = (s.axis i).leaveLine s.su.line.speed (s.axisCfg i) := by
  have axes : s.foundedHistory.au = ((s.onSu (Su.found s.ownStation)).lineReplaced s.su.line.speed).au := by
    unfold State.foundedHistory
    rw [State.changeStep_eq]
    rfl
  rw [State.axis, axes]
  exact State.lineReplaced_axis _ i _

/-- A Shaft frame offered to an urgent lane with room is in it. -/
theorem Rp.offerUrgent_shaft {f : LaneFrame} {r : Rp} (kind : f.kind = .shaft) (room : r.urgent.length < 8) :
    ∃ g ∈ (r.offerUrgent f).1.urgent, g.kind = .shaft := by
  have placed {p : LaneFrame → Bool} {l : List LaneFrame} (h : l.any p = true) : f ∈ replaceFirst p f l := by
    induction l with
    | nil => cases h
    | cons x l ih =>
      unfold replaceFirst
      split
      · exact List.mem_cons_self
      · next no => exact List.mem_cons_of_mem x (ih (by simpa [no] using h))
  refine ⟨f, ?_, kind⟩
  unfold Rp.offerUrgent
  rw [if_pos room]
  split
  · next there => exact placed (Bool.and_eq_true_iff.mp there).2
  · exact List.mem_append_right _ List.mem_cons_self

theorem State.offer_shaft_urgent {f : LaneFrame} (kind : f.kind = .shaft) (ring : s.mc.link.inRing = true)
    (lane : s.laneOf 1 = .urgent) (room : s.rp.urgent.length < 8) : ∃ g ∈ (s.offer f).rp.urgent, g.kind = .shaft := by
  have cls : f.cls = 1 := by rw [LaneFrame.cls, kind]; rfl
  unfold State.offer State.offerR
  rw [if_pos ring, cls, lane]
  exact Rp.offerUrgent_shaft kind room

/-! ## The steps -/

theorem State.founds_iff (s : State) : s.founds = true → s.mc.link.isMember = true := by
  simp only [State.founds, Bool.and_eq_true]
  rintro ⟨⟨⟨⟨⟨⟨⟨-, member⟩, -⟩, -⟩, -⟩, -⟩, -⟩, -⟩
  exact member

theorem LinkState.inRing_of_isMember {k : LinkState} (h : k.isMember = true) : k.inRing = true := by
  revert h
  cases k <;> decide

theorem exec_enterInStep : exec .enterInStep s = .next (if s.settles then
    (if s.su.step = .following then s.changeStep fun u => { u with step := .inStep } else s).reportFalse 10 0 else s) := rfl

theorem exec_enterInStep_idle (h : s.settles = false) : exec .enterInStep s = .next s := by
  rw [exec_enterInStep, h]
  rfl

theorem enterInStep_following (settled : s.su.settled = 16) (step : s.su.step = .following) :
    ∃ u, exec .enterInStep s = .next u ∧ u.su = { s.su with step := .inStep } ∧ u.causeTrue 10 0 = false ∧ u.mc = s.mc ∧
      u.au.axes = s.au.axes := by
  have settles : s.settles = true := by simp [State.settles, settled, step]
  rw [exec_enterInStep, settles, if_pos rfl, if_pos step]
  refine ⟨_, rfl, ?_, ?_, ?_, ?_⟩
  · rw [State.reportFalse_su, State.changeStep_eq]
  · simp [State.reportFalse_causeTrue]
  · rw [(State.reportFalse_reported 10 0 _).mc_eq, State.changeStep_eq]
  · rw [(State.reportFalse_keeps 10 0 _).1, State.changeStep_eq]

theorem enterInStep_adopted (settled : s.su.settled = 16) (other : s.shaftMember = false) (adopted : s.su.adopted = true)
    (step : s.su.step = .shaftIdle) (lost : s.causeTrue 10 0 = true) :
    ∃ u, exec .enterInStep s = .next u ∧ u.su = s.su ∧ u.causeTrue 10 0 = false := by
  have settles : s.settles = true := by simp [State.settles, settled, other, adopted, step, lost]
  rw [exec_enterInStep, settles, if_pos rfl, if_neg (by simp [step])]
  exact ⟨_, rfl, State.reportFalse_su _ _ _, by simp [State.reportFalse_causeTrue]⟩

theorem exec_shaftLostStep_idle (h : s.agreeing = false ∨ s.su.minority ≠ 4) : exec .shaftLostStep s = .next s := by
  have no : ¬(s.agreeing = true ∧ s.su.minority = 4) := by
    rintro ⟨agreeing, four⟩
    exact h.elim (fun no => absurd (agreeing.symm.trans no) (by decide)) fun no => no four
  simp only [exec, execShaftLostStep, if_neg no]

theorem exec_shaftLostStep (agreeing : s.agreeing = true) (four : s.su.minority = 4) :
    exec .shaftLostStep s = .next s.loseStep := by
  simp only [exec, execShaftLostStep, agreeing, four, and_self, if_true]

theorem enterAlone_due (h : s.su.step = .following ∨ s.su.step = .inStep) (due : s.su.aloneDue = true) :
    ∃ u, exec .enterAlone s = .next u ∧
      u = { s with su := { s.su with step := .alone, aloneDue := false }, cmp := u.cmp } ∧
      Posts (.stepChanged .alone s.su.step s.su.founder s.su.adopted) s u := by
  have stands : s.standsAlone = true := by rcases h with h | h <;> simp [State.standsAlone, h, due]
  have run : s.enterAlone = s.changeStep fun u => { u with step := .alone, aloneDue := false } := if_pos stands
  exact ⟨s.enterAlone, rfl, by rw [run]; exact State.changeStep_eq _ s, by rw [run]; exact State.changeStep_posts _ s⟩

theorem exec_enterAlone_idle (h : (s.su.step ≠ .following ∧ s.su.step ≠ .inStep) ∨ s.su.aloneDue = false) :
    exec .enterAlone s = .next s := by
  have idle : s.standsAlone = false := by
    rcases h with ⟨a, b⟩ | h
    · simp [State.standsAlone, a, b]
    · simp [State.standsAlone, h]
  simp only [exec, execEnterAlone, State.enterAlone_of_not_due s idle]

theorem latenessClear_calm (calm : s.su.calm = 16) (late : s.causeTrue 12 0 = true) :
    ∃ u, exec .latenessClear s = .next u ∧ s.Reported u ∧
      ∀ c d, u.causeTrue c d = (s.causeTrue c d && !(c == 12 && d == 0)) := by
  refine ⟨s.reportFalse 12 0, ?_, State.reportFalse_reported 12 0 s, fun c d => State.reportFalse_causeTrue 12 0 c d s⟩
  simp only [exec, execLatenessClear, calm, late, and_self, if_true]

theorem exec_latenessClear_idle (h : s.su.calm ≠ 16 ∨ s.causeTrue 12 0 = false) : exec .latenessClear s = .next s := by
  have no : ¬(s.su.calm = 16 ∧ s.causeTrue 12 0 = true) := by
    rintro ⟨calm, late⟩
    exact h.elim (fun no => no calm) fun no => absurd (late.symm.trans no) (by decide)
  simp only [exec, execLatenessClear, if_neg no]

/-- What a founding sets and what it leaves (R65). -/
theorem foundHistory_founds (h : s.founds = true) : ∃ u, exec .foundHistory s = .next u ∧
    u.su.beat = 0 ∧ u.su.line = Line.initial ∧ u.su.snapCur = Line.initial ∧ u.su.founder = s.ownStation ∧
    u.su.snapCurFounder = s.ownStation ∧ u.su.step = .alone ∧ u.su.reports = [] ∧ u.su.cmdNo = s.su.cmdNo ∧
    (∀ e ∈ u.su.list, e.isStop = true ∧ e.beat = 1) ∧
    (∀ i c, s.axisCfg i = some c → (s.axis i).state.onLine = true → u.axis i = (s.axis i).decouple c s.su.line.speed) ∧
    (∀ i, (s.axis i).state.onLine = false → u.axis i = s.axis i) ∧ u.mc = s.mc ∧ u.tu = s.tu ∧
    (s.laneOf 1 = .urgent → s.rp.urgent.length < 8 → ∃ f ∈ u.rp.urgent, f.kind = .shaft) := by
  refine ⟨s.found, by simp only [exec, execFoundHistory, h, if_true], ?_⟩
  have axis (i : Fin 4) : s.found.axis i = (s.axis i).leaveLine s.su.line.speed (s.axisCfg i) := by
    rw [State.found_eq, State.offer_eq]
    exact s.foundedHistory_axis i
  have su : s.found.su = { s.standingStops.foldl Su.installStop (s.su.found s.ownStation) with step := .alone } := by
    rw [State.found_eq, State.offer_su, State.foundedHistory_eq]
  have fields := Su.installStops_eq s.standingStops (s.su.found s.ownStation)
  have list : s.found.su.list = (s.standingStops.foldl Su.installStop (s.su.found s.ownStation)).list := by rw [su]
  have offered : s.laneOf 1 = .urgent → s.rp.urgent.length < 8 → ∃ f ∈ s.found.rp.urgent, f.kind = .shaft := by
    intro lane room
    rw [State.found_eq]
    refine State.offer_shaft_urgent rfl ?_ ?_ ?_
    · rw [State.foundedHistory_eq]
      exact LinkState.inRing_of_isMember (s.founds_iff h)
    · rw [State.foundedHistory_eq]
      exact lane
    · rw [State.foundedHistory_eq]
      exact room
  obtain ⟨mc, tu⟩ : s.found.mc = s.mc ∧ s.found.tu = s.tu := by
    rw [State.found_eq, State.offer_eq, State.foundedHistory_eq]
    exact ⟨rfl, rfl⟩
  refine ⟨?_, ?_, ?_, ?_, ?_, ?_, ?_, ?_, fun e he => ?_, fun i c hc on => ?_, fun i off => ?_, mc, tu, offered⟩
  case refine_9 =>
    rw [list] at he
    exact (Su.installStops_mem s.standingStops_isStop _ e he).resolve_right List.not_mem_nil
  case refine_10 => rw [axis, hc, Axis.leaveLine_of_onLine _ _ on]
  case refine_11 => rw [axis, Axis.leaveLine_of_not _ _ off]
  all_goals rw [su, fields] <;> rfl

/-- Settles O21: each change of step state by the count that calls for it, and the founding. -/
theorem stepTransitions : Obligations.StepTransitions := by
  refine ⟨fun s => exec_enterInStep_idle, fun s => enterInStep_following, fun s => enterInStep_adopted,
    fun s => exec_shaftLostStep_idle, fun s sends four => ?_, fun s idle other adopted four => ?_, fun s => enterAlone_due,
    fun s => exec_enterAlone_idle, fun s => latenessClear_calm, fun s => exec_latenessClear_idle, fun s idle => ?_,
    fun s => foundHistory_founds⟩
  · exact ⟨_, exec_shaftLostStep (by simp [State.agreeing, sends]) four, State.loseStep_sends sends⟩
  · exact ⟨_, exec_shaftLostStep (by simp [State.agreeing, other, adopted]) four, State.loseStep_listens idle⟩
  · simp only [exec, execFoundHistory, idle, Bool.false_eq_true, if_false]

end Sys2Proof.Machine
end

/-! Shaft copies measured: judged, filed in the peer report set, and their entries offered (R57 to R60, R68). -/

section
namespace Sys2Proof.Machine

variable {s t : State} {u v : Su} {e : Entry}

/-! ## Entries offered one after another (R49, R57) -/

/-- The Shaft Unit after entries offered one after another, none of them late before its offer. -/
def Su.installs (m : Nat) (es : List Entry) (u : Su) : Su := es.foldl (fun x e => (x.install m false e).1) u

theorem Su.installs_eq (m : Nat) (es : List Entry) (u : Su) : u.installs m es = { u with
    list := (u.installs m es).list, calm := (u.installs m es).calm, lateThisBeat := (u.installs m es).lateThisBeat
    lateChanges := (u.installs m es).lateChanges, droppedEntries := (u.installs m es).droppedEntries } := by
  unfold Su.installs
  induction es generalizing u with
  | nil => rfl
  | cons e es ih => rw [List.foldl_cons, ih, Su.install_eq]

/-- Two Shaft Units that differ in nothing an offer looks at. -/
structure Su.SameList (u v : Su) : Prop where
  list : v.list = u.list
  beat : v.beat = u.beat
  line : v.line = u.line
  dropped : v.droppedEntries = u.droppedEntries

theorem Su.SameList.fit (h : u.SameList v) (e : Entry) : (u.fit e).SameList (v.fit e) := by
  obtain ⟨list, beat, line, dropped⟩ := h
  unfold Su.fit
  rw [list]
  split
  · exact ⟨by rw [beat], beat, line, dropped⟩
  · exact ⟨by rw [beat], beat, line, congrArg bump dropped⟩

theorem Su.SameList.drop (h : u.SameList v) (list : List Entry) :
    Su.SameList { u with list := list, droppedEntries := bump u.droppedEntries }
      { v with list := list, droppedEntries := bump v.droppedEntries } :=
  { list := rfl, beat := h.beat, line := h.line, dropped := congrArg bump h.dropped }

theorem Su.SameList.place (h : u.SameList v) (e : Entry) : (u.place e).SameList (v.place e) := by
  cases rival : u.list.find? e.rival with
  | none =>
    rw [Su.place_of_free rival, Su.place_of_free (h.list ▸ rival)]
    exact h.fit e
  | some o =>
    rw [Su.place_of_rival rival, Su.place_of_rival (h.list ▸ rival)]
    split
    · rw [h.list]
      exact (h.drop _).fit e
    · exact { list := h.list, beat := h.beat, line := h.line, dropped := congrArg bump h.dropped }

theorem Su.SameList.install (h : u.SameList v) (m : Nat) (late : Bool) (e : Entry) :
    (u.install m late e).1.SameList (v.install m late e).1 := by
  have holds : v.holds e = u.holds e := by rw [Su.holds, Su.holds, h.list, h.line]
  unfold Su.install
  rw [holds, h.beat]
  split
  · exact h
  · split
    · rw [Su.nextBeat, Su.nextBeat, h.beat]
      exact Su.SameList.place (u := u.markLate) (v := v.markLate) ⟨h.list, h.beat, h.line, h.dropped⟩ _
    · exact h.place _

theorem Su.SameList.installs (h : u.SameList v) (m : Nat) (es : List Entry) :
    (u.installs m es).SameList (v.installs m es) := by
  unfold Su.installs
  induction es generalizing u v with
  | nil => exact h
  | cons e es ih => exact ih (h.install m false e)

/-- Entries for later beats lead to nothing beside the Shaft Unit. -/
theorem State.installEntries_of_later {es : List Entry} (h : ∀ e ∈ es, beatLater e.beat s.su.beat = true) :
    es.foldl (fun x e => x.installEntry e) s = { s with su := s.su.installs s.maxSpeed es } := by
  induction es generalizing s with
  | nil => rfl
  | cons e es ih =>
    have first := State.installEntry_of_punctual (Su.install_punctual s.maxSpeed (h e List.mem_cons_self))
    rw [List.foldl_cons, first, ih]
    · rfl
    · rw [Su.install_eq]
      exact fun x hx => h x (List.mem_cons_of_mem e hx)

/-- The entries a Shaft frame carries for later beats. -/
def ShaftMsg.later (m : ShaftMsg) (beat : Nat) : List Entry := m.entries.filter fun e => beatLater e.beat beat

theorem State.offerCarried_own {m : ShaftMsg} (h : m.founder = s.su.founder) :
    s.offerCarried m = { s with su := s.su.installs s.maxSpeed (m.later s.su.beat) } := by
  rw [State.offerCarried, if_pos h]
  exact State.installEntries_of_later fun e he => (List.mem_filter.mp he).2

theorem State.offerCarried_foreign {m : ShaftMsg} (h : m.founder ≠ s.su.founder) : s.offerCarried m = s := if_neg h

/-! ## The stages of a report (R59, R60, R68) -/

/-- The entry into ALONE taken where it is due. -/
def Su.takeAlone (u : Su) : Su :=
  if (u.step == .following || u.step == .inStep) && u.aloneDue then { u with step := .alone, aloneDue := false } else u

theorem State.enterAlone_eq (s : State) : s.enterAlone = { s with su := s.su.takeAlone, cmp := s.enterAlone.cmp } := by
  unfold State.enterAlone Su.takeAlone State.standsAlone
  split
  · exact State.changeStep_eq _ s
  · rfl

/-- A report enters the set, and its origin's roster slot is judged by it. -/
def State.file (r : Report) (s : State) : State := (s.onSu (Su.enterReport r)).onSlot r.peer (RosterSlot.judge r.cls)

/-- Cause 11 where an origin's exclusions have reached eight. -/
def State.warnExcluded (n : Nat) (s : State) : State :=
  if (s.slot n).any fun r => r.exclusions == 8 then s.reportTrue 11 n else s

/-- The way out of ALONE (R68). -/
def Su.leaveAlone (u : Su) : Su := if u.step = .alone then { u with step := .following, settled := 0 } else u

/-- The way out of ALONE, with its event. -/
def State.leaveAlone (s : State) : State :=
  if s.su.step = .alone then s.changeStep fun u => { u with step := .following, settled := 0 } else s

section
variable {h : Header} {start : Int} {m : ShaftMsg} {off : Int} {reason : Option Exclusion} {x : Exclusion}

theorem State.takeReport_valid (judged : s.judgeReport h start m = (none, off)) (own : m.founder = s.su.founder) :
    s.takeReport h start m =
      ((s.enterAlone.file ⟨h.origin, .valid, off⟩).reportFalse 11 h.origin).leaveAlone := by
  have cls : s.classOf none m.founder = .valid := by simp [State.classOf, own]
  unfold State.takeReport
  rw [judged]
  dsimp only
  rw [cls]
  rfl

theorem State.takeReport_excluded (judged : s.judgeReport h start m = (some x, off)) (own : m.founder = s.su.founder) :
    s.takeReport h start m =
      ((s.onSu (Su.countExclusion x)).file ⟨h.origin, .excluded, off⟩).warnExcluded h.origin := by
  have cls : s.classOf (some x) m.founder = .excluded := by simp [State.classOf, own]
  unfold State.takeReport
  rw [judged]
  dsimp only
  rw [cls]
  rfl

theorem State.takeReport_high (judged : s.judgeReport h start m = (reason, off)) (higher : s.su.founder < m.founder) :
    s.takeReport h start m = (s.file ⟨h.origin, .foreignHigh, off⟩).warnExcluded h.origin := by
  have cls : s.classOf reason m.founder = .foreignHigh := by
    rw [State.classOf, if_neg (by omega), if_pos higher]
  unfold State.takeReport
  rw [judged]
  dsimp only
  rw [cls]
  rfl

theorem State.takeReport_low (judged : s.judgeReport h start m = (reason, off)) (lower : m.founder < s.su.founder) :
    s.takeReport h start m = s.file ⟨h.origin, .foreignLow, off⟩ := by
  have cls : s.classOf reason m.founder = .foreignLow := by rw [State.classOf, if_pos lower]
  unfold State.takeReport
  rw [judged]
  dsimp only
  rw [cls]
  rfl

end

/-! ### What each stage leaves -/

/-- What no stage of a report touches. -/
structure State.Files (s t : State) : Prop where
  inSu : t.inSu = s.inSu
  cfg : t.cfg = s.cfg
  line : t.su.line = s.su.line
  founder : t.su.founder = s.su.founder
  beat : t.su.beat = s.su.beat

theorem State.Files.refl (s : State) : s.Files s := ⟨rfl, rfl, rfl, rfl, rfl⟩

theorem State.Files.trans {u : State} (h : s.Files t) (k : t.Files u) : s.Files u :=
  ⟨k.inSu.trans h.inSu, k.cfg.trans h.cfg, k.line.trans h.line, k.founder.trans h.founder, k.beat.trans h.beat⟩

theorem State.Reported.files (h : s.Reported t) : s.Files t :=
  ⟨h.inSu_eq, h.cfg_eq, by rw [h.shaft], by rw [h.shaft], by rw [h.shaft]⟩

theorem State.enterAlone_files (s : State) : s.Files s.enterAlone := by
  have kept : s.su.takeAlone.line = s.su.line ∧ s.su.takeAlone.founder = s.su.founder ∧
      s.su.takeAlone.beat = s.su.beat := by
    unfold Su.takeAlone
    split <;> exact ⟨rfl, rfl, rfl⟩
  obtain ⟨line, founder, beat⟩ := kept
  rw [State.enterAlone_eq]
  exact ⟨rfl, rfl, line, founder, beat⟩

theorem State.file_eq (r : Report) (s : State) : s.file r = { s with
    su := s.su.enterReport r, mc := { s.mc with roster := (s.file r).mc.roster } } := State.onSlot_eq _ _ _

theorem State.file_files (r : Report) (s : State) : s.Files (s.file r) := by
  rw [State.file_eq]
  exact ⟨rfl, rfl, rfl, rfl, rfl⟩

theorem State.file_slot {r : Report} {x : RosterSlot} (h : s.slot r.peer = some x) :
    (s.file r).slot r.peer = some (x.judge r.cls) := State.slot_onSlot (s := s.onSu (Su.enterReport r)) h _

theorem State.countExclusion_files (x : Exclusion) (s : State) : s.Files (s.onSu (Su.countExclusion x)) := by
  cases x <;> exact ⟨rfl, rfl, rfl, rfl, rfl⟩

theorem State.warnExcluded_reported (n : Nat) (s : State) : s.Reported (s.warnExcluded n) :=
  .ite _ (State.reportTrue_reported 11 n s) (.refl s)

theorem State.warnExcluded_below {r : RosterSlot} {n : Nat} (h : s.slot n = some r) (few : r.exclusions ≠ 8) :
    s.warnExcluded n = s := if_neg (by simp [h, few])

theorem State.warnExcluded_at {r : RosterSlot} {n : Nat} (h : s.slot n = some r) (eight : r.exclusions = 8) :
    (s.warnExcluded n).causeTrue 11 n = true := by
  rw [State.warnExcluded, if_pos (by simp [h, eight])]
  exact State.reportTrue_true 11 n s

theorem State.leaveAlone_eq (s : State) :
    s.leaveAlone = { s with su := s.su.leaveAlone, cmp := s.leaveAlone.cmp } := by
  unfold State.leaveAlone Su.leaveAlone
  split
  · exact State.changeStep_eq _ s
  · rfl

theorem State.leaveAlone_files (s : State) : s.Files s.leaveAlone := by
  have kept : s.su.leaveAlone.line = s.su.line ∧ s.su.leaveAlone.founder = s.su.founder ∧
      s.su.leaveAlone.beat = s.su.beat := by
    unfold Su.leaveAlone
    split <;> exact ⟨rfl, rfl, rfl⟩
  obtain ⟨line, founder, beat⟩ := kept
  rw [State.leaveAlone_eq]
  exact ⟨rfl, rfl, line, founder, beat⟩

/-- A report leaves the line, its founder and its beat as they are. -/
theorem State.takeReport_files (h : Header) (start : Int) (m : ShaftMsg) (s : State) : s.Files (s.takeReport h start m) := by
  obtain ⟨reason, off, judged⟩ : ∃ reason off, s.judgeReport h start m = (reason, off) := ⟨_, _, rfl⟩
  have warned (n : Nat) (x : State) : x.Files (x.warnExcluded n) := (x.warnExcluded_reported n).files
  rcases Nat.lt_trichotomy m.founder s.su.founder with lower | own | higher
  · rw [State.takeReport_low judged lower]
    exact State.file_files _ s
  · cases reason with
    | none =>
      rw [State.takeReport_valid judged own]
      have filed := s.enterAlone_files.trans (State.file_files ⟨h.origin, .valid, off⟩ _)
      exact (filed.trans (State.reportFalse_reported 11 h.origin _).files).trans (State.leaveAlone_files _)
    | some x =>
      rw [State.takeReport_excluded judged own]
      exact ((State.countExclusion_files x s).trans (State.file_files _ _)).trans (warned _ _)
  · rw [State.takeReport_high judged higher]
    exact (State.file_files _ s).trans (warned _ _)

theorem State.offerCarried_files (m : ShaftMsg) (s : State) : s.Files (s.offerCarried m) := by
  by_cases own : m.founder = s.su.founder
  · rw [State.offerCarried_own own, Su.installs_eq]
    exact ⟨rfl, rfl, rfl, rfl, rfl⟩
  · rw [State.offerCarried_foreign own]
    exact .refl s

/-! ## A report judged, and what it leads to (R58 to R60, R68) -/

section
variable {h : Header} {z : Int} {m : ShaftMsg} {r : RosterSlot} {own off : Int} {snap : Option Line} {x : Exclusion}

theorem State.judgeReport_valid (found : s.su.ownBeat m.beat = some (own, snap)) (transit : h.transit ≠ 65535)
    (near : (z - own).natAbs ≤ s.exclusion) (equal : ∀ l, snap = some l → l.sameSnapshot m.line = true) :
    s.judgeReport h z m = (none, z - own) := by
  have same : (snap.any fun l => !l.sameSnapshot m.line) = false := by
    cases snap with
    | none => rfl
    | some l => simp [equal l rfl]
  unfold State.judgeReport
  rw [found]
  dsimp only
  rw [if_neg transit, if_neg (Nat.not_lt.mpr near), if_neg (by simp [same])]

/-- The case in which each exclusion is the first reason a report fails, and its offset (R59). -/
def State.Excludes (s : State) (h : Header) (z : Int) (m : ShaftMsg) (x : Exclusion) (off : Int) : Prop :=
  (x = .beatUnmatched ∧ s.su.ownBeat m.beat = none ∧ off = 0) ∨
    ∃ own snap, s.su.ownBeat m.beat = some (own, snap) ∧ off = z - own ∧
      ((x = .transitSaturated ∧ h.transit = 65535) ∨
        (x = .offsetBeyond ∧ h.transit ≠ 65535 ∧ s.exclusion < off.natAbs) ∨
        (x = .snapshotMismatch ∧ h.transit ≠ 65535 ∧ off.natAbs ≤ s.exclusion ∧
          ∃ l, snap = some l ∧ l.sameSnapshot m.line = false))

theorem State.judgeReport_excluded (fails : s.Excludes h z m x off) : s.judgeReport h z m = (some x, off) := by
  unfold State.judgeReport
  rcases fails with ⟨rfl, unmatched, rfl⟩ | ⟨own, snap, found, rfl, case⟩
  · rw [unmatched]
  · rw [found]
    dsimp only
    rcases case with ⟨rfl, full⟩ | ⟨rfl, transit, far⟩ | ⟨rfl, transit, near, l, rfl, differs⟩
    · rw [if_pos full]
    · rw [if_neg transit, if_pos far]
    · rw [if_neg transit, if_neg (Nat.not_lt.mpr near), if_pos (by simp [differs])]

/-- A report with the own founder, and the entries offered after it. -/
theorem State.measured_own (own : m.founder = s.su.founder) : (s.takeReport h z m).offerCarried m =
    { s.takeReport h z m with su := (s.takeReport h z m).su.installs s.maxSpeed (m.later s.su.beat) } := by
  have files := State.takeReport_files h z m s
  have speed : (s.takeReport h z m).maxSpeed = s.maxSpeed := by rw [State.maxSpeed, State.maxSpeed, files.cfg]
  rw [State.offerCarried_own (own.trans files.founder.symm), speed, files.beat]

theorem State.measured_foreign (foreign : m.founder ≠ s.su.founder) :
    (s.takeReport h z m).offerCarried m = s.takeReport h z m :=
  State.offerCarried_foreign fun e => foreign (e.trans (State.takeReport_files h z m s).founder)

/-- The step state after a VALID report: out of ALONE, also where the entry into it was due. -/
theorem Su.throughAlone (u : Su) (r : Report) :
    ((u.takeAlone.enterReport r).leaveAlone).step =
        (if u.step = .alone ∨ (u.step.sends = true ∧ u.aloneDue = true) then .following else u.step) ∧
      (u.step = .alone ∨ (u.step.sends = true ∧ u.aloneDue = true) →
        ((u.takeAlone.enterReport r).leaveAlone).settled = 0 ∧
          (u.step ≠ .alone → ((u.takeAlone.enterReport r).leaveAlone).aloneDue = false)) := by
  cases step : u.step <;> cases due : u.aloneDue <;>
    simp [Su.takeAlone, Su.leaveAlone, Su.enterReport, StepState.sends, step, due]

theorem Su.reports_throughAlone (u : Su) (r : Report) : ((u.takeAlone.enterReport r).leaveAlone).reports =
    (u.reports.filter fun x => x.peer != r.peer) ++ [r] := by
  unfold Su.leaveAlone Su.takeAlone Su.enterReport
  split <;> split <;> rfl

theorem Su.takeAlone_sameList (u : Su) : u.SameList u.takeAlone := by
  unfold Su.takeAlone
  split <;> exact ⟨rfl, rfl, rfl, rfl⟩

theorem Su.leaveAlone_sameList (u : Su) : u.SameList u.leaveAlone := by
  unfold Su.leaveAlone
  split <;> exact ⟨rfl, rfl, rfl, rfl⟩

theorem Su.SameList.trans {w : Su} (h : u.SameList v) (k : v.SameList w) : u.SameList w :=
  ⟨k.list.trans h.list, k.beat.trans h.beat, k.line.trans h.line, k.dropped.trans h.dropped⟩

theorem Su.enterReport_sameList (r : Report) (u : Su) : u.SameList (u.enterReport r) := ⟨rfl, rfl, rfl, rfl⟩

theorem Su.countExclusion_sameList (x : Exclusion) (u : Su) : u.SameList (u.countExclusion x) := by
  cases x <;> exact ⟨rfl, rfl, rfl, rfl⟩

end

end Sys2Proof.Machine
end

/-! Shaft copies: what a measured report of each class leads to (R57 to R60, R68). -/

section
namespace Sys2Proof.Machine

variable {s t : State} {u v : Su} {e : Entry}

/-! ## What a report of each class leads to (R59, R60, R68) -/

section
variable {h : Header} {z : Int} {m : ShaftMsg} {r : RosterSlot} {own off : Int} {snap : Option Line} {x : Exclusion}
  {n : Nat}

theorem State.takeReport_valid_told (slot : s.slot h.origin = some r) (judged : s.judgeReport h z m = (none, off))
    (own : m.founder = s.su.founder) :
    (s.takeReport h z m).su = (s.su.takeAlone.enterReport ⟨h.origin, .valid, off⟩).leaveAlone ∧
      (s.takeReport h z m).slot h.origin = some { r with view := .valid, exclusions := 0 } ∧
      (s.takeReport h z m).causeTrue 11 h.origin = false := by
  have alone : s.enterAlone.slot h.origin = some r := by
    rw [State.enterAlone_eq]
    exact slot
  have filed := State.file_slot (r := ⟨h.origin, .valid, off⟩) alone
  have told := State.reportFalse_reported 11 h.origin (s.enterAlone.file ⟨h.origin, .valid, off⟩)
  have shaft : (s.enterAlone.file ⟨h.origin, .valid, off⟩).su = s.su.takeAlone.enterReport ⟨h.origin, .valid, off⟩ := by
    rw [State.file_eq, State.enterAlone_eq]
  rw [State.takeReport_valid judged own, State.leaveAlone_eq]
  refine ⟨?_, ?_, ?_⟩
  · rw [State.reportFalse_su, shaft]
  · exact (State.slot_congr (congrArg Mc.roster told.mc_eq) h.origin).trans filed
  · exact (State.reportFalse_causeTrue 11 h.origin 11 h.origin _).trans (by simp)

/-- A report that counts as an exclusion, filed: cause 11 is reported where the origin has reached eight of them. -/
def State.fileCounted (p : Report) (s : State) : State := (s.file p).warnExcluded p.peer

theorem State.fileCounted_reported (p : Report) (s : State) : (s.file p).Reported (s.fileCounted p) :=
  State.warnExcluded_reported p.peer _

theorem State.fileCounted_su (p : Report) (s : State) : (s.fileCounted p).su = { s.su.enterReport p with
    list := (s.fileCounted p).su.list, calm := (s.fileCounted p).su.calm
    lateThisBeat := (s.fileCounted p).su.lateThisBeat, lateChanges := (s.fileCounted p).su.lateChanges
    droppedEntries := (s.fileCounted p).su.droppedEntries } := by
  have shaft : (s.file p).su = s.su.enterReport p := by rw [State.file_eq]
  rw [← shaft]
  exact (s.fileCounted_reported p).shaft

theorem State.fileCounted_slot {p : Report} (slot : s.slot p.peer = some r) :
    (s.fileCounted p).slot p.peer = some (r.judge p.cls) :=
  (State.slot_congr (congrArg Mc.roster (s.fileCounted_reported p).mc_eq) _).trans (State.file_slot slot)

/-- At the eighth exclusion in a row the origin is warned of, before it nothing but the report is filed. -/
theorem State.fileCounted_warns {p : Report} (slot : s.slot p.peer = some r)
    (counts : (r.judge p.cls).exclusions = min (r.exclusions + 1) 8) :
    (r.exclusions < 7 → (s.fileCounted p).su = s.su.enterReport p) ∧
      (7 ≤ r.exclusions → (s.fileCounted p).causeTrue 11 p.peer = true) := by
  refine ⟨fun few => ?_, fun many => ?_⟩
  · rw [State.fileCounted, State.warnExcluded_below (State.file_slot slot) (by omega), State.file_eq]
  · exact State.warnExcluded_at (State.file_slot slot) (by omega)

/-! ## The frame of a shaft member measured (R57) -/

theorem State.measure_peer (slot : s.slot h.origin = some r) (present : r.present = true) (member : r.shaftMember = true) :
    s.measure h z m = (s.takeReport h z m).offerCarried m := by
  rw [State.measure, if_pos (by simp [State.isShaftPeer, slot, present, member])]

theorem State.measure_files (h : Header) (z : Int) (m : ShaftMsg) (s : State) : s.Files (s.measure h z m) := by
  unfold State.measure
  split
  · exact (State.takeReport_files h z m s).trans (State.offerCarried_files m _)
  · exact .refl s

/-- What a VALID report leads to, its entries offered after it. -/
theorem State.measured_valid (slot : s.slot h.origin = some r) (own : m.founder = s.su.founder)
    (judged : s.judgeReport h z m = (none, off)) (t : State) (run : t = (s.takeReport h z m).offerCarried m) :
    t.su.reports = (s.su.reports.filter fun x => x.peer != h.origin) ++ [⟨h.origin, .valid, off⟩] ∧
      t.slot h.origin = some { r with view := .valid, exclusions := 0 } ∧ t.causeTrue 11 h.origin = false ∧
      t.su.list = (s.su.installs s.maxSpeed (m.later s.su.beat)).list ∧
      t.su.droppedEntries = (s.su.installs s.maxSpeed (m.later s.su.beat)).droppedEntries ∧
      t.su.step = (if s.su.step = .alone ∨ (s.su.step.sends = true ∧ s.su.aloneDue = true) then .following
        else s.su.step) ∧
      (s.su.step = .alone ∨ (s.su.step.sends = true ∧ s.su.aloneDue = true) →
        t.su.settled = 0 ∧ (s.su.step ≠ .alone → t.su.aloneDue = false)) := by
  obtain ⟨shaft, judgedSlot, cause⟩ := State.takeReport_valid_told slot judged own
  obtain ⟨step, through⟩ := Su.throughAlone s.su ⟨h.origin, .valid, off⟩
  have same : s.su.SameList (s.su.takeAlone.enterReport ⟨h.origin, .valid, off⟩).leaveAlone :=
    (s.su.takeAlone_sameList.trans (Su.enterReport_sameList _ _)).trans (Su.leaveAlone_sameList _)
  obtain ⟨list, -, -, dropped⟩ := same.installs s.maxSpeed (m.later s.su.beat)
  rw [run, State.measured_own own, shaft]
  refine ⟨?_, judgedSlot, cause, list, dropped, ?_, ?_⟩
  · rw [Su.installs_eq]
    exact Su.reports_throughAlone _ _
  · rw [Su.installs_eq]
    exact step
  · rw [Su.installs_eq]
    exact through

/-- The counters of excluded reports after one for a reason (R59). -/
theorem Su.countExclusion_counters (x : Exclusion) (u : Su) :
    (u.countExclusion x).beatUnmatched = (if x = .beatUnmatched then bump u.beatUnmatched else u.beatUnmatched) ∧
      (u.countExclusion x).transitSaturated =
        (if x = .transitSaturated then bump u.transitSaturated else u.transitSaturated) ∧
      (u.countExclusion x).offsetBeyond = (if x = .offsetBeyond then bump u.offsetBeyond else u.offsetBeyond) ∧
      (u.countExclusion x).snapshotMismatch =
        (if x = .snapshotMismatch then bump u.snapshotMismatch else u.snapshotMismatch) ∧
      (u.countExclusion x).reports = u.reports ∧ (u.countExclusion x).step = u.step := by
  cases x <;> exact ⟨rfl, rfl, rfl, rfl, rfl, rfl⟩

/-- What an EXCLUDED report leads to, its entries offered after it. -/
theorem State.measured_excluded (slot : s.slot h.origin = some r) (own : m.founder = s.su.founder)
    (judged : s.judgeReport h z m = (some x, off)) (t : State) (run : t = (s.takeReport h z m).offerCarried m) :
    t.su.reports = (s.su.reports.filter fun y => y.peer != h.origin) ++ [⟨h.origin, .excluded, off⟩] ∧
      t.su.beatUnmatched = (if x = .beatUnmatched then bump s.su.beatUnmatched else s.su.beatUnmatched) ∧
      t.su.transitSaturated = (if x = .transitSaturated then bump s.su.transitSaturated else s.su.transitSaturated) ∧
      t.su.offsetBeyond = (if x = .offsetBeyond then bump s.su.offsetBeyond else s.su.offsetBeyond) ∧
      t.su.snapshotMismatch = (if x = .snapshotMismatch then bump s.su.snapshotMismatch else s.su.snapshotMismatch) ∧
      t.su.step = s.su.step ∧ t.slot h.origin = some (r.judge .excluded) ∧
      (r.exclusions < 7 → t.su.list = (s.su.installs s.maxSpeed (m.later s.su.beat)).list) ∧
      (7 ≤ r.exclusions → t.causeTrue 11 h.origin = true) := by
  have taken : s.takeReport h z m = (s.onSu (Su.countExclusion x)).fileCounted ⟨h.origin, .excluded, off⟩ :=
    State.takeReport_excluded judged own
  obtain ⟨few, many⟩ :=
    State.fileCounted_warns (s := s.onSu (Su.countExclusion x)) (p := ⟨h.origin, .excluded, off⟩) slot rfl
  have filed := State.fileCounted_slot (s := s.onSu (Su.countExclusion x)) (p := ⟨h.origin, .excluded, off⟩) slot
  have shaft := (s.onSu (Su.countExclusion x)).fileCounted_su ⟨h.origin, .excluded, off⟩
  have same : s.su.SameList ((s.su.countExclusion x).enterReport ⟨h.origin, .excluded, off⟩) :=
    (Su.countExclusion_sameList x _).trans (Su.enterReport_sameList _ _)
  obtain ⟨unmatched, saturated, beyond, mismatch, reports, step⟩ := s.su.countExclusion_counters x
  rw [run, State.measured_own own, taken]
  refine ⟨?_, ?_, ?_, ?_, ?_, ?_, filed, fun below => ?_, many⟩
  case refine_7 =>
    rw [few below]
    exact (same.installs s.maxSpeed (m.later s.su.beat)).list
  all_goals rw [Su.installs_eq, shaft]
  · exact congrArg (fun l => (l.filter fun y => y.peer != h.origin) ++ [⟨h.origin, .excluded, off⟩]) reports
  · exact unmatched
  · exact saturated
  · exact beyond
  · exact mismatch
  · exact step

/-- What a FOREIGN_HIGH report leads to. -/
theorem State.measured_high (slot : s.slot h.origin = some r) (higher : s.su.founder < m.founder) (t : State)
    (run : t = (s.takeReport h z m).offerCarried m) :
    t.slot h.origin = some (r.judge .foreignHigh) ∧ t.su.step = s.su.step ∧
      (r.exclusions < 7 → t.su.list = s.su.list) ∧ (7 ≤ r.exclusions → t.causeTrue 11 h.origin = true) := by
  obtain ⟨reason, off, judged⟩ : ∃ reason off, s.judgeReport h z m = (reason, off) := ⟨_, _, rfl⟩
  have taken : s.takeReport h z m = s.fileCounted ⟨h.origin, .foreignHigh, off⟩ := State.takeReport_high judged higher
  obtain ⟨few, many⟩ := State.fileCounted_warns (p := ⟨h.origin, .foreignHigh, off⟩) slot rfl
  rw [run, State.measured_foreign (Nat.ne_of_gt higher), taken]
  refine ⟨State.fileCounted_slot (p := ⟨h.origin, .foreignHigh, off⟩) slot, ?_, fun below => ?_, many⟩
  · rw [State.fileCounted_su]
    rfl
  · rw [few below]
    rfl

/-- What a FOREIGN_LOW report leads to. -/
theorem State.measured_low (slot : s.slot h.origin = some r) (lower : m.founder < s.su.founder) (t : State)
    (run : t = (s.takeReport h z m).offerCarried m) :
    t.slot h.origin = some (r.judge .foreignLow) ∧ t.su.step = s.su.step ∧ t.su.list = s.su.list := by
  obtain ⟨reason, off, judged⟩ : ∃ reason off, s.judgeReport h z m = (reason, off) := ⟨_, _, rfl⟩
  rw [run, State.measured_foreign (Nat.ne_of_lt lower), State.takeReport_low judged lower]
  refine ⟨State.file_slot (r := ⟨h.origin, .foreignLow, off⟩) slot, ?_, ?_⟩
  · rw [State.file_eq]
    rfl
  · rw [State.file_eq]
    rfl

end

end Sys2Proof.Machine
end

/-! Shaft copies: a line history adopted, what becomes of a copy in each step state, and the settled obligation (R57, R63 to R65,
R69, R84). -/

section
namespace Sys2Proof.Machine

variable {s : State} {u : Su} {e : Entry} {m : ShaftMsg} {start : Int} {c : Copy} {rest : List Copy}

/-! ## The entries an adoption takes (R63) -/

theorem Su.carry_keeps (v : Nat) (e : Entry) {x : Entry} (h : x ∈ u.list) : x ∈ (u.carry v e).list := by
  unfold Su.carry
  split
  · exact h
  · exact (insertRank_perm _ _ _).symm.subset (List.mem_cons_of_mem _ h)

theorem Su.carries_keep (v : Nat) (es : List Entry) {x : Entry} (h : x ∈ u.list) : x ∈ (es.foldl (Su.carry v) u).list := by
  induction es generalizing u with
  | nil => exact h
  | cons e es ih => exact ih (Su.carry_keeps v e h)

theorem Su.carry_has (v : Nat) (e : Entry) (u : Su) : ∃ x ∈ (u.carry v e).list, x.ident = e.ident := by
  unfold Su.carry
  split
  · next there => simpa using there
  · exact ⟨e.clamped v, (insertRank_perm _ _ _).symm.subset List.mem_cons_self, Entry.ident_clamped v e⟩

/-- Every carried entry is in the list by its identity. -/
theorem Su.carries_have (v : Nat) {es : List Entry} (h : e ∈ es) (u : Su) :
    ∃ x ∈ (es.foldl (Su.carry v) u).list, x.ident = e.ident := by
  induction es generalizing u with
  | nil => cases h
  | cons a es ih =>
    rcases List.mem_cons.mp h with rfl | later
    · obtain ⟨x, there, ident⟩ := Su.carry_has v e u
      exact ⟨x, Su.carries_keep v es there, ident⟩
    · exact ih later _

/-- The fields of the Shaft Unit after an adoption and the stops submitted anew. -/
theorem Su.adopt_fields (now v normal fast : Nat) (stops : List Entry) (w : Su)
    (run : w = stops.foldl Su.installStop (u.adopt start now v normal fast m)) :
    w.step = u.step ∧ w.adopted = u.adopted ∧ w.founder = m.founder ∧ w.beat = m.beat ∧ w.snapCur = m.line ∧
      w.snapCurFounder = m.founder ∧ w.beatCur = start ∧ w.reports = [] ∧ w.settled = 0 ∧ w.heldHistory = true ∧
      w.line = m.line.ticks normal fast (ticksPassed start now) := by
  rw [run, Su.installStops_eq]
  unfold Su.adopt
  dsimp only
  rw [Su.takeCarried_eq_list]
  exact ⟨rfl, rfl, rfl, rfl, rfl, rfl, rfl, rfl, rfl, rfl, rfl⟩

theorem Su.adopt_has (now v normal fast : Nat) (h : e ∈ m.entries) (u : Su) :
    ∃ x ∈ (u.adopt start now v normal fast m).list, x.ident = e.ident := Su.carries_have v h _

/-- With nothing in the trip table no stop stands. -/
theorem State.standingStops_of_empty (h : s.tu.table = []) : s.standingStops = [] := by
  rw [State.standingStops, h]
  rfl

/-! ## The adoption (R63, R69, R84) -/

/-- The state in which a history is adopted, before the change of step state. -/
def State.takeHistory (start : Int) (m : ShaftMsg) (s : State) : State :=
  ((s.onSu fun u => u.adopt start s.now s.maxSpeed s.normalRate s.fastRate m).lineReplaced s.su.line.speed).resubmitStops

theorem State.takeHistory_eq (start : Int) (m : ShaftMsg) (s : State) : s.takeHistory start m = { s with
    su := s.standingStops.foldl Su.installStop (s.su.adopt start s.now s.maxSpeed s.normalRate s.fastRate m)
    au := (s.takeHistory start m).au, cu := (s.takeHistory start m).cu, mu := (s.takeHistory start m).mu
    cmp := (s.takeHistory start m).cmp } := by
  unfold State.takeHistory
  rw [State.resubmitStops, State.lineReplaced_eq]
  rfl

theorem State.takeHistory_axis (start : Int) (m : ShaftMsg) (i : Fin 4) (s : State) :
    (s.takeHistory start m).axis i = (s.axis i).leaveLine s.su.line.speed (s.axisCfg i) :=
  State.lineReplaced_axis _ i (s.onSu fun u => u.adopt start s.now s.maxSpeed s.normalRate s.fastRate m)

/-- The step state of a shaft member and the adopted flag of another station after an adoption (R63, R69). -/
def Su.follow (member : Bool) (u : Su) : Su :=
  { u with step := if member then .following else u.step, adopted := u.adopted || !member }

theorem State.adopt_eq (start : Int) (m : ShaftMsg) (s : State) : s.adopt start m = { s.takeHistory start m with
    su := (s.takeHistory start m).su.follow s.shaftMember, cmp := (s.adopt start m).cmp } := by
  have cfg : (s.takeHistory start m).shaftMember = s.shaftMember := by rw [State.takeHistory_eq]; rfl
  have run : s.adopt start m = if (s.takeHistory start m).shaftMember = true then
      (s.takeHistory start m).changeStep fun u => { u with step := .following }
      else (s.takeHistory start m).changeStep fun u => { u with adopted := true } := rfl
  rw [cfg] at run
  rw [run]
  cases s.shaftMember with
  | true =>
    rw [if_pos rfl, State.changeStep_eq]
    simp [Su.follow]
  | false =>
    rw [if_neg (by decide), State.changeStep_eq]
    simp [Su.follow]

/-- What an adoption sets and what it leaves (R63, R69). -/
theorem State.adopt_told (start : Int) (m : ShaftMsg) (s t : State) (run : t = s.adopt start m) :
    t.inSu = s.inSu ∧ t.su.step = (if s.shaftMember = true then .following else s.su.step) ∧
      t.su.adopted = (s.su.adopted || !s.shaftMember) ∧ t.su.founder = m.founder ∧ t.su.beat = m.beat ∧
      t.su.snapCur = m.line ∧ t.su.snapCurFounder = m.founder ∧ t.su.beatCur = start ∧ t.su.reports = [] ∧
      t.su.settled = 0 ∧ t.su.heldHistory = true ∧
      t.su.line = m.line.ticks s.normalRate s.fastRate (ticksPassed start s.now) ∧
      (s.tu.table = [] → ∀ e ∈ m.entries, ∃ x ∈ t.su.list, x.ident = e.ident) ∧
      (∀ i k, s.axisCfg i = some k → (s.axis i).state.onLine = true → t.axis i = (s.axis i).decouple k s.su.line.speed) ∧
      t.mc = s.mc := by
  have shaft : (s.takeHistory start m).su =
      s.standingStops.foldl Su.installStop (s.su.adopt start s.now s.maxSpeed s.normalRate s.fastRate m) := by
    rw [State.takeHistory_eq]
  obtain ⟨step, adopted, founder, beat, snap, snapFounder, cur, reports, settled, held, line⟩ :=
    Su.adopt_fields s.now s.maxSpeed s.normalRate s.fastRate s.standingStops (s.takeHistory start m).su shaft
  have kept : (s.takeHistory start m).inSu = s.inSu ∧ (s.takeHistory start m).mc = s.mc := by
    rw [State.takeHistory_eq]
    exact ⟨rfl, rfl⟩
  obtain ⟨inSu, mc⟩ := kept
  rw [run, State.adopt_eq]
  refine ⟨inSu, ?_, ?_, founder, beat, snap, snapFounder, cur, reports, settled, held, line, fun empty e there => ?_,
    fun i k cfg on => ?_, mc⟩
  · exact congrArg (fun k => if s.shaftMember = true then StepState.following else k) step
  · exact congrArg (fun b => b || !s.shaftMember) adopted
  · rw [State.standingStops_of_empty empty, List.foldl_nil] at shaft
    obtain ⟨x, listed, ident⟩ := Su.adopt_has (start := start) s.now s.maxSpeed s.normalRate s.fastRate there s.su
    rw [← shaft] at listed
    exact ⟨x, listed, ident⟩
  · refine (State.takeHistory_axis start m i s).trans ?_
    rw [cfg, Axis.leaveLine_of_onLine _ _ on]

theorem State.atRest_iff (m : ShaftMsg) (s : State) : s.atRest m = true ↔
    m.line.speed = 0 ∧ s.su.line.speed = 0 ∧ ∀ i, (s.axis i).state.onLine = false := by
  have axes : (s.au.axes.any fun a => a.state.onLine) = false ↔ ∀ i, (s.axis i).state.onLine = false := by
    rw [Bool.eq_false_iff, ne_eq, Quad.any_iff]
    simp [State.axis]
  simp [State.atRest, axes, and_assoc]

/-- A frame that does not qualify, and one after the first that finds the line or an axis moving, is not adopted. -/
theorem State.examine_of_not {free : Bool} {h : Header} (no : s.qualifies h.origin h.transit m = false ∨
    (free = false ∧ (m.line.speed ≠ 0 ∨ s.su.line.speed ≠ 0 ∨ ∃ i, (s.axis i).state.onLine = true))) :
    s.examine free h start m = s := by
  refine if_neg fun yes => ?_
  obtain ⟨qualifies, ready⟩ := Bool.and_eq_true_iff.mp yes
  rcases no with no | ⟨bound, moves⟩
  · cases qualifies.symm.trans no
  · rw [bound, Bool.false_or, State.atRest_iff] at ready
    obtain ⟨frame, line, axes⟩ := ready
    rcases moves with moves | moves | ⟨i, on⟩
    · exact moves frame
    · exact moves line
    · cases (axes i).symm.trans on

theorem State.examine_adopts {free : Bool} {h : Header} (qualifies : s.qualifies h.origin h.transit m = true)
    (ready : free = true ∨
      (m.line.speed = 0 ∧ s.su.line.speed = 0 ∧ ∀ i, (s.axis i).state.onLine = false)) :
    s.examine free h start m = s.adopt start m := by
  rw [← State.atRest_iff] at ready
  exact if_pos (by simp [qualifies, ready])

/-! ## What becomes of a Shaft copy in each step state (R57, R69) -/

theorem exec_shaftCopy (h : s.inSu = c :: rest) (k : c.isKind .shaft = true) :
    exec .shaftCopy s = .next (State.takeShaft c { s with inSu := rest }) := by
  simp only [exec, execShaftCopy, h, k, if_true]

theorem exec_shaftCopy_idle (h : s.inSu = [] ∨ ∃ c rest, s.inSu = c :: rest ∧ c.isKind .shaft = false) :
    exec .shaftCopy s = .next s := by
  rcases h with h | ⟨c, rest, h, k⟩
  · simp only [exec, execShaftCopy, h]
  · simp [exec, execShaftCopy, h, k]

theorem State.takeShaft_unread (h : parseShaft c.payload = none) : s.takeShaft c = s := by
  unfold State.takeShaft
  rw [h]

theorem State.takeShaft_sends (h : parseShaft c.payload = some m) (step : s.su.step.sends = true) :
    s.takeShaft c = s.measure (parseHeader c.header) (s.peerStart c.arrival (parseHeader c.header)) m := by
  unfold State.takeShaft
  rw [h]
  dsimp only
  split
  case h_4 idle => simp [idle, StepState.sends] at step
  case h_5 idle => simp [idle, StepState.sends] at step
  all_goals rfl

theorem State.takeShaft_adopting (h : parseShaft c.payload = some m) (step : s.su.step = .adopting) :
    s.takeShaft c =
      s.examine (s.su.founder == 0) (parseHeader c.header) (s.peerStart c.arrival (parseHeader c.header)) m := by
  unfold State.takeShaft
  rw [h]
  dsimp only
  rw [step]

theorem State.takeShaft_listen (h : parseShaft c.payload = some m) (step : s.su.step = .shaftIdle)
    (link : s.mc.link = .listen) : s.takeShaft c =
      if s.qualifies (parseHeader c.header).origin (parseHeader c.header).transit m then
        s.onSu fun u => { u with heardQualifying := true } else s := by
  unfold State.takeShaft
  rw [h]
  dsimp only
  rw [step, link]

theorem State.takeShaft_member (h : parseShaft c.payload = some m) (step : s.su.step = .shaftIdle)
    (link : s.mc.link.isMember = true) : s.takeShaft c = if s.shaftMember then s else if s.su.adopted then
      s.measure (parseHeader c.header) (s.peerStart c.arrival (parseHeader c.header)) m else
      s.examine (!s.su.heldHistory) (parseHeader c.header) (s.peerStart c.arrival (parseHeader c.header)) m := by
  unfold State.takeShaft
  rw [h]
  dsimp only
  rw [step]
  dsimp only
  split <;> simp_all [LinkState.isMember]

theorem State.takeShaft_out (step : s.su.step = .shaftIdle) (listen : s.mc.link ≠ .listen)
    (link : s.mc.link.isMember = false) : s.takeShaft c = s := by
  unfold State.takeShaft
  dsimp only
  split
  · rfl
  · rw [step]
    dsimp only
    split <;> simp_all [LinkState.isMember]

/-! ## The parts of the obligation -/

/-- A copy that is unread, from no shaft member where it would be measured, or of no use to an idle station is only taken. -/
theorem shaftCopy_taken (front : s.inSu = c :: rest) (kind : c.isKind .shaft = true)
    (no : parseShaft c.payload = none ∨
      ((s.su.step.sends = true ∨ (s.su.step = .shaftIdle ∧ s.mc.link ≠ .listen ∧ s.su.adopted = true)) ∧
        s.isShaftPeer (parseHeader c.header).origin = false) ∨
      (s.su.step = .shaftIdle ∧ s.mc.link ≠ .listen ∧ (s.mc.link.isMember = false ∨ s.shaftMember = true))) :
    exec .shaftCopy s = .next { s with inSu := rest } := by
  rw [exec_shaftCopy front kind]
  cases parsed : parseShaft c.payload with
  | none => rw [State.takeShaft_unread parsed]
  | some m =>
    have stranger (h : s.isShaftPeer (parseHeader c.header).origin = false) (z : Int) :
        State.measure (parseHeader c.header) z m { s with inSu := rest } = { s with inSu := rest } :=
      if_neg (Bool.eq_false_iff.mp h)
    have idle (step : s.su.step = .shaftIdle) (listen : s.mc.link ≠ .listen) (h : s.mc.link.isMember = true →
        s.shaftMember = true ∨ (s.su.adopted = true ∧ s.isShaftPeer (parseHeader c.header).origin = false)) :
        State.takeShaft c { s with inSu := rest } = { s with inSu := rest } := by
      cases member : s.mc.link.isMember with
      | false => exact State.takeShaft_out (s := { s with inSu := rest }) step listen member
      | true =>
        rw [State.takeShaft_member (s := { s with inSu := rest }) parsed step member]
        split
        · rfl
        · next other =>
          obtain ⟨adopted, unknown⟩ := (h member).resolve_left other
          rw [if_pos adopted, stranger unknown]
    rcases no with none | ⟨sends | ⟨step, listen, adopted⟩, unknown⟩ | ⟨step, listen, out⟩
    · cases parsed.symm.trans none
    · rw [State.takeShaft_sends (s := { s with inSu := rest }) parsed sends, stranger unknown]
    · rw [idle step listen fun _ => .inr ⟨adopted, unknown⟩]
    · refine congrArg _ (idle step listen fun member => .inl ?_)
      exact out.resolve_left (by simp [member])

theorem Su.ownBeat_cases (u : Su) : u.ownBeat u.beat = some (u.beatCur, some u.snapCur) ∧
    u.ownBeat u.nextBeat = some (u.beatNext, none) ∧
    ∀ b, ((b + 1) % two32 = u.beat → u.ownBeat b = some (u.beatPrev, some u.snapPrev)) ∧
      (b ≠ u.beat → b ≠ u.nextBeat → (b + 1) % two32 ≠ u.beat → u.ownBeat b = none) := by
  have next : u.nextBeat ≠ u.beat := by simp only [Su.nextBeat, two32]; omega
  refine ⟨if_pos rfl, ?_, fun b => ⟨fun before => ?_, fun cur nxt before => ?_⟩⟩
  · rw [Su.ownBeat, if_neg next, if_pos rfl]
  · have cur : b ≠ u.beat := by simp only [two32] at before; omega
    have nxt : b ≠ u.nextBeat := by simp only [Su.nextBeat, two32] at before ⊢; omega
    rw [Su.ownBeat, if_neg cur, if_neg nxt, if_pos before]
  · rw [Su.ownBeat, if_neg cur, if_neg nxt, if_neg before]

/-- A copy that the station measures (R57, R69). -/
theorem exec_shaftCopy_measures (front : s.inSu = c :: rest) (kind : c.isKind .shaft = true)
    (parsed : parseShaft c.payload = some m)
    (measures : s.su.step.sends = true ∨
      (s.su.step = .shaftIdle ∧ s.mc.link.isMember = true ∧ s.shaftMember = false ∧ s.su.adopted = true)) :
    exec .shaftCopy s = .next (State.measure (parseHeader c.header)
      (s.peerStart c.arrival (parseHeader c.header)) m { s with inSu := rest }) := by
  rw [exec_shaftCopy front kind]
  rcases measures with sends | ⟨step, member, other, adopted⟩
  · rw [State.takeShaft_sends (s := { s with inSu := rest }) parsed sends]
    rfl
  · rw [State.takeShaft_member (s := { s with inSu := rest }) parsed step member, if_neg, if_pos adopted]
    · rfl
    · exact Bool.eq_false_iff.mp other

/-- A copy that the station examines for adoption (R63, R64, R69). -/
theorem exec_shaftCopy_examines {free : Bool} (front : s.inSu = c :: rest) (kind : c.isKind .shaft = true)
    (parsed : parseShaft c.payload = some m)
    (examines : (s.su.step = .adopting ∧ free = (s.su.founder == 0)) ∨
      (s.su.step = .shaftIdle ∧ s.mc.link.isMember = true ∧ s.shaftMember = false ∧ s.su.adopted = false ∧
        free = !s.su.heldHistory)) :
    exec .shaftCopy s = .next (State.examine free (parseHeader c.header)
      (s.peerStart c.arrival (parseHeader c.header)) m { s with inSu := rest }) := by
  rw [exec_shaftCopy front kind]
  rcases examines with ⟨step, rfl⟩ | ⟨step, member, other, unadopted, rfl⟩
  · rw [State.takeShaft_adopting (s := { s with inSu := rest }) parsed step]
    rfl
  · rw [State.takeShaft_member (s := { s with inSu := rest }) parsed step member, if_neg, if_neg]
    · rfl
    · exact Bool.eq_false_iff.mp unadopted
    · exact Bool.eq_false_iff.mp other

/-- In LISTEN a frame that qualifies is noted. -/
theorem shaftCopy_listens (front : s.inSu = c :: rest) (kind : c.isKind .shaft = true)
    (parsed : parseShaft c.payload = some m) (step : s.su.step = .shaftIdle) (link : s.mc.link = .listen) :
    exec .shaftCopy s = .next { s with
      inSu := rest
      su := { s.su with
        heardQualifying := s.su.heardQualifying ||
          s.qualifies (parseHeader c.header).origin (parseHeader c.header).transit m } } := by
  have same : State.qualifies (parseHeader c.header).origin (parseHeader c.header).transit m { s with inSu := rest } =
      s.qualifies (parseHeader c.header).origin (parseHeader c.header).transit m := rfl
  rw [exec_shaftCopy front kind, State.takeShaft_listen (s := { s with inSu := rest }) parsed step link, same]
  cases s.qualifies (parseHeader c.header).origin (parseHeader c.header).transit m with
  | true => rw [Bool.or_true]; rfl
  | false => rw [Bool.or_false]; rfl

/-- Settles O22: a copy is measured, examined for adoption, noted or only taken, by the step state. -/
theorem shaftCopies : Obligations.ShaftCopies := by
  refine ⟨fun s => exec_shaftCopy_idle, fun s c rest => shaftCopy_taken, Su.ownBeat_cases,
    fun s c rest m h r z carried front kind parsed header measures slot present member launch offers => ?_,
    fun s c rest m h start free front kind parsed header examines launch => ?_,
    fun s c rest m h front kind parsed header step link => header ▸ shaftCopy_listens front kind parsed step link⟩
  · subst header
    have run := exec_shaftCopy_measures front kind parsed measures
    rw [show s.peerStart c.arrival (parseHeader c.header) = z from launch.symm] at run
    have files := State.measure_files (parseHeader c.header) z m { s with inSu := rest }
    have reported := State.measure_peer (s := { s with inSu := rest }) (z := z) (m := m) slot present member
    refine ⟨fun e one later fits => ?_, _, run, files.inSu, files.line, files.founder,
      fun own snap founder found transit near equal => ?_, fun x off founder fails => ?_, fun higher => ?_, fun lower => ?_⟩
    · rw [offers, one, List.filter_cons_of_pos (by exact later), List.filter_nil, List.foldl_cons, List.foldl_nil,
        Su.install_of_fits _ fits later]
    · rw [offers]
      exact State.measured_valid (s := { s with inSu := rest }) slot founder
        (State.judgeReport_valid (s := { s with inSu := rest }) found transit near equal) _ reported
    · rw [offers]
      exact State.measured_excluded (s := { s with inSu := rest }) slot founder
        (State.judgeReport_excluded (s := { s with inSu := rest }) fails) _ reported
    · exact State.measured_high (s := { s with inSu := rest }) slot higher _ reported
    · exact State.measured_low (s := { s with inSu := rest }) slot lower _ reported
  · subst header
    have run := exec_shaftCopy_examines front kind parsed examines
    rw [show s.peerStart c.arrival (parseHeader c.header) = start from launch.symm] at run
    refine ⟨fun no => ?_, fun qualifies ready => ⟨_, run, ?_⟩⟩
    · rw [run, State.examine_of_not (s := { s with inSu := rest }) no]
    · exact State.adopt_told start m { s with inSu := rest } _
        (State.examine_adopts (s := { s with inSu := rest }) qualifies ready)

end Sys2Proof.Machine
end

/-! The awaited configuration and the revolution check: why a step can leave an axis off the direct formula (R74, R115,
R191). -/

section
namespace Sys2Proof.Machine

/-! ## A configuration that waits with an axis failing the revolution check -/

/-- An axis of a third of a turn per line revolution: 2^24 is no multiple of 3, so it fails the revolution check (R74). -/
def unevenAxis : AxisCfg :=
  { n := 1, d := 3, m := 65536, catchUp := 1, window := 0, jogAccel := 1, jogDecel := 1, fastDecel := 1, maxSpeed := 1
    trimStep := 1, followLimit := 1, silentLimit := 1 }

/-- A configuration with that axis present. -/
def unevenCfg : Cfg :=
  { station := 1, shaftMember := false, speedAuthority := false, repeats := 32, required := 0, hopDelay := 0, laneMap := 0
    exclusion := 50000, lead := 4, maxSpeed := 0, normalRate := 1, fastRate := 1, causeMap := defaultCauseMap
    axes := ⟨some unevenAxis, none, none, none⟩, cams := Quad.rep none, screen := false }

/-- The last strip write in flight, let go of. -/
def lastStripWrite : Transfer :=
  { purpose := .stripWrite, unit := .camera 0, addr := 0, len := 0, segs := [], issued := 0, strip := none }

/-- No configuration is loaded, the one above waits for the last strip write, and that write is about to complete (R115). -/
def unevenWaits : State :=
  { State.reset with
    pending := [.stripWriteComplete 0 0 true], cu := { Cu.reset with draining := some unevenCfg }
    cmp := { Cmp.reset with dma := [lastStripWrite] } }

/-- The strip write has completed. -/
def unevenDrained : State := { unevenWaits with pending := [], cmp := Cmp.reset }

/-- With no configuration in force no axis is configured. -/
theorem State.geared_of_noCfg {s : State} (h : s.cfg = none) : s.geared := by
  intro i c configured
  rw [State.axisCfg, h] at configured
  cases configured

@[simp] theorem State.result_cfg (q : CmdQueue) (r : Result) (s : State) : (s.result q r).cfg = s.cfg := by
  rw [State.result_eq]

theorem unevenAxis_unchecked : 16777216 * unevenAxis.n % unevenAxis.d ≠ 0 := by decide

/-- With the last strip write the configuration that waits takes effect, whatever it holds (R115, R191). -/
theorem step_unevenWaits : step unevenWaits = .next ((unevenDrained.configure unevenCfg).result .normal .done) :=
  congrArg Host.Outcome.next (State.finishConfigure_of_last (s := unevenDrained) (c := unevenCfg) rfl rfl)

/-- Refutes O57: `State.geared` holds the revolution check of the configuration in force, and of the one that waits for strip
writes it says nothing; so a waiting configuration that fails the check takes effect in one step. -/
theorem not_gearsStayExact : ¬ Obligations.GearsStayExact := by
  intro kept
  have config := (unevenDrained.configure_configured unevenCfg).config.1
  have step := step_unevenWaits
  generalize unevenDrained.configure unevenCfg = u at config step
  have axis : (u.result .normal .done).axisCfg 0 = some unevenAxis := by
    rw [State.axisCfg, State.result_cfg, config]
    rfl
  obtain ⟨⟨-, whole, -⟩, -, -⟩ := kept unevenWaits _ (State.geared_of_noCfg rfl) step 0 unevenAxis axis
  exact unevenAxis_unchecked whole

end Sys2Proof.Machine
end

/-! The record of one axis, and the axis commands (R73, R77 to R86, R95). -/

section
namespace Sys2Proof.Machine

variable {s t : State}

/-! ## One axis changed -/

theorem State.onAxis_eq (i : Fin 4) (f : Axis → Axis) (s : State) :
    s.onAxis i f = { s with au := { s.au with axes := s.au.axes.set i (f (s.axis i)) } } := rfl

/-- The event of an axis's change of state touches the Command Port alone. -/
theorem State.axisEvent_eq (i : Fin 4) (p : AxisState) (r : AxisReason) (s : State) :
    s.axisEvent i p r = { s with cmp := (s.axisEvent i p r).cmp } := State.post_eq _ s

/-- An axis that changes its state changes its own record, and the Command Port by its event (R95). -/
theorem State.changeAxis_eq (i : Fin 4) (f : Axis → Axis) (r : AxisReason) (s : State) : s.changeAxis i f r =
    { s with
      au := { s.au with axes := s.au.axes.set i (f (s.axis i)) }, cmp := (s.changeAxis i f r).cmp } := by
  unfold State.changeAxis
  rw [State.axisEvent_eq, State.onAxis_eq]

@[simp] theorem State.changeAxis_axis (i : Fin 4) (f : Axis → Axis) (r : AxisReason) (s : State) :
    (s.changeAxis i f r).axis i = f (s.axis i) := by
  rw [State.changeAxis_eq]
  exact Quad.get_set_self ..

theorem State.changeAxis_axis_ne {i j : Fin 4} (h : j ≠ i) (f : Axis → Axis) (r : AxisReason) (s : State) :
    (s.changeAxis i f r).axis j = s.axis j := by
  rw [State.changeAxis_eq]
  exact Quad.get_set_ne _ h _

theorem State.changeAxis_q (i : Fin 4) (f : Axis → Axis) (r : AxisReason) (s : State) (q : CmdQueue) :
    (s.changeAxis i f r).cmp.q q = s.cmp.q q := State.post_q ..

/-- The event gives the state before, with the setpoint and the actual position after, which a change of state keeps (R95). -/
theorem State.changeAxis_posts (i : Fin 4) (f : Axis → Axis) (r : AxisReason) (s : State) :
    Posts (.axisChanged i (f (s.axis i)).state (s.axis i).state r (f (s.axis i)).setpoint
      (((f (s.axis i)).last.map (·.actual)).getD 0)) s (s.changeAxis i f r) := by
  have posted := State.post_posts
    ({ (s.onAxis i f).axis i with state := (s.axis i).state }.changed i ((s.onAxis i f).axis i).state r) (s.onAxis i f)
  rw [State.onAxis_axis] at posted
  exact posted.congr rfl (by simp only [State.changeAxis, State.axisEvent, State.onAxis_axis])

/-! ## The checks of every axis command (R73) -/

theorem fin4?_val (i : Fin 4) : fin4? i.val = some i := dif_pos i.isLt
theorem fin4?_beyond {n : Nat} (h : 4 ≤ n) : fin4? n = none := dif_neg (Nat.not_lt.mpr h)

theorem State.axisCommand_beyond {n : Nat} (h : 4 ≤ n) (f : Fin 4 → AxisCfg → State → State) (s : State) :
    s.axisCommand n f = s.result .urgent .refusedValue := by rw [State.axisCommand, fin4?_beyond h]

theorem State.axisCommand_absent {i : Fin 4} (h : s.axisCfg i = none ∨ (s.axis i).state = .disabled)
    (f : Fin 4 → AxisCfg → State → State) : s.axisCommand i.val f = s.result .urgent .refusedState := by
  unfold State.axisCommand
  rw [fin4?_val]
  dsimp only
  rcases h with none | disabled
  · rw [none]
  · cases s.axisCfg i with
    | none => rfl
    | some c => exact if_pos disabled

theorem State.axisCommand_present {i : Fin 4} {c : AxisCfg} (h : s.axisCfg i = some c) (on : (s.axis i).state ≠ .disabled)
    (f : Fin 4 → AxisCfg → State → State) : s.axisCommand i.val f = f i c s := by
  unfold State.axisCommand
  rw [fin4?_val]
  dsimp only
  rw [h]
  exact if_neg on

/-- What a command that leaves the command queues alone does is answered. -/
theorem State.result_answers {q : CmdQueue} {cmd : HostCmd} (h : s.taken q = some cmd) (same : t.cmp.q q = s.cmp.q q)
    (r : Result) : Answers q r 0 s (t.result q r) := by
  obtain ⟨f, flight, -, -⟩ := State.taken_inFlight h
  exact State.complete_answers_of_q r 0 flight same

/-- A refusal, or an answer to a command that changes nothing. -/
theorem answered_only (r : Result) (h : t = s.result .urgent r) :
    (Host.Outcome.next t : Answered) = .next { s with cmp := s.cmp.answered .urgent r 0 s.now } := by
  rw [h, State.result_eq]

/-! ## The commands, each with its checks in turn -/

section
variable {i : Fin 4} {c : AxisCfg}

theorem exec_enableAxis {n : Nat} (h : s.taken .urgent = some (.enableAxis n)) : exec .enableAxis s =
    .next (s.axisCommand n fun i _ s =>
      if s.mc.link = .leaving ∨ (s.axis i).state ≠ .torqueOff then s.result .urgent .refusedState
      else if s.pins.eStop ∨ s.torqueOffHeld then s.result .urgent .refusedTrip
      else if !(s.axis i).driveReady then s.result .urgent .refusedState
      else (s.enableAxis i).result .urgent .done) := by
  simp only [exec, execEnableAxis, h]

theorem exec_disableAxis {n : Nat} (h : s.taken .urgent = some (.disableAxis n)) : exec .disableAxis s =
    .next (s.axisCommand n fun i _ s => (s.enterTorqueOff .command i).result .urgent .done) := by
  simp only [exec, execDisableAxis, h]

theorem exec_coupleAxis {n phase : Nat} (h : s.taken .urgent = some (.coupleAxis n phase)) : exec .coupleAxis s =
    .next (s.axisCommand n fun i c s =>
      if (s.axis i).state ≠ .decoupled then s.result .urgent .refusedState
      else if c.m ≤ phase then s.result .urgent .refusedValue
      else if s.effectiveStop ≠ .none then s.result .urgent .refusedTrip
      else (s.changeAxis i (Axis.couple c phase s.su.comingAngle) .command).result .urgent .done) := by
  simp only [exec, execCoupleAxis, h]

theorem exec_decoupleAxis_beyond {n mode : Nat} (h : s.taken .urgent = some (.decoupleAxis n mode)) (beyond : 1 < mode) :
    exec .decoupleAxis s = .next (s.result .urgent .refusedValue) := by
  simp only [exec, execDecoupleAxis, h, if_pos beyond]

theorem exec_decoupleAxis {n mode : Nat} (h : s.taken .urgent = some (.decoupleAxis n mode)) (known : mode ≤ 1) :
    exec .decoupleAxis s = .next (s.axisCommand n fun i c s =>
      if !(s.axis i).state.onLine then s.result .urgent .refusedState
      else if mode = 0 then (s.changeAxis i (Axis.decouple c s.su.line.speed) .command).result .urgent .done
      else (s.onAxis i fun a => { a with decouplePending := true }).result .urgent .done) := by
  simp only [exec, execDecoupleAxis, h, if_neg (Nat.not_lt.mpr known)]

theorem exec_jogAxis {n target : Nat} (h : s.taken .urgent = some (.jogAxis n target)) : exec .jogAxis s =
    .next (s.axisCommand n fun i c s =>
      if (s.axis i).state ≠ .decoupled then s.result .urgent .refusedState
      else if 0 < target ∧ s.effectiveStop ≠ .none then s.result .urgent .refusedTrip
      else (s.onAxis i fun a => { a with jogTarget := min target c.maxSpeed }).result .urgent
        (if c.maxSpeed < target then .clamped else .done)) := by
  simp only [exec, execJogAxis, h]

theorem exec_trimAxis {n : Nat} {amount : Int} (h : s.taken .urgent = some (.trimAxis n amount)) : exec .trimAxis s =
    .next (s.axisCommand n fun i _ s =>
      if (s.axis i).state ≠ .coupled then s.result .urgent .refusedState
      else (s.onAxis i (Axis.addTrim amount)).result .urgent (if (s.axis i).trimLost amount then .clamped else .done)) := by
  simp only [exec, execTrimAxis, h]

/-- Each of the six commands goes through the checks of R73. -/
theorem exec_axisCommand {j : Instr} {cmd : HostCmd} {n : Nat} (h : s.taken .urgent = some cmd)
    (which : (j = .enableAxis ∧ cmd = .enableAxis n) ∨ (j = .disableAxis ∧ cmd = .disableAxis n) ∨
      (j = .coupleAxis ∧ ∃ p, cmd = .coupleAxis n p) ∨ (j = .decoupleAxis ∧ ∃ m, m ≤ 1 ∧ cmd = .decoupleAxis n m) ∨
      (j = .jogAxis ∧ ∃ v, cmd = .jogAxis n v) ∨ (j = .trimAxis ∧ ∃ v, cmd = .trimAxis n v)) :
    ∃ f, exec j s = .next (s.axisCommand n f) := by
  rcases which with ⟨rfl, rfl⟩ | ⟨rfl, rfl⟩ | ⟨rfl, _, rfl⟩ | ⟨rfl, _, known, rfl⟩ | ⟨rfl, _, rfl⟩ | ⟨rfl, _, rfl⟩
  · exact ⟨_, exec_enableAxis h⟩
  · exact ⟨_, exec_disableAxis h⟩
  · exact ⟨_, exec_coupleAxis h⟩
  · exact ⟨_, exec_decoupleAxis h known⟩
  · exact ⟨_, exec_jogAxis h⟩
  · exact ⟨_, exec_trimAxis h⟩

end

/-- Settles O29: the two refusals are those of `State.axisCommand`, through which each of the commands goes. -/
theorem axisNumbers : Obligations.AxisNumbers := by
  intro s j cmd n taken which
  obtain ⟨f, run⟩ := exec_axisCommand taken which
  refine ⟨fun beyond => ?_, ?_⟩
  · rw [run]
    exact answered_only _ (State.axisCommand_beyond beyond f s)
  · rintro k rfl absent
    rw [run]
    exact answered_only _ (State.axisCommand_absent absent f)

/-! ## ENABLE AXIS and DISABLE AXIS (R77, R78) -/

section
variable {i : Fin 4} {c : AxisCfg}

theorem Axis.driveReady_of {a : Axis} {x : Answer} (answered : a.answered = true) (last : a.last = some x)
    (ready : x.ready = true) (sound : x.fault = false) : a.driveReady = true := by
  simp [Axis.driveReady, answered, last, ready, sound]

/-- An enabled axis takes its new record, no other does, and its three causes are false. -/
theorem State.enableAxis_axis (i : Fin 4) (s : State) : (s.enableAxis i).axis i = (s.axis i).enable ∧
    ∀ j, j ≠ i → (s.enableAxis i).axis j = s.axis j := by
  have axes : (s.enableAxis i).au.axes = (s.changeAxis i Axis.enable .command).au.axes :=
    ((State.reportFalse_keeps ..).1.trans (State.reportFalse_keeps ..).1).trans (State.reportFalse_keeps ..).1
  have axis (j : Fin 4) : (s.enableAxis i).axis j = (s.changeAxis i Axis.enable .command).axis j :=
    congrArg (Quad.get · j) axes
  exact ⟨(axis i).trans (State.changeAxis_axis ..), fun j h => (axis j).trans (State.changeAxis_axis_ne h ..)⟩

/-- Beside its record, enabling an axis does what reports of causes do. -/
theorem State.enableAxis_reported (i : Fin 4) (s : State) :
    (s.changeAxis i Axis.enable .command).Reported (s.enableAxis i) :=
  ((State.reportFalse_reported ..).trans (State.reportFalse_reported ..)).trans (State.reportFalse_reported ..)

theorem State.enableAxis_keeps (i : Fin 4) (s : State) : (s.enableAxis i).su = s.su ∧ (s.enableAxis i).mc = s.mc ∧
    (s.enableAxis i).pins = s.pins ∧ (s.enableAxis i).cmp.q .urgent = s.cmp.q .urgent := by
  have told := State.enableAxis_reported i s
  have su : (s.enableAxis i).su = (s.changeAxis i Axis.enable .command).su := by simp [State.enableAxis]
  have changed := State.changeAxis_eq i Axis.enable .command s
  exact ⟨su.trans (congrArg State.su changed :), told.mc_eq.trans (congrArg State.mc changed :),
    told.pins_eq.trans (congrArg State.pins changed :), (told.q_eq .urgent).trans (State.changeAxis_q ..)⟩

theorem State.enableAxis_causeTrue (i : Fin 4) (k d : Nat) (s : State) : (s.enableAxis i).causeTrue k d =
    (s.causeTrue k d && !((k == 13 || k == 14 || k == 15) && d == i.val)) := by
  have changed : (s.changeAxis i Axis.enable .command).causeTrue k d = s.causeTrue k d := by
    rw [State.changeAxis_eq]
    rfl
  simp only [State.enableAxis, State.reportFalse_causeTrue, changed, Bool.and_assoc]
  grind

theorem State.enterTorqueOff_of_on {r : AxisReason} (on : (s.axis i).state.energised = true) :
    s.enterTorqueOff r i = s.changeAxis i Axis.toTorqueOff r := if_pos on

theorem State.enterTorqueOff_of_off {r : AxisReason} (off : (s.axis i).state.energised = false) :
    s.enterTorqueOff r i = s := if_neg (Bool.eq_false_iff.mp off)

end

/-- Settles O26: the refusals of ENABLE AXIS come in the order of its checks, and DISABLE AXIS takes torque where there is
any. -/
theorem torqueCommands : Obligations.TorqueCommands := by
  constructor
  · intro s i c taken present on
    have run := (exec_enableAxis taken).trans (congrArg _ (State.axisCommand_present present on _))
    refine ⟨fun out => ?_, fun here off held => ?_, fun here off released free unready => ?_,
      fun x here off released free answered last ready sound => ?_⟩
    · exact run.trans (answered_only _ (if_pos out))
    · refine run.trans (answered_only _ ?_)
      rw [if_neg (by simp [here, off]), if_pos held]
    · refine run.trans (answered_only _ ?_)
      rw [if_neg (by simp [here, off]), if_neg (by simp [released, free]), if_pos (by simp [unready])]
    · have good := Axis.driveReady_of answered last ready sound
      rw [if_neg (by simp [here, off]), if_neg (by simp [released, free]), if_neg (by simp [good])] at run
      obtain ⟨su, mc, pins, queue⟩ := State.enableAxis_keeps i s
      obtain ⟨own, other⟩ := State.enableAxis_axis i s
      have causes := fun k d => State.enableAxis_causeTrue i k d s
      have replied := State.result_answers taken queue .done
      generalize s.enableAxis i = u at *
      rw [State.result_eq] at run replied
      refine ⟨_, run, replied, su, mc, ?_, other, ?_, causes⟩
      · refine own.trans ?_
        simp [Axis.enable, last]
      · have energised : (u.axis i).state.energised = true := by
          rw [own]
          rfl
        simp only [State.axis] at energised
        simp only [State.torqueOffOut, pins, released, energised, Bool.not_true, Bool.or_false]
  · intro s i c taken present on
    have run := (exec_disableAxis taken).trans (congrArg _ (State.axisCommand_present present on _))
    refine ⟨_, run, State.result_answers taken ?_ .done, fun energised => ?_, fun off => ?_⟩
    · exact (State.enterTorqueOff_reported ..).q_eq _
    · rw [State.enterTorqueOff_of_on energised]
      have posted := State.changeAxis_posts i Axis.toTorqueOff .command s
      have changed := State.changeAxis_eq i Axis.toTorqueOff .command s
      generalize s.changeAxis i Axis.toTorqueOff .command = u at *
      rw [State.result_eq]
      obtain ⟨event, lost⟩ := Cmp.answered_event .urgent .done 0 u.now u.cmp
      exact ⟨by rw [changed]; rfl, posted.of_event rfl event lost⟩
    · rw [State.enterTorqueOff_of_off off, State.result_eq]

/-! ## COUPLE AXIS, DECOUPLE AXIS and JOG AXIS (R79, R80, R83) -/

/-- An axis that changes its state on command: DONE, its own record, and the event alone. -/
theorem State.changeAxis_done {q : CmdQueue} {cmd : HostCmd} (taken : s.taken q = some cmd) (i : Fin 4) (f : Axis → Axis)
    (r : AxisReason) : ∃ u, (s.changeAxis i f r).result q .done = u ∧ Answers q .done 0 s u ∧
      u = { s with cmp := u.cmp, au := { s.au with axes := s.au.axes.set i (f (s.axis i)) } } ∧
      Posts (.axisChanged i (f (s.axis i)).state (s.axis i).state r (f (s.axis i)).setpoint
        (((f (s.axis i)).last.map (·.actual)).getD 0)) s u := by
  have replied := State.result_answers taken (State.changeAxis_q i f r s q) .done
  have posted := State.changeAxis_posts i f r s
  have changed := State.changeAxis_eq i f r s
  generalize s.changeAxis i f r = u at *
  refine ⟨_, rfl, replied, ?_, ?_⟩
  · rw [State.result_eq, changed]
  · obtain ⟨event, lost⟩ := Cmp.answered_event q .done 0 u.now u.cmp
    rw [State.result_eq]
    exact posted.of_event rfl event lost

/-- Settles O27: the refusals come in the order of the checks; an axis that changes its state does so with its event. -/
theorem lineCommands : Obligations.LineCommands := by
  refine ⟨fun s i c phase taken present on => ?couple, fun s i c mode taken present on => ?decouple,
    fun s i c target taken present on => ?jog⟩
  case couple =>
    have run := (exec_coupleAxis taken).trans (congrArg _ (State.axisCommand_present present on _))
    refine ⟨fun elsewhere => ?_, fun off far => ?_, fun off near stop => ?_, fun off near free => ?_⟩
    · exact run.trans (answered_only _ (if_pos elsewhere))
    · refine run.trans (answered_only _ ?_)
      rw [if_neg (not_not.mpr off), if_pos far]
    · refine run.trans (answered_only _ ?_)
      rw [if_neg (not_not.mpr off), if_neg (Nat.not_le.mpr near), if_pos stop]
    · rw [if_neg (not_not.mpr off), if_neg (Nat.not_le.mpr near), if_neg (not_not.mpr free)] at run
      obtain ⟨u, eq, replied, changed, posted⟩ :=
        State.changeAxis_done taken i (Axis.couple c phase s.su.comingAngle) .command
      rw [off] at posted
      exact ⟨u, run.trans (congrArg _ eq), replied, changed, posted⟩
  case decouple =>
    refine ⟨fun beyond => ?_, fun known off => ?_, ?_, ?_⟩
    · exact (exec_decoupleAxis_beyond taken beyond).trans (answered_only _ rfl)
    · refine ((exec_decoupleAxis taken known).trans (congrArg _ (State.axisCommand_present present on _))).trans
        (answered_only _ ?_)
      rw [if_pos (by simp [off])]
    · rintro rfl line
      have run := (exec_decoupleAxis taken (Nat.zero_le 1)).trans (congrArg _ (State.axisCommand_present present on _))
      rw [if_neg (by simp [line]), if_pos rfl] at run
      obtain ⟨u, eq, replied, changed, posted⟩ :=
        State.changeAxis_done taken i (Axis.decouple c s.su.line.speed) .command
      exact ⟨u, run.trans (congrArg _ eq), replied, changed, posted⟩
    · rintro rfl line
      have run := (exec_decoupleAxis taken (Nat.le_refl 1)).trans (congrArg _ (State.axisCommand_present present on _))
      rw [if_neg (by simp [line]), if_neg (by decide), State.result_eq] at run
      exact run
  case jog =>
    have run := (exec_jogAxis taken).trans (congrArg _ (State.axisCommand_present present on _))
    refine ⟨fun elsewhere => ?_, fun off moves stop => ?_, fun off free => ?_⟩
    · exact run.trans (answered_only _ (if_pos elsewhere))
    · refine run.trans (answered_only _ ?_)
      rw [if_neg (not_not.mpr off), if_pos ⟨moves, stop⟩]
    · have goes : ¬(0 < target ∧ s.effectiveStop ≠ .none) := by
        rintro ⟨moves, stop⟩
        exact free.elim (fun zero => by omega) stop
      rw [if_neg (not_not.mpr off), if_neg goes, State.result_eq] at run
      exact run

/-! ## Correction copies and TRIM AXIS (R85, R86) -/

/-- The nearest whole number, halves away from zero (R85). -/
theorem roundHalfAway_nearest (x : Int) {y : Nat} (pos : 1 ≤ y) :
    2 * (x - roundHalfAway x y * y).natAbs ≤ y ∧
      (2 * (x - roundHalfAway x y * y).natAbs = y → x.natAbs < (roundHalfAway x y * y).natAbs) := by
  have low := Nat.div_mul_le_self (2 * x.natAbs + y) (2 * y)
  have high := Nat.lt_div_mul_add (a := 2 * x.natAbs + y) (b := 2 * y) (by omega)
  unfold roundHalfAway
  generalize (2 * x.natAbs + y) / (2 * y) = q at low high
  rw [show q * (2 * y) = 2 * (q * y) by ring] at low high
  have cast : (q : Int) * y = (q * y : Nat) := (Nat.cast_mul q y).symm
  generalize q * y = p at low high cast
  dsimp only
  split
  · rw [Int.neg_mul, cast]
    omega
  · rw [cast]
    omega

theorem exec_correctionCopy {c : Copy} {rest : List Copy} {n : Nat} {e : Int} (front : s.inAu = c :: rest)
    (read : parseCorrection c.payload = some (n, e)) :
    exec .correctionCopy s = .next (State.takeCorrection n e { s with inAu := rest }) := by
  simp only [exec, execCorrectionCopy, front, read]

theorem State.takeCorrection_coupled {i : Fin 4} {k : AxisCfg} {e : Int} (present : s.axisCfg i = some k)
    (line : (s.axis i).state = .coupled) : s.takeCorrection i.val e = s.onAxis i (Axis.addTrim (trimOf k e)) := by
  unfold State.takeCorrection
  rw [fin4?_val]
  dsimp only
  rw [present]
  exact if_pos line

/-- A correction for an axis that is not COUPLED, not present, or of no number is discarded and counted. -/
theorem State.takeCorrection_other {n : Nat} {e : Int}
    (h : 4 ≤ n ∨ ∃ i : Fin 4, i.val = n ∧ (s.axisCfg i = none ∨ (s.axis i).state ≠ .coupled)) :
    s.takeCorrection n e = s.discardCorrection := by
  unfold State.takeCorrection
  rcases h with beyond | ⟨i, rfl, elsewhere⟩
  · rw [fin4?_beyond beyond]
  · rw [fin4?_val]
    dsimp only
    split
    · next k present => exact if_neg (elsewhere.resolve_left (by simp [present]))
    · rfl

/-- Nothing of an amount is lost when the sum lies within the limit. -/
theorem Axis.trimLost_eq (amount : Int) (a : Axis) : (if a.trimLost amount then Result.clamped else Result.done) =
    if -1048576 ≤ a.trimPending + amount ∧ a.trimPending + amount ≤ 1048576 then .done else .clamped := by
  simp only [Axis.trimLost, clampTo, trimLimit, bne_iff_ne]
  by_cases within : -1048576 ≤ a.trimPending + amount ∧ a.trimPending + amount ≤ 1048576
  · rw [if_pos within, if_neg (by omega)]
  · rw [if_neg within, if_pos (by omega)]

/-- Settles O28: the five outcomes are those of the branches of the two steps; the correction is rounded as R85 says. -/
theorem trims : Obligations.Trims := by
  refine ⟨fun s none => ?_, fun s c rest front unread => ?_, fun s c rest i k e front read present line => ?_,
    fun s c rest n e front read elsewhere => ?_, fun s i c amount taken present on => ?_⟩
  · simp only [exec, execCorrectionCopy, none]
  · simp only [exec, execCorrectionCopy, front, unread]
  · refine ⟨trimOf k e, ?_, fun pos => ?_⟩
    · rw [exec_correctionCopy front read, State.takeCorrection_coupled (s := { s with inAu := rest }) present line]
      rfl
    · have nearest := roundHalfAway_nearest (e * k.n) (y := 256 * k.d) (by omega)
      exact_mod_cast nearest
  · rw [exec_correctionCopy front read, State.takeCorrection_other (s := { s with inAu := rest }) elsewhere]
    rfl
  · have run := (exec_trimAxis taken).trans (congrArg _ (State.axisCommand_present present on _))
    refine ⟨fun elsewhere => ?_, fun line => ?_⟩
    · exact run.trans (answered_only _ (if_pos elsewhere))
    · rw [if_neg (not_not.mpr line), State.result_eq] at run
      rw [run, Axis.trimLost_eq]
      rfl

end Sys2Proof.Machine
end

/-! What a raise makes of the trip table and of the Shaft Unit; the Ring Port after a report depends on no input, axis, time or
event; and the steps of the cabinet's inputs (R90, R134, R136, R140, R146, R148). -/

section
namespace Sys2Proof.Machine

variable {s t : State}

/-! ## What a raise leaves (R140, R146) -/

/-- The trip table after a raise. -/
def Tu.raised (r : Raise) (beat : Nat) (u : Tu) : List TripEntry :=
  match u.entry r.key with
  | none => (u.enlist (r.entry beat)).table
  | some _ => (u.onEntry r.key (TripEntry.reraise r)).table

/-- The Shaft Unit after a raise's STOP entry, and whether the entry became late. -/
def Su.raised (r : Raise) (maxSpeed : Nat) (u : Su) : Su × Bool :=
  match r.lineStop with
  | some fast =>
    u.install maxSpeed (r.founder != u.founder || u.founder == 0) (.stop r.key.origin r.key.cause r.key.detail fast r.beat)
  | none => (u, false)

theorem State.raiseEffects_stop (r : Raise) (s : State) :
    ((s.raiseEffects r).1.su, (s.raiseEffects r).2) = s.su.raised r s.maxSpeed := by
  have held : (if r.category = .torqueOff then s.torqueOffAll .torqueOff else s).su = s.su ∧
      (if r.category = .torqueOff then s.torqueOffAll .torqueOff else s).maxSpeed = s.maxSpeed := by
    split
    · have cfg := (State.torqueOffAll_reported .torqueOff s).cfg_eq
      exact ⟨State.torqueOffAll_su .., by rw [State.maxSpeed, cfg]; rfl⟩
    · exact ⟨rfl, rfl⟩
  unfold State.raiseEffects Su.raised
  generalize (if r.category = .torqueOff then s.torqueOffAll .torqueOff else s) = x at held
  obtain ⟨su, speed⟩ := held
  cases r.lineStop with
  | none => exact congrArg (·, false) su
  | some fast =>
    dsimp only [State.submitStop, State.updateLocalStop, State.onAu]
    rw [su, speed]

theorem Tu.enlist_congr (e : TripEntry) {u v : Tu} (h : u.table = v.table) : (u.enlist e).table = (v.enlist e).table := by
  unfold Tu.enlist
  rw [h]
  split <;> rfl

theorem Tu.raised_new {r : Raise} {u : Tu} (h : u.entry r.key = none) (beat : Nat) :
    u.raised r beat = (u.enlist (r.entry beat)).table := by rw [Tu.raised, h]

theorem Tu.raised_known {r : Raise} {u : Tu} {e : TripEntry} (h : u.entry r.key = some e) (beat : Nat) :
    u.raised r beat = (u.onEntry r.key (TripEntry.reraise r)).table := by rw [Tu.raised, h]

theorem Tu.offerSource_table (r : Raise) (u : Tu) : (u.offerSource r).table = u.table := by
  unfold Tu.offerSource
  split <;> rfl

theorem State.offerFirstTrip_keeps (r : Raise) (s : State) :
    (s.offerFirstTrip r).tu.table = s.tu.table ∧ (s.offerFirstTrip r).su = s.su := by
  refine ⟨?_, rfl⟩
  rw [State.offerFirstTrip, State.onTu_tu]
  split <;> rfl

/-- A raise changes the trip table and the Shaft Unit as its key and its line stop say. -/
theorem State.raise_spec (r : Raise) (s : State) : (s.raise r).1.tu.table = s.tu.raised r s.su.beat ∧
    ((s.raise r).1.su, (s.raise r).2) = s.su.raised r s.maxSpeed := by
  unfold State.raise
  split
  · next new =>
    rw [Tu.raised_new new]
    have stop := State.raiseEffects_stop r (s.onTu fun u => u.enlist (r.entry s.su.beat))
    have tu := State.raiseEffects_tu r (s.onTu fun u => u.enlist (r.entry s.su.beat))
    dsimp only
    generalize (s.onTu fun u => u.enlist (r.entry s.su.beat)).raiseEffects r = p at stop tu
    obtain ⟨table, su⟩ := State.offerFirstTrip_keeps r p.1
    rw [State.markChange_table, State.markChange_su, State.onTu_tu, Tu.offerSource_table, table, tu, State.onTu_su, su]
    exact ⟨rfl, stop⟩
  · next e known =>
    rw [Tu.raised_known known]
    have stop := State.raiseEffects_stop r (s.onTu fun u => u.onEntry r.key (TripEntry.reraise r))
    have tu := State.raiseEffects_tu r (s.onTu fun u => u.onEntry r.key (TripEntry.reraise r))
    dsimp only
    generalize (s.onTu fun u => u.onEntry r.key (TripEntry.reraise r)).raiseEffects r = p at stop tu
    split
    · exact ⟨by rw [tu]; rfl, stop⟩
    · rw [State.markChange_table, State.markChange_su, tu]
      exact ⟨rfl, stop⟩

theorem State.raise_table (r : Raise) (s : State) : (s.raise r).1.tu.table = s.tu.raised r s.su.beat :=
  (State.raise_spec r s).1

/-! ## States alike to a report (R148) -/

/-- Two states are alike in all that a report of a cause reads to offer its frames: they may differ in the inputs, the axes, the
time, the events and the notice. -/
structure State.Alike (s t : State) : Prop where
  rp : t.rp = s.rp
  mc : t.mc = s.mc
  cfg : t.cfg = s.cfg
  su : t.su = s.su
  table : t.tu.table = s.tu.table
  causes : t.tu.causes = s.tu.causes

theorem State.Alike.onTu (h : s.Alike t) {f g : Tu → Tu} (table : (g t.tu).table = (f s.tu).table)
    (causes : (g t.tu).causes = (f s.tu).causes) : (s.onTu f).Alike (t.onTu g) :=
  ⟨h.rp, h.mc, h.cfg, h.su, table, causes⟩

theorem State.Alike.raise (h : s.Alike t) (r : Raise) :
    (s.raise r).1.Alike (t.raise r).1 ∧ (t.raise r).2 = (s.raise r).2 := by
  have entry : t.tu.raised r t.su.beat = s.tu.raised r s.su.beat := by
    rw [h.su]
    unfold Tu.raised Tu.entry Tu.onEntry
    rw [h.table, Tu.enlist_congr _ h.table]
  have speed : t.maxSpeed = s.maxSpeed := by rw [State.maxSpeed, h.cfg]; rfl
  obtain ⟨table, stop⟩ := State.raise_spec r s
  obtain ⟨table', stop'⟩ := State.raise_spec r t
  rw [h.su, speed, ← stop, Prod.mk.injEq] at stop'
  obtain ⟨su, late⟩ := stop'
  have told := State.raise_reported r s
  have told' := State.raise_reported r t
  exact ⟨⟨by rw [State.raise_rp, State.raise_rp, h.rp], by rw [told.mc_eq, told'.mc_eq, h.mc],
    by rw [told.cfg_eq, told'.cfg_eq, h.cfg], su, by rw [table, table', entry],
    by rw [State.raise_causes, State.raise_causes, h.causes]⟩, late⟩

theorem State.Alike.offer (h : s.Alike t) (f : LaneFrame) : (s.offer f).Alike (t.offer f) := by
  have rp := State.offer_rp_congr h.rp (congrArg Mc.link h.mc) h.cfg f
  rw [State.offer_eq f s, State.offer_eq f t]
  exact ⟨rp, h.mc, h.cfg, h.su, h.table, h.causes⟩

theorem State.Alike.ownRaise (h : s.Alike t) (c d : Nat) : t.ownRaise c d = s.ownRaise c d := by
  simp only [State.ownRaise, State.tripFrame, State.causeEntry, State.ownStation, h.cfg, h.su]

theorem State.Alike.causeTrue (h : s.Alike t) (c d : Nat) : t.causeTrue c d = s.causeTrue c d := by
  rw [State.causeTrue, h.causes]
  rfl

theorem State.Alike.causeOn (h : s.Alike t) (c d : Nat) :
    (s.causeOn c d).1.Alike (t.causeOn c d).1 ∧ (t.causeOn c d).2 = (s.causeOn c d).2 := by
  have masked : t.unmasked c = s.unmasked c := by rw [State.unmasked, State.causeEntry_congr h.cfg]; rfl
  unfold State.causeOn
  rw [h.ownRaise, masked]
  dsimp only
  generalize (⟨c, d, _, _⟩ : OwnCause) = x
  have listed : (s.onTu fun u => { u with causes := insertCause x u.causes }).Alike
      (t.onTu fun u => { u with causes := insertCause x u.causes }) := h.onTu h.table (by rw [h.causes])
  split
  · exact ⟨listed, rfl⟩
  · obtain ⟨raised, late⟩ := listed.raise (s.ownRaise c d)
    refine ⟨?_, late⟩
    have sends : ((t.onTu fun u => { u with causes := insertCause x u.causes }).raise (s.ownRaise c d)).1.sendsTrips c =
        ((s.onTu fun u => { u with causes := insertCause x u.causes }).raise (s.ownRaise c d)).1.sendsTrips c := by
      rw [State.sendsTrips, raised.mc, State.causeEntry_congr raised.cfg]
      rfl
    rw [sends, State.tripFrame_congr listed.cfg]
    split
    · exact raised.offer _
    · exact raised

theorem State.Alike.reportLate (h : s.Alike t) (late : Bool) : (s.reportLate late).Alike (t.reportLate late) := by
  unfold State.reportLate
  rw [h.causeTrue]
  split
  · exact (h.causeOn 12 0).1
  · exact h

theorem State.Alike.reportTrue (h : s.Alike t) (c d : Nat) : (s.reportTrue c d).Alike (t.reportTrue c d) := by
  unfold State.reportTrue
  rw [h.causeTrue]
  split
  · exact h
  · obtain ⟨on, late⟩ := h.causeOn c d
    dsimp only
    rw [late]
    exact on.reportLate _

theorem State.Alike.reportFalse_rp (h : s.Alike t) (c d : Nat) : (t.reportFalse c d).rp = (s.reportFalse c d).rp := by
  cases member : s.mc.link.isMember with
  | false => rw [State.reportFalse_rp_out (by rw [h.mc]; exact member), State.reportFalse_rp_out member, h.rp]
  | true =>
    have frames : t.clearFrames c d = s.clearFrames c d := by
      rw [State.clearFrames, State.unmasked, State.causeEntry_congr h.cfg, h.causes]
      simp only [State.tripFrame_congr h.cfg]
      rfl
    rw [State.reportFalse_rp (by rw [h.mc]; exact member), State.reportFalse_rp member, frames]
    exact State.offers_rp_congr h.rp (congrArg Mc.link h.mc) h.cfg _

/-- The Ring Port after a report is the same from states that are alike. -/
theorem State.Alike.report_rp (h : s.Alike t) (c d : Nat) (b : Bool) : (t.report c d b).rp = (s.report c d b).rp := by
  cases b with
  | true => exact (h.reportTrue c d).rp
  | false => exact h.reportFalse_rp c d

/-- The inputs and the time do not matter to a report. -/
theorem State.Alike.withPins (t : Nat) (f : Pins → Pins) (s : State) : s.Alike ((s.atTime t).onPins f) :=
  ⟨rfl, rfl, rfl, rfl, rfl, rfl⟩

/-- Nor does the torque of the axes. -/
theorem State.Alike.torqueOffAll (h : s.Alike t) (r : AxisReason) : s.Alike (t.torqueOffAll r) := by
  have told := State.torqueOffAll_reported r t
  exact ⟨by rw [State.torqueOffAll_rp, h.rp], by rw [told.mc_eq, h.mc], by rw [told.cfg_eq, h.cfg],
    by rw [State.torqueOffAll_su, h.su], by rw [State.torqueOffAll_tu, h.table], by rw [State.torqueOffAll_tu, h.causes]⟩

/-! ## The frames of a cause (R148, R150) -/

/-- A cause that is Masked or of Local scope is not sent. -/
theorem State.not_sends_iff (c : Nat) (s : State) :
    ¬s.Sends c ↔ (s.causeEntry c).1 = .masked ∨ (s.causeEntry c).2 = .here := by
  have scope : (s.causeEntry c).2 ≠ .ring ↔ (s.causeEntry c).2 = .here := by
    cases (s.causeEntry c).2 <;> simp
  rw [State.Sends, not_and_or, not_not, ← ne_eq, scope]

/-- A cause that becomes true offers its own frame, where lateness is not reported with it, is not sent, or is the cause. -/
theorem State.reportTrue_frame {c d : Nat} (member : s.mc.link.isMember = true) (fresh : s.causeTrue c d = false)
    (late : (c = 12 ∧ d = 0) ∨ s.LateUnsent (s.reportTrue c d)) :
    (¬s.Sends c → (s.reportTrue c d).rp = s.rp) ∧
      (s.Sends c → (s.reportTrue c d).rp = (s.offer (s.raiseFrame c d)).rp) := by
  rcases late with ⟨rfl, rfl⟩ | unsent
  · have run : s.reportTrue 12 0 = (s.causeOn 12 0).1 := by
      have on : (s.causeOn 12 0).1.causeTrue 12 0 = true := by rw [State.causeOn_true]; simp
      rw [State.reportTrue, fresh, if_neg (by decide), State.reportLate, on]
      simp
    obtain ⟨sent, silent⟩ := State.causeOn_rp member 12 0
    rw [run]
    exact ⟨silent, sent⟩
  · rw [State.reportTrue_rp member unsent, State.raiseFrames]
    refine ⟨fun silent => ?_, fun sends => ?_⟩
    · rw [if_neg fun k => silent ⟨k.1, k.2.1⟩]
      rfl
    · rw [if_pos ⟨sends.1, sends.2, fresh⟩]
      rfl

theorem State.reportFalse_frame {c d : Nat} {x : OwnCause}
    (found : s.tu.causes.find? (fun y => y.cause == c && y.detail == d) = some x) :
    (s.mc.link.isMember = false ∨ ¬s.Sends c → (s.reportFalse c d).rp = s.rp) ∧
      (s.mc.link.isMember = true → s.Sends c →
        (s.reportFalse c d).rp = (s.offer (s.tripFrame .clear c d x.beat x.founder)).rp) := by
  have unmasked : s.unmasked c = true ∧ (s.causeEntry c).2 = .ring ↔ s.Sends c := by
    simp [State.unmasked, State.Sends]
  cases member : s.mc.link.isMember with
  | false => exact ⟨fun _ => State.reportFalse_rp_out member c d, fun h => by cases h⟩
  | true =>
    rw [State.reportFalse_rp member, State.clearFrames, found]
    refine ⟨fun silent => ?_, fun _ sends => ?_⟩
    · rw [if_neg (unmasked.not.mpr (silent.resolve_left (by decide)))]
      rfl
    · rw [if_pos (unmasked.mpr sends)]
      rfl

/-! ## The steps of the inputs (R90, R136) -/

theorem State.report_true (c d : Nat) (b : Bool) (s : State) : (s.report c d b).causeTrue c d = b := by
  cases b with
  | true => exact State.reportTrue_true c d s
  | false => exact (State.reportFalse_causeTrue c d c d s).trans (by simp)

theorem Pins.setTrip_trip (p : Pins) (input : TripInput) (b : Bool) : (p.setTrip input b).trip input = b := by
  cases input with
  | guard => rfl
  | ext n => exact Quad.get_set_self ..

/-- An input taken and its cause reported (R136). -/
theorem State.inputReported (t : Nat) (f : Pins → Pins) (c : Nat) (b : Bool) (s : State) :
    ((s.atTime t).onPins f).Reported (((s.atTime t).onPins f).report c 0 b) ∧
      (((s.atTime t).onPins f).report c 0 b).pins = f s.pins ∧
      (((s.atTime t).onPins f).report c 0 b).causeTrue c 0 = b ∧
      (((s.atTime t).onPins f).report c 0 b).rp = (s.report c 0 b).rp :=
  have told := State.report_reported c 0 b ((s.atTime t).onPins f)
  ⟨told, told.pins_eq, State.report_true .., (State.Alike.withPins t f s).report_rp c 0 b⟩

/-- The e-stop input pressed, before its effects. -/
def State.eStopPressed (t : Nat) (s : State) : State := (s.atTime t).onPins fun p => { p with eStop := true }

/-- The e-stop asserted: every axis loses torque, and cause 0 is reported (R90). -/
theorem eStopAsserted_takes (t : Nat) (h : s.pins.eStop = false) : ∃ u, exec (.eStopAsserted t) s = .next u ∧
    (s.eStopPressed t).Reported u ∧ u.causeTrue 0 0 = true ∧
    u.rp = (s.report 0 0 true).rp ∧ ∀ i, (u.axis i).state.energised = false ∧ u.torqueOffOut i = true := by
  have run : exec (.eStopAsserted t) s = .next (((s.eStopPressed t).torqueOffAll .eStop).reportTrue 0 0) :=
    congrArg Host.Outcome.next (if_neg (by simp [h]))
  have told := State.reportTrue_reported 0 0 ((s.eStopPressed t).torqueOffAll .eStop)
  have all := (State.torqueOffAll_reported .eStop (s.eStopPressed t)).trans told
  have alike : s.Alike ((s.eStopPressed t).torqueOffAll .eStop) := (State.Alike.withPins t _ s).torqueOffAll .eStop
  refine ⟨_, run, all, State.reportTrue_true .., (alike.reportTrue 0 0).rp,
    fun i => ⟨told.off (State.torqueOffAll_off ..), ?_⟩⟩
  rw [State.torqueOffOut, all.pins_eq]
  rfl

/-- The e-stop released: cause 0 becomes false, and no axis moves (R90). -/
theorem eStopReleased_takes (t : Nat) (h : s.pins.eStop = true) : ∃ u, exec (.eStopReleased t) s = .next u ∧
    ({ s.atTime t with pins := { s.pins with eStop := false } } : State).Reported u ∧ u.au.axes = s.au.axes ∧
    u.su = s.su ∧ u.rp = (s.report 0 0 false).rp ∧ ∀ c d, u.causeTrue c d = (s.causeTrue c d && !(c == 0 && d == 0)) := by
  have run : exec (.eStopReleased t) s =
      .next (((s.atTime t).onPins fun p => { p with eStop := false }).reportFalse 0 0) :=
    congrArg Host.Outcome.next (if_pos h)
  exact ⟨_, run, State.reportFalse_reported .., (State.reportFalse_keeps ..).1, State.reportFalse_su ..,
    (State.Alike.withPins t _ s).reportFalse_rp 0 0, fun c d => State.reportFalse_causeTrue ..⟩

/-- Settles O6: a report's frames are those of its cause, and each input step is a change of the inputs with its report. -/
theorem cabinetInputs : Obligations.CabinetInputs := by
  refine ⟨?_, ?_, fun t s h => eStopAsserted_takes t h, fun t s h => congrArg Host.Outcome.next (if_pos h),
    fun t s h => eStopReleased_takes t h, fun t s h => congrArg Host.Outcome.next (if_neg (Bool.eq_false_iff.mp h)),
    fun t input b s h => ?_, fun t input b s h => congrArg Host.Outcome.next (if_pos h), fun t b s h => ?_,
    fun t b s h => congrArg Host.Outcome.next (if_pos h)⟩
  · rintro s u c d fresh rfl
    refine ⟨fun out => State.reportTrue_rp_out c d out, fun late => ⟨fun silent => ?_, fun member unmasked ring => ?_⟩⟩
    all_goals rw [← State.not_sends_iff 12 s] at late
    · cases member : s.mc.link.isMember with
      | false => exact State.reportTrue_rp_out c d member
      | true => exact (State.reportTrue_frame member fresh late).1 ((s.not_sends_iff c).mpr silent)
    · rw [(State.reportTrue_frame member fresh late).2 ⟨unmasked, ring⟩, State.raiseFrame, State.tripFrame, ring]
  · rintro s u c d x found rfl
    obtain ⟨silent, sent⟩ := State.reportFalse_frame found
    refine ⟨fun no => silent (no.imp_right (s.not_sends_iff c).mpr), fun member unmasked ring => ?_⟩
    rw [sent member ⟨unmasked, ring⟩, State.tripFrame, ring]
  · obtain ⟨told, pins, true_, rp⟩ := State.inputReported t (·.setTrip input b) (tripInputCause input) b s
    exact ⟨_, congrArg Host.Outcome.next (if_neg h), told, by rw [pins]; exact Pins.setTrip_trip .., true_, rp⟩
  · obtain ⟨told, -, true_, rp⟩ := State.inputReported t (fun p => { p with stopKey := b }) 20 b s
    exact ⟨_, congrArg Host.Outcome.next (if_neg h), told, true_, rp⟩

end Sys2Proof.Machine
end

/-! A drive's answer taken, and an answer window that closes (R91 to R94). -/

section
namespace Sys2Proof.Machine

variable {s t : State} {i : Fin 4} {c : AxisCfg}

/-! ## One axis and its drive (R91) -/

theorem State.onAxis_onAxis (i : Fin 4) (f g : Axis → Axis) (s : State) :
    (s.onAxis i f).onAxis i g = s.onAxis i fun a => g (f a) := by
  have set_set (q : Quad Axis) (x y : Axis) : (q.set i x).set i y = q.set i y := by
    match i with | 0 | 1 | 2 | 3 => rfl
  simp only [State.onAxis_eq, State.axis, Quad.get_set_self, set_set]

theorem State.onAxis_congr {f g : Axis → Axis} (h : f (s.axis i) = g (s.axis i)) : s.onAxis i f = s.onAxis i g := by
  simp only [State.onAxis_eq, h]

/-- What the drive line keeps of an axis: the last answer, whether the last window was answered, the count of missed answers
and the open window. -/
def Axis.line (a : Axis) : Option Answer × Bool × Nat × Option Window := (a.last, a.answered, a.missed, a.window)

/-- A report takes torque at most: the drive line's fields stay (R78). -/
theorem State.Reported.line (h : s.Reported t) (i : Fin 4) : (t.axis i).line = (s.axis i).line := by
  rcases h.axis i with same | ⟨-, off⟩
  · rw [same]
  · rw [off]
    rfl

/-! ## Torque lost for a drive-line reason (R92 to R94) -/

theorem State.driveTrip_reported (r : AxisReason) (k : Nat) (i : Fin 4) (s : State) : s.Reported (s.driveTrip r k i) :=
  (State.enterTorqueOff_reported r i s).trans (State.reportTrue_reported ..)

/-- An energised axis stands in TORQUE_OFF after it, with the cause true. -/
theorem State.driveTrip_trips (r : AxisReason) (k : Nat) (on : (s.axis i).state.energised = true) :
    (s.driveTrip r k i).axis i = (s.axis i).toTorqueOff ∧ (s.driveTrip r k i).causeTrue k i.val = true := by
  have off : (s.enterTorqueOff r i).axis i = (s.axis i).toTorqueOff := by
    rw [State.enterTorqueOff_of_on on, State.changeAxis_axis]
  refine ⟨?_, State.reportTrue_true ..⟩
  rw [State.driveTrip, (State.reportTrue_reported ..).axis_eq (by rw [off]; rfl), off]

theorem State.driveTrip_causeTrue (r : AxisReason) (k : Nat) {x d : Nat} (h : s.causeTrue x d = true) :
    (s.driveTrip r k i).causeTrue x d = true := by
  refine State.reportTrue_keeps _ _ _ _ ?_
  have tu : (s.enterTorqueOff r i).tu = s.tu := by
    unfold State.enterTorqueOff
    split
    · rw [State.changeAxis_eq]
    · rfl
  rw [State.causeTrue, tu]
  exact h

/-! ## An answer judged (R93, R94) -/

theorem State.judgeAnswer_of (p : Nat) (x : Answer) (s : State) {w : State}
    (h : w = s.onAxis i (Axis.watchFollowing c p x)) : s.judgeAnswer c p x i =
      (if x.fault = true then
        (if (w.axis i).following = 2 then w.driveTrip .followingError 13 i else w).driveTrip .driveFault 14 i
      else if (w.axis i).following = 2 then w.driveTrip .followingError 13 i else w) := by
  rw [h]
  rfl

/-- Beside the following count, judging an answer does what reports do. -/
theorem State.judgeAnswer_reported (p : Nat) (x : Answer) (i : Fin 4) (c : AxisCfg) (s : State) :
    (s.onAxis i (Axis.watchFollowing c p x)).Reported (s.judgeAnswer c p x i) := by
  have first (w : State) : w.Reported (if (w.axis i).following = 2 then w.driveTrip .followingError 13 i else w) :=
    .ite _ (State.driveTrip_reported ..) (.refl w)
  rw [State.judgeAnswer_of p x s rfl]
  exact .ite _ ((first _).trans (State.driveTrip_reported ..)) (first _)

theorem Axis.watchFollowing_line (p : Nat) (x : Answer) (a : Axis) : (a.watchFollowing c p x).line = a.line := by
  unfold Axis.watchFollowing
  split
  · rfl
  · split <;> rfl

theorem Axis.watchFollowing_state (p : Nat) (x : Answer) (a : Axis) : (a.watchFollowing c p x).state = a.state := by
  unfold Axis.watchFollowing
  split
  · rfl
  · split <;> rfl

theorem Axis.watchFollowing_beyond {p : Nat} {x : Answer} (on : x.torqueOn = true)
    (beyond : c.followLimit < followingError c p x.actual) (a : Axis) :
    a.watchFollowing c p x = { a with following := min (a.following + 1) 2 } := by
  rw [Axis.watchFollowing, on, if_neg (by decide), if_pos beyond]

theorem Axis.watchFollowing_within {p : Nat} {x : Answer} (on : x.torqueOn = true)
    (within : followingError c p x.actual ≤ c.followLimit) (a : Axis) :
    a.watchFollowing c p x = { a with following := 0 } := by
  rw [Axis.watchFollowing, on, if_neg (by decide), if_neg (Nat.not_lt.mpr within)]

theorem Axis.watchFollowing_off {p : Nat} {x : Answer} (off : x.torqueOn = false) (a : Axis) :
    a.watchFollowing c p x = a := by rw [Axis.watchFollowing, off]; rfl

/-- A fault takes the torque and is reported, whatever the following error led to (R94). -/
theorem State.judgeAnswer_fault {p : Nat} {x : Answer} (on : (s.axis i).state.energised = true) (fault : x.fault = true) :
    ((s.judgeAnswer c p x i).axis i).state = .torqueOff ∧ (s.judgeAnswer c p x i).causeTrue 14 i.val = true := by
  have watched : ((s.onAxis i (Axis.watchFollowing c p x)).axis i).state.energised = true := by
    rw [State.onAxis_axis, Axis.watchFollowing_state]
    exact on
  rw [State.judgeAnswer_of p x s rfl, if_pos fault]
  generalize s.onAxis i (Axis.watchFollowing c p x) = w at watched
  split
  · obtain ⟨off, -⟩ := State.driveTrip_trips .followingError 13 watched
    have still := (State.driveTrip_reported .driveFault 14 i (w.driveTrip .followingError 13 i)).axis_eq (i := i)
      (by rw [off]; rfl)
    exact ⟨by rw [still, off]; rfl, State.reportTrue_true ..⟩
  · obtain ⟨off, cause⟩ := State.driveTrip_trips .driveFault 14 watched
    exact ⟨by rw [off]; rfl, cause⟩

/-- The second following error in a row takes the torque and is reported (R93). -/
theorem State.judgeAnswer_followingError {p : Nat} {x : Answer} (on : (s.axis i).state.energised = true)
    (second : ((s.axis i).watchFollowing c p x).following = 2) :
    ((s.judgeAnswer c p x i).axis i).state = .torqueOff ∧ (s.judgeAnswer c p x i).causeTrue 13 i.val = true := by
  have watched : ((s.onAxis i (Axis.watchFollowing c p x)).axis i).state.energised = true := by
    rw [State.onAxis_axis, Axis.watchFollowing_state]
    exact on
  have twice : ((s.onAxis i (Axis.watchFollowing c p x)).axis i).following = 2 := by
    rw [State.onAxis_axis]
    exact second
  rw [State.judgeAnswer_of p x s rfl, if_pos twice]
  obtain ⟨off, cause⟩ := State.driveTrip_trips .followingError 13 watched
  split
  · have still := (State.driveTrip_reported .driveFault 14 i
      ((s.onAxis i (Axis.watchFollowing c p x)).driveTrip .followingError 13 i)).axis_eq (i := i) (by rw [off]; rfl)
    exact ⟨by rw [still, off]; rfl, State.driveTrip_causeTrue _ _ cause⟩
  · exact ⟨by rw [off]; rfl, cause⟩

/-- Without either, only the following count may change. -/
theorem State.judgeAnswer_sound {p : Nat} {x : Answer} (sound : x.fault = false)
    (few : ((s.axis i).watchFollowing c p x).following ≠ 2) :
    s.judgeAnswer c p x i = s.onAxis i (Axis.watchFollowing c p x) := by
  rw [State.judgeAnswer_of p x s rfl, if_neg (by simp [sound]), if_neg (by rw [State.onAxis_axis]; exact few)]

/-! ## The two steps (R91, R92) -/

/-- An answer outside its window, of an absent axis or with another sequence is dropped. -/
theorem exec_driveAnswer_dropped {t q : Nat} {ready torqueOn fault : Bool} {actual : Nat}
    (h : (s.axis i).window = none ∨ s.axisCfg i = none ∨ q ≠ (s.axis i).driveSeq ∨
      ∃ w, (s.axis i).window = some w ∧ w.closes < max s.now t) :
    exec (.driveAnswer t i q ready torqueOn fault actual) s = .next (s.atTime t) := by
  have axis : (s.atTime t).axis i = s.axis i := rfl
  have cfg : (s.atTime t).axisCfg i = s.axisCfg i := rfl
  simp only [exec, execDriveAnswer, axis, cfg, State.atTime_now]
  refine congrArg Host.Outcome.next ?_
  split
  · next w c hw hc =>
    refine if_neg ?_
    rintro ⟨sequence, before⟩
    rcases h with none | none | other | ⟨v, hv, late⟩
    · cases none.symm.trans hw
    · cases none.symm.trans hc
    · exact other sequence
    · cases hv.symm.trans hw
      omega
  · rfl

/-- One within its window is taken, and judged where the axis is energised. -/
theorem exec_driveAnswer_taken {t : Nat} {x : Answer} {w : Window} (window : (s.axis i).window = some w)
    (present : s.axisCfg i = some c) (within : max s.now t ≤ w.closes) :
    exec (.driveAnswer t i (s.axis i).driveSeq x.ready x.torqueOn x.fault x.actual) s =
      .next ((s.atTime t).answer c w.setpoint x i) := by
  have axis : (s.atTime t).axis i = s.axis i := rfl
  have cfg : (s.atTime t).axisCfg i = s.axisCfg i := rfl
  simp only [exec, execDriveAnswer, axis, cfg, State.atTime_now, window, present, true_and, if_pos within]

theorem State.answer_of_off {p : Nat} {x : Answer} (off : (s.axis i).state.energised = false) :
    s.answer c p x i = s.onAxis i (Axis.takeAnswer c x) := if_neg (Bool.eq_false_iff.mp off)

theorem State.answer_of_on {p : Nat} {x : Answer} (on : (s.axis i).state.energised = true) :
    s.answer c p x i = (s.onAxis i (Axis.takeAnswer c x)).judgeAnswer c p x i := if_pos on

/-- Whatever it leads to, an answer taken stands as the last, its window closed, and the time is that of its step. -/
theorem State.answer_line (p : Nat) (x : Answer) (i : Fin 4) (c : AxisCfg) (s : State) :
    (s.answer c p x i).now = s.now ∧ ((s.answer c p x i).axis i).line = ((s.axis i).takeAnswer c x).line := by
  cases on : (s.axis i).state.energised with
  | false =>
    rw [State.answer_of_off on, State.onAxis_axis]
    exact ⟨rfl, rfl⟩
  | true =>
    have told := State.judgeAnswer_reported p x i c (s.onAxis i (Axis.takeAnswer c x))
    rw [State.answer_of_on on, told.now_eq, told.line, State.onAxis_axis, State.onAxis_axis, Axis.watchFollowing_line]
    exact ⟨rfl, rfl⟩

theorem exec_answerWindowClose_idle (h : (s.axis i).window = none ∨ s.axisCfg i = none) :
    exec (.answerWindowClose i) s = .next s := by
  simp only [exec, execAnswerWindowClose]
  refine congrArg Host.Outcome.next ?_
  split
  · next w c hw hc =>
    rcases h with none | none
    · cases none.symm.trans hw
    · cases none.symm.trans hc
  · rfl

theorem exec_answerWindowClose {w : Window} (window : (s.axis i).window = some w) (present : s.axisCfg i = some c) :
    exec (.answerWindowClose i) s = .next ((s.atTime w.closes).closeWindow c i) := by
  simp only [exec, execAnswerWindowClose, window, present]

/-- The state with a missed answer counted. -/
def State.missed (i : Fin 4) (s : State) : State :=
  (s.onAxis i Axis.missAnswer).onAu fun u => { u with missedAnswers := bump u.missedAnswers }

theorem State.missed_axis (i : Fin 4) (s : State) : (s.missed i).axis i = (s.axis i).missAnswer :=
  State.onAxis_axis i Axis.missAnswer s

theorem State.closeWindow_eq (c : AxisCfg) (i : Fin 4) (s : State) : s.closeWindow c i =
    if (s.axis i).state.energised = true ∧ c.silentLimit ≤ (s.axis i).missAnswer.missed then
      (s.missed i).driveTrip .driveLineSilent 15 i else s.missed i := by
  have same : (s.missed i).axis i = (s.axis i).missAnswer := s.missed_axis i
  have run : s.closeWindow c i =
      if ((s.missed i).axis i).state.energised = true ∧ c.silentLimit ≤ ((s.missed i).axis i).missed then
        (s.missed i).driveTrip .driveLineSilent 15 i else s.missed i := rfl
  rw [run, same]
  rfl

/-- The count of missed answers is outside what a report touches. -/
theorem State.Reported.missedAnswers_eq (h : s.Reported t) : t.au.missedAnswers = s.au.missedAnswers := by rw [h.axes]

/-! ## What the statement says of the two steps -/

/-- An answer within its window: what it leaves, and what it leads to by the state of the axis (R91, R93, R94). -/
theorem driveAnswer_judged {t : Nat} {x : Answer} {w : Window} {a : Axis} (window : (s.axis i).window = some w)
    (present : s.axisCfg i = some c) (within : max s.now t ≤ w.closes) (taken : a = (s.axis i).takeAnswer c x) :
    ∃ u, exec (.driveAnswer t i (s.axis i).driveSeq x.ready x.torqueOn x.fault x.actual) s = .next u ∧
      u.now = max s.now t ∧ (u.axis i).line = a.line ∧
      (a.state.energised = false → u = (s.atTime t).onAxis i fun _ => a) ∧
      (a.state.energised = true → x.fault = true → (u.axis i).state = .torqueOff ∧ u.causeTrue 14 i.val = true) ∧
      (a.state.energised = true → (a.watchFollowing c w.setpoint x).following = 2 →
        (u.axis i).state = .torqueOff ∧ u.causeTrue 13 i.val = true) ∧
      ∀ b, a.state.energised = true → x.fault = false → a.watchFollowing c w.setpoint x = b → b.following < 2 →
        u = (s.atTime t).onAxis i fun _ => b := by
  obtain ⟨now, line⟩ := State.answer_line w.setpoint x i c (s.atTime t)
  have here : ((s.atTime t).onAxis i (Axis.takeAnswer c x)).axis i = a := by
    rw [State.onAxis_axis, taken]
    rfl
  have state : ((s.atTime t).axis i).state = a.state := by
    rw [taken]
    rfl
  refine ⟨_, exec_driveAnswer_taken window present within, now, line.trans (by rw [taken]; rfl), fun off => ?_,
    fun on fault => ?_, fun on second => ?_, fun b on sound watched few => ?_⟩
  · rw [State.answer_of_off (by rw [state]; exact off), taken]
    exact State.onAxis_congr rfl
  · rw [State.answer_of_on (by rw [state]; exact on)]
    exact State.judgeAnswer_fault (by rw [here]; exact on) fault
  · rw [State.answer_of_on (by rw [state]; exact on)]
    exact State.judgeAnswer_followingError (by rw [here]; exact on) (by rw [here]; exact second)
  · rw [State.answer_of_on (by rw [state]; exact on),
      State.judgeAnswer_sound sound (by rw [here, watched]; exact Nat.ne_of_lt few), State.onAxis_onAxis]
    rw [taken] at watched
    exact State.onAxis_congr watched

/-- A window that closes without an answer: what it counts, and when the drive line is silent (R92). -/
theorem answerWindowClose_counted {w : Window} {a : Axis} (window : (s.axis i).window = some w)
    (present : s.axisCfg i = some c) (missed : a = (s.axis i).missAnswer) :
    ∃ u, exec (.answerWindowClose i) s = .next u ∧ u.now = max s.now w.closes ∧
      u.au.missedAnswers = bump s.au.missedAnswers ∧ (u.axis i).last = (s.axis i).last ∧
      (a.state.energised = true → c.silentLimit ≤ a.missed →
        u.axis i = a.toTorqueOff ∧ u.causeTrue 15 i.val = true) ∧
      (a.state.energised = false ∨ a.missed < c.silentLimit → u = (s.atTime w.closes).missed i) := by
  have here : ((s.atTime w.closes).missed i).axis i = a := ((s.atTime w.closes).missed_axis i).trans missed.symm
  have state : a.state = ((s.atTime w.closes).axis i).state := by
    rw [missed]
    rfl
  have count : a.missed = ((s.atTime w.closes).axis i).missAnswer.missed := by
    rw [missed]
    rfl
  have told : ((s.atTime w.closes).missed i).Reported ((s.atTime w.closes).closeWindow c i) := by
    rw [State.closeWindow_eq]
    exact .ite _ (State.driveTrip_reported ..) (.refl _)
  refine ⟨_, exec_answerWindowClose window present, told.now_eq, told.missedAnswers_eq, ?_, fun on silent => ?_,
    fun not => ?_⟩
  · have line := congrArg Prod.fst (told.line i)
    rw [here, missed] at line
    exact line
  · rw [State.closeWindow_eq, if_pos ⟨by rw [← state]; exact on, by rw [← count]; exact silent⟩]
    rw [← here] at on ⊢
    exact State.driveTrip_trips _ _ on
  · rw [State.closeWindow_eq, if_neg]
    rw [← state, ← count]
    rintro ⟨on, silent⟩
    rcases not with off | few
    · rw [on] at off
      cases off
    · omega

end Sys2Proof.Machine
end

/-! The tick of an axis: its end, its start, and what the Camera and Mark Units may do to it after (R75, R76, R79, R82,
R83, R86, R88, R91, R125, R127). -/

section
namespace Sys2Proof.Machine

variable {s t u z : State}

/-! ## The end of a tick (R83, R88) -/

/-- The record of an axis after the end of a tick at speed `v`: the boundary decouple, and the stop complete. -/
def Axis.tickEnd (c : Option AxisCfg) (v : Nat) (a : Axis) : Axis :=
  if (a.decoupleAtEnd && a.state.onLine) = true then
    match c with
    | some c => a.decouple c v
    | none => a
  else if a.state = .stopping ∧ a.v = 0 then { a with state := .decoupled, jogTarget := 0 }
  else a

/-- Of the Axis Unit only records of axes change, and of the rest the Command Port. -/
def State.AxesMove (s t : State) : Prop := t = { s with au := { s.au with axes := t.au.axes }, cmp := t.cmp }

theorem State.AxesMove.refl (s : State) : s.AxesMove s := rfl

theorem State.AxesMove.trans (h : s.AxesMove t) (k : t.AxesMove u) : s.AxesMove u := by
  unfold State.AxesMove at *
  rw [k, h]

theorem State.AxesMove.onAxis (i : Fin 4) (f : Axis → Axis) (s : State) : s.AxesMove (s.onAxis i f) := rfl

theorem State.AxesMove.axisEvent (i : Fin 4) (p : AxisState) (r : AxisReason) (s : State) :
    s.AxesMove (s.axisEvent i p r) := by
  rw [State.axisEvent_eq]
  rfl

theorem State.AxesMove.changeAxis (i : Fin 4) (f : Axis → Axis) (r : AxisReason) (s : State) :
    s.AxesMove (s.changeAxis i f r) := (State.AxesMove.onAxis i f s).trans (.axisEvent ..)

@[simp] theorem State.axisEvent_axis (i j : Fin 4) (p : AxisState) (r : AxisReason) (s : State) :
    (s.axisEvent i p r).axis j = s.axis j := by
  rw [State.axisEvent_eq]
  rfl

theorem State.axisTickEnd_moves (i : Fin 4) (s : State) : s.AxesMove (s.axisTickEnd i) := by
  unfold State.axisTickEnd
  dsimp only
  split
  · split
    · exact .changeAxis ..
    · exact .refl s
  · split
    · exact .changeAxis ..
    · exact .refl s

theorem State.axisTickEnd_axis (i : Fin 4) (s : State) :
    (s.axisTickEnd i).axis i = (s.axis i).tickEnd (s.axisCfg i) s.su.next.speed := by
  unfold State.axisTickEnd Axis.tickEnd
  dsimp only
  split
  · cases s.axisCfg i with
    | some c => exact State.changeAxis_axis ..
    | none => rfl
  · split
    · exact State.changeAxis_axis ..
    · rfl

theorem State.axisTickEnd_axis_ne {i j : Fin 4} (h : j ≠ i) (s : State) : (s.axisTickEnd i).axis j = s.axis j := by
  unfold State.axisTickEnd
  dsimp only
  split
  · split
    · exact State.changeAxis_axis_ne h ..
    · rfl
  · split
    · exact State.changeAxis_axis_ne h ..
    · rfl

/-- The four axes at the end of a tick, each on its own. -/
theorem State.axisTickEnds_axis (i : Fin 4) (s : State) :
    (s.eachAxis State.axisTickEnd).axis i = (s.axis i).tickEnd (s.axisCfg i) s.su.next.speed := by
  refine State.eachAxis_get (g := State.axis) (P := s.AxesMove)
    (v := fun i a => a.tickEnd (s.axisCfg i) s.su.next.speed) (fun i t h => ?_)
    (fun i j t _ ne => State.axisTickEnd_axis_ne ne t) (fun i t h => h.trans (State.axisTickEnd_moves i t)) (.refl s) i
  have cfg : t.axisCfg i = s.axisCfg i := by rw [h]; rfl
  have su : t.su = s.su := by rw [h]
  rw [State.axisTickEnd_axis, cfg, su]

/-- The axes when a tick has ended, where one was in progress. -/
theorem State.endTick_axis (i : Fin 4) (s : State) : s.endTick.axis i =
    if s.su.inTick = true then (s.axis i).tickEnd (s.axisCfg i) s.su.next.speed else s.axis i := by
  unfold State.endTick
  split
  · exact State.axisTickEnds_axis ..
  · rfl

theorem State.endTick_localStop (s : State) : s.endTick.au.localStop = s.au.localStop := by
  unfold State.endTick
  split
  · have moved := State.eachAxis_keeps (f := State.axisTickEnd)
      (P := ((s.onSu fun u => { u with line := u.line.commit u.next, inTick := false }).onMc fun m =>
        { m with ticks := (m.ticks + 1) % two32 }).AxesMove) (fun i t h => h.trans (State.axisTickEnd_moves i t)) (.refl _)
    exact (congrArg (fun x => x.au.localStop) moved :)
  · rfl

/-! ## The start of a tick (R75) -/

/-- The record of an axis after step 1 of R75, under an effective stop and a local one. -/
def Axis.stopped (c : AxisCfg) (eff localStop : StopMode) (speed : Nat) (a : Axis) : Axis :=
  if eff = .none then a
  else if a.stops localStop = true then a.toStopping c (eff == .fast) speed
  else a.underStop eff

/-- The record of a present axis after its tick. -/
def Axis.ticked (c : AxisCfg) (r : TickResult) (eff localStop : StopMode) (now : Nat) (a : Axis) : Axis :=
  let out := (a.stopped c eff localStop r.speed).arithmetic c r
  (out.1.revolutionStep r.revStep).exchange now out.2

/-- The record of an axis of a state after its tick: one that is absent or DISABLED takes no part. -/
def State.tickOf (s : State) (i : Fin 4) (a : Axis) : Axis :=
  match s.axisCfg i with
  | some c => if a.state = .disabled then a else a.ticked c s.su.next s.effectiveStop s.au.localStop s.now
  | none => a

theorem State.stopEntry_moves (c : AxisCfg) (v : Nat) (i : Fin 4) (s : State) : s.AxesMove (s.stopEntry c v i) := by
  unfold State.stopEntry
  dsimp only
  split
  · exact .refl s
  · split
    · exact .changeAxis ..
    · exact .onAxis ..

theorem State.stopEntry_axis (c : AxisCfg) (v : Nat) (i : Fin 4) (s : State) :
    (s.stopEntry c v i).axis i = (s.axis i).stopped c s.effectiveStop s.au.localStop v := by
  unfold State.stopEntry Axis.stopped
  dsimp only
  split
  · rfl
  · split
    · exact State.changeAxis_axis ..
    · exact State.onAxis_axis ..

theorem State.stopEntry_axis_ne {i j : Fin 4} (h : j ≠ i) (c : AxisCfg) (v : Nat) (s : State) :
    (s.stopEntry c v i).axis j = s.axis j := by
  unfold State.stopEntry
  dsimp only
  split
  · rfl
  · split
    · exact State.changeAxis_axis_ne h ..
    · exact State.onAxis_axis_ne h ..

/-- Steps 2 to 4 of R75: the arithmetic, the event of an axis that couples, and the Setpoint message. -/
theorem State.axisArithmetic_spec (c : AxisCfg) (i : Fin 4) (s : State) : s.AxesMove (s.axisArithmetic c i) ∧
    (s.axisArithmetic c i).axis i = ((((s.axis i).arithmetic c s.su.next).1.revolutionStep s.su.next.revStep).exchange s.now
      ((s.axis i).arithmetic c s.su.next).2) ∧
    ∀ j, j ≠ i → (s.axisArithmetic c i).axis j = s.axis j := by
  unfold State.axisArithmetic
  dsimp only
  split
  · have moved := (State.AxesMove.onAxis i (fun _ => ((s.axis i).arithmetic c s.su.next).1) s).trans
      (.axisEvent i (s.axis i).state .couplingComplete _)
    refine ⟨moved.trans (.onAxis ..), ?_, fun j ne => ?_⟩
    · have now := congrArg State.now moved
      dsimp only at now
      rw [State.onAxis_axis, State.axisEvent_axis, State.onAxis_axis, now]
    · rw [State.onAxis_axis_ne ne, State.axisEvent_axis, State.onAxis_axis_ne ne]
  · refine ⟨(State.AxesMove.onAxis ..).trans (.onAxis ..), ?_, fun j ne => ?_⟩
    · rw [State.onAxis_axis, State.onAxis_axis]
      rfl
    · rw [State.onAxis_axis_ne ne, State.onAxis_axis_ne ne]

/-- The tick of one axis moves that axis, as `State.tickOf` says. -/
theorem State.axisTick_spec (i : Fin 4) (s : State) : s.AxesMove (s.axisTick i) ∧
    (s.axisTick i).axis i = s.tickOf i (s.axis i) ∧ ∀ j, j ≠ i → (s.axisTick i).axis j = s.axis j := by
  unfold State.axisTick State.tickOf
  cases s.axisCfg i with
  | none => exact ⟨.refl s, rfl, fun _ _ => rfl⟩
  | some c =>
    dsimp only
    by_cases disabled : (s.axis i).state = .disabled
    · simp only [if_pos disabled]
      exact ⟨.refl s, trivial, fun _ _ => trivial⟩
    · simp only [if_neg disabled]
      have stopped := s.stopEntry_moves c s.su.next.speed i
      obtain ⟨moved, own, other⟩ := State.axisArithmetic_spec c i (s.stopEntry c s.su.next.speed i)
      have su : (s.stopEntry c s.su.next.speed i).su = s.su := by rw [stopped]
      have now : (s.stopEntry c s.su.next.speed i).now = s.now := by rw [stopped]
      rw [State.stopEntry_axis, su, now] at own
      exact ⟨stopped.trans moved, own, fun j ne => (other j ne).trans (State.stopEntry_axis_ne ne ..)⟩

/-- The four axes at the start of a tick, each on its own. -/
theorem State.axisTicks_axis (i : Fin 4) (s : State) : (s.eachAxis State.axisTick).axis i = s.tickOf i (s.axis i) := by
  refine State.eachAxis_get (g := State.axis) (P := s.AxesMove) (v := s.tickOf) (fun i t h => ?_)
    (fun i j t _ ne => (t.axisTick_spec i).2.2 j ne) (fun i t h => h.trans (t.axisTick_spec i).1) (.refl s) i
  have same : t.tickOf i = s.tickOf i := by
    unfold State.AxesMove at h
    rw [h]
    rfl
  rw [(t.axisTick_spec i).2.1, same]

theorem State.axisTicks_moves (s : State) : s.AxesMove (s.eachAxis State.axisTick) :=
  State.eachAxis_keeps (P := s.AxesMove) (fun i t h => h.trans (t.axisTick_spec i).1) (.refl s)

/-! ## The record after a tick, state by state -/

section
variable {c : AxisCfg} {r : TickResult} {eff loc : StopMode} {now : Nat} {a : Axis}

theorem Axis.revolutionStep_off (h : a.state.onLine = false) (b : Bool) : a.revolutionStep b = a := by
  simp [Axis.revolutionStep, h]

theorem Axis.revolutionStep_onLine (h : a.state.onLine = true) (b : Bool) :
    a.revolutionStep b = { a with decoupleAtEnd := a.decoupleAtEnd || (b && a.decouplePending) } := by
  unfold Axis.revolutionStep
  rw [h, Bool.and_true]
  cases b && a.decouplePending with
  | true => rw [if_pos rfl, Bool.or_true]
  | false => rw [if_neg (by decide), Bool.or_false]

/-- Where no stop changes the record, the tick is the arithmetic, the revolution step and the message. -/
theorem Axis.ticked_of_stopped {b : Axis} (h : a.stopped c eff loc r.speed = b) : a.ticked c r eff loc now =
    ((b.arithmetic c r).1.revolutionStep r.revStep).exchange now (b.arithmetic c r).2 := by
  rw [Axis.ticked, h]

theorem Axis.stopped_free (a : Axis) : a.stopped c .none loc r.speed = a := if_pos rfl

/-- An axis that does not enter STOPPING is as the stop in force has it. -/
theorem Axis.stopped_under (h : a.stops loc = false) (same : a.underStop eff = a) : a.stopped c eff loc r.speed = a := by
  unfold Axis.stopped
  rw [h, if_neg (by decide : ¬(false = true)), same]
  split <;> rfl

theorem Axis.ticked_torqueOff (h : a.state = .torqueOff) :
    a.ticked c r eff loc now = a.exchange now ((a.last.map (·.actual)).getD 0) := by
  have stopped : a.stopped c eff loc r.speed = a :=
    Axis.stopped_under (by simp [Axis.stops, h]) (by simp [Axis.underStop, h])
  rw [Axis.ticked_of_stopped stopped]
  simp only [Axis.arithmetic, h]
  rw [Axis.revolutionStep_off (by rw [h]; rfl)]

/-- The jog ramp never passes its target (R79). -/
theorem approach_ramp (v target up down : Nat) :
    approach v target up down = if v < target then min (v + up) target else max (v - down) target := by
  unfold approach
  split
  · rfl
  · split
    · rfl
    · omega

/-- The ramp of an axis in DECOUPLED, and its message (R79). -/
theorem Axis.jog_tick (h : a.state = .decoupled) : ((a.arithmetic c r).1.revolutionStep r.revStep).exchange now
    (a.arithmetic c r).2 = (a.jogTick c).exchange now ((a.jogTick c).p / 256) := by
  simp only [Axis.arithmetic, h]
  rw [Axis.revolutionStep_off (by rw [Axis.jogTick, h]; rfl)]

/-- The run-down of an axis in STOPPING, and its message (R88). -/
theorem Axis.stopping_tick (h : a.state = .stopping) : ((a.arithmetic c r).1.revolutionStep r.revStep).exchange now
    (a.arithmetic c r).2 = (a.stopTick c).exchange now ((a.stopTick c).p / 256) := by
  simp only [Axis.arithmetic, h]
  rw [Axis.revolutionStep_off (by rw [Axis.stopTick, h]; rfl)]

theorem Axis.ticked_jog (h : a.state = .decoupled) : a.ticked c r .none loc now =
    (a.jogTick c).exchange now ((a.jogTick c).p / 256) :=
  (Axis.ticked_of_stopped a.stopped_free).trans (Axis.jog_tick h)

/-- Under a stop an axis at rest stands, its jog target held at 0 (R75, R79). -/
theorem Axis.ticked_stand (h : a.state = .decoupled) (stop : eff ≠ .none) (rest : a.v = 0) : a.ticked c r eff loc now =
    Axis.exchange now (a.p % (256 * c.m) / 256) { a with jogTarget := 0, p := a.p % (256 * c.m) } := by
  have stopped : a.stopped c eff loc r.speed = { a with jogTarget := 0 } := by
    simp [Axis.stopped, stop, Axis.stops, h, rest, Axis.underStop]
  have jog : Axis.jogTick c { a with jogTarget := 0 } = { a with jogTarget := 0, p := a.p % (256 * c.m) } := by
    simp [Axis.jogTick, approach, rest]
  rw [Axis.ticked_of_stopped stopped, Axis.jog_tick (a := { a with jogTarget := 0 }) h, jog]

/-- A stop in force raises the mode of an axis in STOPPING (R88). -/
theorem Axis.stopped_stopping (h : a.state = .stopping) :
    a.stopped c eff loc r.speed = { a with stopFast := a.stopFast || eff == .fast } := by
  by_cases none : eff = .none
  · subst none
    rw [Axis.stopped_free, show (StopMode.none == StopMode.fast) = false from rfl, Bool.or_false]
  · rw [Axis.stopped, if_neg none, if_neg (by simp [Axis.stops, h]), Axis.underStop, h]

theorem Axis.ticked_stopping (h : a.state = .stopping) : a.ticked c r eff loc now =
    (Axis.stopTick c { a with stopFast := a.stopFast || eff == .fast }).exchange now
      ((Axis.stopTick c { a with stopFast := a.stopFast || eff == .fast }).p / 256) :=
  (Axis.ticked_of_stopped (Axis.stopped_stopping h)).trans
    (Axis.stopping_tick (a := { a with stopFast := a.stopFast || eff == .fast }) h)

/-- An axis that enters STOPPING runs down in the same tick (R75, R88). -/
theorem Axis.ticked_stops (stop : eff ≠ .none) (h : a.stops loc = true) : a.ticked c r eff loc now =
    ((a.toStopping c (eff == .fast) r.speed).stopTick c).exchange now
      (((a.toStopping c (eff == .fast) r.speed).stopTick c).p / 256) := by
  have stopped : a.stopped c eff loc r.speed = a.toStopping c (eff == .fast) r.speed := by
    rw [Axis.stopped, if_neg stop, if_pos h]
  rw [Axis.ticked_of_stopped stopped, Axis.stopping_tick rfl]

theorem Axis.ticked_coupled (h : a.state = .coupled) : a.ticked c r eff .none now =
    ((a.coupledTick c r.speed).revolutionStep r.revStep).exchange now ((a.coupledTick c r.speed).coupledSetpoint c) := by
  have stopped : a.stopped c eff .none r.speed = a :=
    Axis.stopped_under (by simp [Axis.stops, h]) (by simp [Axis.underStop, h])
  rw [Axis.ticked_of_stopped stopped]
  simp only [Axis.arithmetic, h]

theorem Axis.ticked_coupling (h : a.state = .coupling) : a.ticked c r .none loc now =
    if a.distance c r ≤ c.window then
      ((a.toCoupled c r).revolutionStep r.revStep).exchange now (directG c r.angle a.phase)
    else (Axis.revolutionStep r.revStep { a with rmd := (gear c r.speed a.rmd).2 }).exchange now
      ((a.setpoint + (gear c r.speed a.rmd).1 + min (a.distance c r) c.catchUp) % c.m) := by
  rw [Axis.ticked_of_stopped a.stopped_free]
  simp only [Axis.arithmetic, h, Axis.couples, decide_eq_true_eq]
  split <;> rfl

end

/-! ## Trims and torque of an axis after its tick (R125, R127) -/

/-- From `a` to `b` an axis kept its record, but for its trim pending while COUPLED, or lost its torque. -/
def Axis.Trimmed (a b : Axis) : Prop :=
  b = a ∨ (a.state = .coupled ∧ b = { a with trimPending := b.trimPending }) ∨
    (a.state.energised = true ∧ b = a.toTorqueOff)

theorem Axis.Trimmed.trans {a b c : Axis} (h : a.Trimmed b) (k : b.Trimmed c) : a.Trimmed c := by
  rcases h with rfl | ⟨line, trim⟩ | ⟨on, off⟩
  · exact k
  · have state : b.state = a.state := by rw [trim]
    rcases k with rfl | ⟨-, trim'⟩ | ⟨on, off⟩
    · exact .inr (.inl ⟨line, trim⟩)
    · exact .inr (.inl ⟨line, by rw [trim', trim]⟩)
    · exact .inr (.inr ⟨state ▸ on, by rw [off, trim]; rfl⟩)
  · have state : b.state = .torqueOff := by rw [off]; rfl
    rcases k with rfl | ⟨line, -⟩ | ⟨on', -⟩
    · exact .inr (.inr ⟨on, off⟩)
    · rw [state] at line
      cases line
    · rw [state] at on'
      cases on'

/-- Between two states axes were trimmed or lost torque, and no more. -/
structure State.Trims (s t : State) : Prop where
  axis : ∀ i, (s.axis i).Trimmed (t.axis i)

theorem State.Trims.of_au (h : t.au = s.au) : s.Trims t := ⟨fun i => .inl (by rw [State.axis, h]; rfl)⟩
theorem State.Trims.refl (s : State) : s.Trims s := .of_au rfl
theorem State.Trims.trans (h : s.Trims t) (k : t.Trims u) : s.Trims u := ⟨fun i => (h.axis i).trans (k.axis i)⟩

theorem State.Reported.trims (h : s.Reported t) : s.Trims t := ⟨fun i => (h.axis i).imp_right .inr⟩

theorem State.Trims.onLoop (i : Fin 4) (f : Loop → Loop) (s : State) : s.Trims (s.onLoop i f) := .of_au rfl
theorem State.Trims.loopEvent (i : Fin 4) (p : LoopState) (r : LoopReason) (n : Option Nat) (s : State) :
    s.Trims (s.loopEvent i p r n) := .of_au (State.post_au ..)

theorem State.Trims.takeCorrection (n : Nat) (e : Int) (s : State) : s.Trims (s.takeCorrection n e) := by
  unfold State.takeCorrection State.discardCorrection
  split
  · next i _ =>
    split
    · split
      · next line =>
        refine ⟨fun j => ?_⟩
        by_cases same : j = i
        · subst same
          rw [State.onAxis_axis]
          exact .inr (.inl ⟨line, rfl⟩)
        · exact .inl (State.onAxis_axis_ne same ..)
      · exact ⟨fun _ => .inl rfl⟩
    · exact ⟨fun _ => .inl rfl⟩
  · exact ⟨fun _ => .inl rfl⟩

theorem State.Trims.sendCorrection (a b : Nat) (e : Int) (s : State) : s.Trims (s.sendCorrection a b e) := by
  have pumped (x : State) : x.muPump.au = x.au := (congrArg State.au (x.muPumpN_bulkOnly _) :)
  exact .of_au (pumped _)

theorem State.Trims.issueCorrection (x : MarkEntry) (e : Int) (s : State) : s.Trims (s.issueCorrection x e) := by
  unfold State.issueCorrection
  split
  · exact .takeCorrection ..
  · exact .sendCorrection ..

theorem State.Trims.stepTolerance (i : Fin 4) (c : CamCfg) (n : Nat) (e : Int) (s : State) :
    s.Trims (s.stepTolerance i c n e) := by
  unfold State.stepTolerance
  extract_lets entry beyond isTrue count
  split
  · exact .onLoop ..
  · exact (State.Trims.onLoop ..).trans (State.report_reported ..).trims

theorem State.Trims.judge (i : Fin 4) (c : CamCfg) (r p n : Nat) (s : State) : s.Trims (s.judge i c r p n) := by
  have missing : s.Trims (s.markMissing i c n) := by
    unfold State.markMissing
    dsimp only
    split
    · exact (State.Trims.onLoop ..).trans (.loopEvent ..)
    · exact .onLoop ..
  have found (q : Nat) : s.Trims (s.markFound i c n q p) := by
    unfold State.markFound
    dsimp only
    split
    · exact ((State.Trims.onLoop ..).trans (.stepTolerance ..)).trans (.issueCorrection ..)
    · exact (State.Trims.onLoop ..).trans (.stepTolerance ..)
  unfold State.judge
  dsimp only
  split
  · exact .refl s
  · split
    · exact missing
    · exact found _

theorem State.Trims.foldl {α : Type} {f : State → α → State} (h : ∀ s a, State.Trims s (f s a)) (l : List α)
    (s : State) : s.Trims (l.foldl f s) := by
  induction l generalizing s with
  | nil => exact .refl s
  | cons a l ih => exact (h s a).trans (ih _)

theorem State.Trims.evaluate (i : Fin 4) (c : CamCfg) (r : Nat) (s : State) : s.Trims (s.evaluate i c r) := by
  have full (p : Option Nat) : s.Trims (s.evaluateFull i c r p) := by
    unfold State.evaluateFull
    dsimp only
    split
    · split
      · exact (State.Trims.onLoop ..).trans ((State.Trims.onLoop ..).trans (.loopEvent ..))
      · exact .onLoop ..
    · exact (State.Trims.onLoop ..).trans (.foldl (fun s n => .judge i c r _ n s) ..)
  have seek (p : Option Nat) : s.Trims (s.evaluateSeek i c p) := by
    unfold State.evaluateSeek
    dsimp only
    split
    · exact .onLoop ..
    · split
      · exact (State.Trims.onLoop ..).trans ((State.Trims.onLoop ..).trans (.loopEvent ..))
      · exact .onLoop ..
  unfold State.evaluate
  split
  · exact .refl s
  · split
    · exact .refl s
    · exact seek _
    all_goals exact full _

theorem State.Trims.loopTick (n : Cov) (i : Fin 4) (s : State) : s.Trims (s.loopTick n i) := by
  unfold State.loopTick
  split
  · exact .refl s
  · split
    · exact .refl s
    · dsimp only
      split
      · exact (State.Trims.onLoop ..).trans ((State.Trims.evaluate ..).trans (.onLoop ..))
      · exact .onLoop ..

theorem State.Trims.loopCompare (i : Fin 4) (s : State) : s.Trims (s.loopCompare i) := by
  have moved (f : Loop → Loop) (p : LoopState) : s.Trims ((s.onLoop i f).loopEvent i p .speed none) :=
    (State.Trims.onLoop ..).trans (.loopEvent ..)
  unfold State.loopCompare State.loopSpeed
  dsimp only
  split
  · exact .refl s
  · split
    · split
      · exact moved ..
      · exact .refl s
    · split
      · exact .refl s
      · exact moved ..
    all_goals exact .refl s

theorem State.Trims.markTick (s : State) : s.Trims s.markTick := by
  have ticks := State.eachAxis_keeps (P := s.Trims) (f := State.loopTick s.su.covers)
    (fun i t h => h.trans (.loopTick _ i t)) (.refl s)
  have compared := State.eachAxis_keeps (P := s.Trims) (f := State.loopCompare) (fun i t h => h.trans (.loopCompare i t)) ticks
  exact compared.trans (.of_au rfl)

/-- Loops that are OFF take no part in a tick (R119, R129). -/
theorem State.markTick_off (h : ∀ i, (s.loop i).state = .off) : s.markTick.au = s.au := by
  have tick (c : Cov) (i : Fin 4) : s.loopTick c i = s := by
    unfold State.loopTick
    split
    · rfl
    · exact if_pos (h i)
  have compare (i : Fin 4) : s.loopCompare i = s := by
    unfold State.loopCompare State.loopSpeed
    dsimp only
    split
    · rfl
    · rw [h i]
  simp only [State.markTick, State.eachAxis, tick, compare, State.onMu_au]

/-- The rearmed watches report causes false: no axis moves by it, and the Mark Unit stays as it is (R107). -/
theorem State.rearmTick_keeps (s : State) : s.rearmTick.au.axes = s.au.axes ∧ s.rearmTick.mu = s.mu := by
  unfold State.rearmTick
  split
  · refine State.eachAxis_keeps (P := fun t => t.au.axes = s.au.axes ∧ t.mu = s.mu) (fun i t ⟨axes, mu⟩ => ?_)
      ⟨rfl, rfl⟩
    unfold State.rearmCamera
    split
    · refine ⟨?_, ?_⟩
      · exact ((State.reportFalse_keeps ..).1.trans (State.reportFalse_keeps ..).1).trans axes
      · exact ((State.reportFalse_reported ..).mu_eq.trans (State.reportFalse_reported ..).mu_eq).trans mu
    · exact ⟨axes, mu⟩
  · exact ⟨rfl, rfl⟩

/-- What the blocks that act after the Axis Unit may do to an axis, and that they do nothing with the loops OFF. -/
theorem State.tickBlocks_axis (i : Fin 4) (s : State) : (s.tickOf i (s.axis i)).Trimmed (s.tickBlocks.axis i) ∧
    ((∀ k, (s.loop k).state = .off) → s.tickBlocks.axis i = s.tickOf i (s.axis i)) := by
  have moved := s.axisTicks_moves
  have ticked := s.axisTicks_axis i
  unfold State.tickBlocks
  generalize s.eachAxis State.axisTick = x at moved ticked
  obtain ⟨axes, mu⟩ := x.sweepTick.rearmTick_keeps
  have before : x.sweepTick.rearmTick.axis i = s.tickOf i (s.axis i) := (congrArg (Quad.get · i) axes).trans ticked
  refine ⟨before ▸ (State.Trims.markTick _).axis i, fun off => ?_⟩
  have loops (k : Fin 4) : (x.sweepTick.rearmTick.loop k).state = .off := by
    rw [State.loop, mu, show x.sweepTick.mu = x.mu from rfl, moved]
    exact off k
  rw [← before, State.axis, State.markTick_off loops]
  rfl

/-! ## The step (R75) -/

/-- The state in which the blocks act at a tick start: the tick before has ended, and the arithmetic of the line is done. -/
def State.tickBegun (s : State) : State :=
  let z := s.endTick.atTime s.su.nextStart.toNat
  z.onSu fun u => u.startTick s.su.nextStart z.normalRate z.fastRate

theorem State.tickBegun_keeps (s : State) : s.tickBegun.cfg = s.cfg ∧ s.tickBegun.mu = s.mu ∧
    s.tickBegun.au.localStop = s.au.localStop ∧ s.tickBegun.effectiveStop = s.effectiveStop := by
  have ended := s.endTick_eq
  have stop : s.endTick.su.line.stop = s.su.line.stop := by
    rw [ended]
    show s.su.lineNow.stop = s.su.line.stop
    unfold Su.lineNow
    split <;> rfl
  have own := s.endTick_localStop
  refine ⟨(congrArg State.cfg ended :), (congrArg State.mu ended :), own, ?_⟩
  show s.endTick.su.line.stop.higher s.endTick.au.localStop = _
  rw [stop, own]
  rfl

/-- The record of a present axis after a tick start, from its record `a` after the end of the tick before. -/
def Axis.tickRecord (c : AxisCfg) (r : TickResult) (eff localStop : StopMode) (now : Nat) (a : Axis) : Axis :=
  if a.state = .disabled then a else a.ticked c r eff localStop now

theorem Axis.tickRecord_on {c : AxisCfg} {r : TickResult} {eff loc : StopMode} {now : Nat} {a : Axis} {x : AxisState}
    (h : a.state = x) (on : x ≠ .disabled) : a.tickRecord c r eff loc now = a.ticked c r eff loc now :=
  if_neg (by rw [h]; exact on)

/-- An axis at a tick start: its record is that of its tick, but for a trim or the torque that a loop takes (R75, R125,
R127). -/
theorem tickStart_axis {i : Fin 4} {c : AxisCfg} {a : Axis} (due : s.su.tickDue = true) (present : s.axisCfg i = some c)
    (begun : a = if s.su.inTick = true then (s.axis i).tickEnd (some c) s.su.next.speed else s.axis i) :
    ∃ u, exec .tickStart s = .next u ∧
      ((∀ k, (s.loop k).state = .off) →
        u.axis i = a.tickRecord c u.su.next s.effectiveStop s.au.localStop u.now) ∧
      (a.tickRecord c u.su.next s.effectiveStop s.au.localStop u.now).Trimmed (u.axis i) := by
  have run : exec .tickStart s = .next s.tickBegun.tickBlocks := congrArg Host.Outcome.next (if_pos due)
  obtain ⟨cfg, mu, own, stop⟩ := s.tickBegun_keeps
  have kept := s.tickBegun.tickBlocks_backdrop
  have next : s.tickBegun.tickBlocks.su.next = s.tickBegun.su.next :=
    (congrArg Su.next (State.su_of_backdrop kept) :)
  have now : s.tickBegun.tickBlocks.now = s.tickBegun.now := (congrArg State.now kept :)
  have axis : s.tickBegun.axis i = a := by
    rw [begun, ← present]
    exact s.endTick_axis i
  have record : s.tickBegun.tickOf i a =
      a.tickRecord c s.tickBegun.su.next s.effectiveStop s.au.localStop s.tickBegun.now := by
    have configured : s.tickBegun.axisCfg i = some c := by rw [State.axisCfg, cfg]; exact present
    rw [State.tickOf, configured, stop, own]
    rfl
  obtain ⟨trimmed, same⟩ := s.tickBegun.tickBlocks_axis i
  rw [axis, record] at trimmed same
  refine ⟨_, run, ?_, ?_⟩ <;> rw [next, now]
  · exact fun off => same fun k => by rw [State.loop, mu]; exact off k
  · exact trimmed

theorem Axis.tickEnd_some (c : AxisCfg) (v : Nat) (b : Bool) (a : Axis) :
    (if b = true then a.tickEnd (some c) v else a) =
      if b = true ∧ a.decoupleAtEnd = true ∧ a.state.onLine = true then a.decouple c v
      else if b = true ∧ a.state = .stopping ∧ a.v = 0 then { a with state := .decoupled, jogTarget := 0 }
      else a := by
  cases b with
  | false => simp
  | true => simp [Axis.tickEnd]

theorem StopMode.higher_local (a : StopMode) {b : StopMode} (h : b ≠ .none) : a.higher b ≠ .none := by
  unfold StopMode.higher
  split
  · exact h
  · next low =>
    rintro rfl
    cases b with
    | none => exact h rfl
    | normal | fast => exact low (by decide)

/-- An axis on its way to STOPPING: the speed with which it enters, run down in the same tick (R75, R88). -/
theorem Axis.ticked_stops_of {c : AxisCfg} {r : TickResult} {line loc : StopMode} {now : Nat} {a : Axis}
    (h : (a.state = .coupling ∧ line.higher loc ≠ .none) ∨ (a.state = .coupled ∧ loc ≠ .none) ∨
      (a.state = .decoupled ∧ line.higher loc ≠ .none ∧ 0 < a.v)) :
    a.ticked c r (line.higher loc) loc now =
      ((a.toStopping c (line.higher loc == .fast) r.speed).stopTick c).exchange now
        (((a.toStopping c (line.higher loc == .fast) r.speed).stopTick c).p / 256) ∧
      (a.toStopping c (line.higher loc == .fast) r.speed).v =
        if a.state = .decoupled then a.v else ownSpeed c r.speed := by
  rcases h with ⟨state, stop⟩ | ⟨state, own⟩ | ⟨state, stop, moves⟩
  · exact ⟨Axis.ticked_stops stop (by simp [Axis.stops, state]), by simp [Axis.toStopping, state, AxisState.onLine]⟩
  · exact ⟨Axis.ticked_stops (StopMode.higher_local line own) (by simp [Axis.stops, state, own]),
      by simp [Axis.toStopping, state, AxisState.onLine]⟩
  · exact ⟨Axis.ticked_stops stop (by simp [Axis.stops, state, moves]),
      by simp [Axis.toStopping, state, AxisState.onLine]⟩

/-- The record of an axis that enters STOPPING with speed `w`, after its first run-down. -/
theorem Axis.stopTick_toStopping {c : AxisCfg} {eff : StopMode} {speed w : Nat} {a : Axis}
    (h : (a.toStopping c (eff == .fast) speed).v = w) : (a.toStopping c (eff == .fast) speed).stopTick c =
      { a with
        state := .stopping, stopFast := eff == .fast, v := w - (if eff = .fast then c.fastDecel else c.jogDecel)
        p := (256 * a.setpoint + (w - (if eff = .fast then c.fastDecel else c.jogDecel))) % (256 * c.m), jogTarget := 0
        trimPending := 0, trimApplied := 0, decouplePending := false, decoupleAtEnd := false } := by
  rw [Axis.stopTick, h]
  simp only [Axis.toStopping, beq_iff_eq]

theorem Axis.coupledTick_state (c : AxisCfg) (v : Nat) (a : Axis) : (a.coupledTick c v).state = a.state := rfl

/-- Settles O25: a tick moves each axis on its own, state by state; an answer is judged, and a missed one counted. -/
theorem driveLine : Obligations.DriveLine := by
  refine ⟨fun s i c a due present begun => ?tick, fun t i q ready torqueOn fault actual s h => exec_driveAnswer_dropped h,
    fun t i q ready torqueOn fault actual s w c a window present same within taken => ?answer,
    fun i s h => exec_answerWindowClose_idle h, fun i s w c a window present missed => ?close⟩
  case tick =>
    obtain ⟨u, run, off, trimmed⟩ := tickStart_axis due present (begun.trans (Axis.tickEnd_some ..).symm)
    refine ⟨u, _, a.tickRecord c u.su.next s.effectiveStop s.au.localStop u.now, run, rfl, off, ?_, fun h => if_pos h, ?_,
      ?_, ?_, ?_, ?_, ?_, ?_⟩
    · rcases trimmed with same | ⟨-, trim⟩ | torque
      · exact .inl (by rw [same])
      · exact .inl trim
      · exact .inr torque
    · rintro h x rfl
      rw [Axis.tickRecord_on h (by decide), Axis.ticked_torqueOff h]
      rfl
    · rintro h free v p rfl rfl
      rw [Axis.tickRecord_on h (by decide), free, Axis.ticked_jog h, Axis.jogTick, approach_ramp]
      rfl
    · rintro h stop rest p rfl
      rw [Axis.tickRecord_on h (by decide), Axis.ticked_stand h stop rest]
      rfl
    · rintro h v p rfl rfl
      have on : a.state ≠ .disabled := by
        rcases h with ⟨state, -⟩ | ⟨state, -⟩ | ⟨state, -⟩ <;> rw [state] <;> decide
      obtain ⟨record, speed⟩ := Axis.ticked_stops_of (c := c) (r := u.su.next) (line := s.su.line.stop) (now := u.now) h
      rw [Axis.tickRecord, if_neg on, State.effectiveStop, record, Axis.stopTick_toStopping speed]
      rfl
    · rintro h f v p rfl rfl rfl
      rw [Axis.tickRecord_on h (by decide), Axis.ticked_stopping h]
      rfl
    · rintro h free d sum x rfl rfl rfl
      rw [Axis.tickRecord_on h (by decide), free, Axis.ticked_coupled h,
        Axis.revolutionStep_onLine (by rw [Axis.coupledTick_state, h]; rfl)]
      rfl
    · rintro h free sum goal dist x rfl rfl rfl rfl
      rw [Axis.tickRecord_on h (by decide), free, Axis.ticked_coupling h]
      refine ⟨fun far => ?_, fun near => ?_⟩
      · have far : c.window < a.distance c u.su.next := far
        rw [if_neg (Nat.not_le.mpr far), Axis.revolutionStep_onLine (by rw [h]; rfl)]
        rfl
      · have near : a.distance c u.su.next ≤ c.window := near
        rw [if_pos near, Axis.revolutionStep_onLine rfl]
        rfl
  case answer =>
    subst same
    obtain ⟨u, run, now, line, off, faulty, second, sound⟩ :=
      driveAnswer_judged (x := ⟨ready, torqueOn, fault, actual⟩) window present within taken
    simp only [Axis.line, Prod.mk.injEq] at line
    obtain ⟨last, answered, missed, closed⟩ := line
    refine ⟨u, run, now, last, answered.trans (by rw [taken]), missed.trans (by rw [taken]), closed.trans (by rw [taken]),
      off, faulty, fun on torque beyond one => second on ?_, fun on torque well beyond zero => ?_,
      fun on torque well below => ?_, fun on torque well few => ?_⟩
    · rw [Axis.watchFollowing_beyond (c := c) (p := w.setpoint) (x := ⟨ready, torqueOn, fault, actual⟩) torque beyond]
      exact Nat.min_eq_right (Nat.succ_le_succ one)
    · have watched := Axis.watchFollowing_beyond (c := c) (p := w.setpoint) (x := ⟨ready, torqueOn, fault, actual⟩) torque
        beyond a
      rw [zero] at watched
      exact sound _ on well watched Nat.one_lt_two
    · exact sound _ on well (Axis.watchFollowing_within (c := c) (p := w.setpoint) (x := ⟨ready, torqueOn, fault, actual⟩)
        torque below a) Nat.zero_lt_two
    · exact sound _ on well (Axis.watchFollowing_off torque a) few
  case close =>
    obtain ⟨u, run, now, count, last, silent, else_⟩ := answerWindowClose_counted window present missed
    refine ⟨u, run, now, count, last, silent, fun not => ?_⟩
    rw [else_ not, missed]
    rfl

end Sys2Proof.Machine
end

/-! The torque view: the e-stop input, the trip table and which axes are energised, and that reports of causes, raises and clears
keep every axis without torque while the one is asserted or a TorqueOff entry of the other applies (R77, R89, R90, R147). -/

section
namespace Sys2Proof.Machine

/-! ## The torque view -/

/-- What decides whether the axes may be energised, and which of them are. -/
structure Torque where
  eStop : Bool
  station : Nat
  table : List TripEntry
  energised : Fin 4 → Bool

variable {s t : State}

/-- The torque view of a state. -/
def State.torque (s : State) : Torque :=
  ⟨s.pins.eStop, s.ownStation, s.tu.table, fun i => (s.axis i).state.energised⟩

/-- An axis is energised only while the e-stop input is released and no TorqueOff entry applies. -/
def Torque.Safe (v : Torque) : Prop :=
  ∀ i, v.energised i = true → v.eStop = false ∧ v.table.any (TripEntry.torqueApplies v.station) = false

theorem State.torqueSafe_iff : s.torqueSafe ↔ s.torque.Safe := Iff.rfl

/-- Without torque nothing is asked. -/
theorem Torque.Safe.of_off (h : ∀ i, (s.axis i).state.energised = false) : s.torque.Safe := fun i on => by
  cases (h i).symm.trans on

theorem Torque.Safe.of_eq (h : s.torque.Safe) (e : t.torque = s.torque) : t.torque.Safe := e ▸ h

/-! ## What leaves the view as it is -/

@[simp] theorem State.atTime_torque (t : Nat) (s : State) : (s.atTime t).torque = s.torque := (rfl)
@[simp] theorem State.onRp_torque (f : Rp → Rp) (s : State) : (s.onRp f).torque = s.torque := (rfl)
@[simp] theorem State.onMc_torque (f : Mc → Mc) (s : State) : (s.onMc f).torque = s.torque := (rfl)
@[simp] theorem State.onSu_torque (f : Su → Su) (s : State) : (s.onSu f).torque = s.torque := (rfl)
@[simp] theorem State.onCu_torque (f : Cu → Cu) (s : State) : (s.onCu f).torque = s.torque := (rfl)
@[simp] theorem State.onMu_torque (f : Mu → Mu) (s : State) : (s.onMu f).torque = s.torque := (rfl)
@[simp] theorem State.onScu_torque (f : Scu → Scu) (s : State) : (s.onScu f).torque = s.torque := (rfl)
@[simp] theorem State.onCmp_torque (f : Cmp → Cmp) (s : State) : (s.onCmp f).torque = s.torque := (rfl)
@[simp] theorem State.onQ_torque (q : CmdQueue) (f : CmdQ → CmdQ) (s : State) : (s.onQ q f).torque = s.torque := (rfl)
@[simp] theorem State.onCam_torque (i : Fin 4) (f : Cam → Cam) (s : State) : (s.onCam i f).torque = s.torque := (rfl)
@[simp] theorem State.onLoop_torque (i : Fin 4) (f : Loop → Loop) (s : State) : (s.onLoop i f).torque = s.torque := (rfl)
@[simp] theorem State.onSlot_torque (n : Nat) (f : RosterSlot → RosterSlot) (s : State) :
    (s.onSlot n f).torque = s.torque := by rw [State.onSlot_eq]; rfl
@[simp] theorem State.issue_torque (x : Transfer) (s : State) : (s.issue x).torque = s.torque := (rfl)
@[simp] theorem State.issueRead_torque (p : Purpose) (u : DmaUnit) (a l : Nat) (s : State) :
    (s.issueRead p u a l).torque = s.torque := (rfl)
@[simp] theorem State.issueWrite_torque (p : Purpose) (u : DmaUnit) (a : Nat) (g : List (Nat × List Byte)) (s : State) :
    (s.issueWrite p u a g).torque = s.torque := (rfl)
@[simp] theorem State.dropDma_torque (p : Transfer → Bool) (s : State) : (s.dropDma p).torque = s.torque := (rfl)
@[simp] theorem State.setWorking_torque (s : State) : s.setWorking.torque = s.torque := (rfl)
@[simp] theorem State.loseEvent_torque (s : State) : s.loseEvent.torque = s.torque := (rfl)
@[simp] theorem State.pumpEvents_torque (s : State) : s.pumpEvents.torque = s.torque := by rw [State.pumpEvents_eq]; rfl
@[simp] theorem State.post_torque (e : Event) (s : State) : (s.post e).torque = s.torque := by rw [State.post_eq]; rfl
@[simp] theorem State.enterDmaError_torque (x : Transfer) (k : DmaKind) (s : State) :
    (s.enterDmaError x k).torque = s.torque := by rw [State.enterDmaError_eq]; rfl
@[simp] theorem State.complete_torque (q : CmdQueue) (r : Result) (d : Nat) (s : State) :
    (s.complete q r d).torque = s.torque := by rw [State.complete_eq]; rfl
@[simp] theorem State.result_torque (q : CmdQueue) (r : Result) (s : State) : (s.result q r).torque = s.torque :=
  s.complete_torque q r 0
@[simp] theorem State.offerR_torque (f : LaneFrame) (s : State) : (s.offerR f).1.torque = s.torque := by
  rw [State.offerR_eq]; rfl
@[simp] theorem State.offer_torque (f : LaneFrame) (s : State) : (s.offer f).torque = s.torque := s.offerR_torque f

/-- A change of the pins beside the e-stop input. -/
@[simp] theorem State.onPins_torque {f : Pins → Pins} (h : (f s.pins).eStop = s.pins.eStop) :
    (s.onPins f).torque = s.torque := by
  unfold State.torque
  rw [State.onPins_pins, h]
  rfl

/-- A change of the Trip Unit beside the trip table. -/
@[simp] theorem State.onTu_torque {f : Tu → Tu} (h : (f s.tu).table = s.tu.table) : (s.onTu f).torque = s.torque := by
  unfold State.torque
  rw [State.onTu_tu, h]
  rfl

/-- A change of the Axis Unit beside the axes. -/
@[simp] theorem State.onAu_torque {f : Au → Au} (h : (f s.au).axes = s.au.axes) : (s.onAu f).torque = s.torque := by
  have axis (i : Fin 4) : (s.onAu f).axis i = s.axis i := by
    rw [State.axis, State.onAu_au, h]
    rfl
  unfold State.torque
  simp only [axis]
  rfl

/-- Four steps, one per unit, that leave the view as it is. -/
theorem State.eachAxis_torque {f : Fin 4 → State → State} (h : ∀ i s, (f i s).torque = s.torque) (s : State) :
    (s.eachAxis f).torque = s.torque := by simp only [State.eachAxis, h]

theorem State.foldl_torque {α : Type} {f : State → α → State} (h : ∀ s a, (f s a).torque = s.torque) (x : List α)
    (s : State) : (x.foldl f s).torque = s.torque := by
  induction x generalizing s with
  | nil => rfl
  | cons a x ih => exact (ih _).trans (h s a)

theorem Torque.Safe.foldl {α : Type} {f : State → α → State} (h : s.torque.Safe)
    (hf : ∀ s a, s.torque.Safe → (f s a).torque.Safe) (x : List α) : (x.foldl f s).torque.Safe := by
  induction x generalizing s with
  | nil => exact h
  | cons a x ih => exact ih (hf s a h)

theorem Torque.Safe.eachAxis {f : Fin 4 → State → State} (h : s.torque.Safe)
    (hf : ∀ i s, s.torque.Safe → (f i s).torque.Safe) : (s.eachAxis f).torque.Safe :=
  State.eachAxis_keeps (P := fun s => s.torque.Safe) hf h

/-! ## Axes -/

@[simp] theorem State.axisEvent_torque (i : Fin 4) (p : AxisState) (r : AxisReason) (s : State) :
    (s.axisEvent i p r).torque = s.torque := State.post_torque _ s

/-- A change of one axis that neither gives nor takes its torque. -/
@[simp] theorem State.onAxis_torque {i : Fin 4} {f : Axis → Axis}
    (same : (f (s.axis i)).state.energised = (s.axis i).state.energised) : (s.onAxis i f).torque = s.torque := by
  have energised (j : Fin 4) : ((s.onAxis i f).axis j).state.energised = (s.axis j).state.energised := by
    by_cases here : j = i
    · rw [here, State.onAxis_axis, same]
    · rw [State.onAxis_axis_ne here]
  unfold State.torque
  simp only [energised]
  rfl

@[simp] theorem State.changeAxis_torque {i : Fin 4} {f : Axis → Axis} {r : AxisReason}
    (same : (f (s.axis i)).state.energised = (s.axis i).state.energised) : (s.changeAxis i f r).torque = s.torque :=
  (State.axisEvent_torque ..).trans (State.onAxis_torque same)

/-- A change of one axis that stands without torque after it. -/
theorem Torque.Safe.onAxis_off {i : Fin 4} {f : Axis → Axis} (h : s.torque.Safe)
    (off : (f (s.axis i)).state.energised = false) : (s.onAxis i f).torque.Safe := fun j on => by
  have on : ((s.onAxis i f).axis j).state.energised = true := on
  by_cases here : j = i
  · rw [here, State.onAxis_axis, off] at on
    cases on
  · rw [State.onAxis_axis_ne here] at on
    exact h j on

theorem Torque.Safe.changeAxis_off {i : Fin 4} {f : Axis → Axis} {r : AxisReason} (h : s.torque.Safe)
    (off : (f (s.axis i)).state.energised = false) : (s.changeAxis i f r).torque.Safe :=
  (h.onAxis_off off).of_eq (State.axisEvent_torque ..)

@[simp] theorem Torque.Safe.enterTorqueOff (h : s.torque.Safe) (r : AxisReason) (i : Fin 4) :
    (s.enterTorqueOff r i).torque.Safe := by
  unfold State.enterTorqueOff
  split
  · exact h.changeAxis_off rfl
  · exact h

/-! ## The trip table (R138, R140, R142, R145) -/

/-- A change of the trip table that lets no TorqueOff entry apply that did not. -/
theorem Torque.Safe.onTu {f : Tu → Tu} (h : s.torque.Safe)
    (less : (f s.tu).table.any (TripEntry.torqueApplies s.ownStation) = true →
      s.tu.table.any (TripEntry.torqueApplies s.ownStation) = true) : (s.onTu f).torque.Safe := fun i on => by
  obtain ⟨released, free⟩ := h i on
  exact ⟨released, Bool.eq_false_iff.mpr fun held => Bool.eq_false_iff.mp free (less held)⟩

/-- Entries changed so that none comes to apply. -/
theorem Torque.Safe.mapTable {f : TripEntry → TripEntry} (h : s.torque.Safe)
    (less : ∀ e own, (f e).torqueApplies own = true → e.torqueApplies own = true) :
    (s.onTu fun u => { u with table := u.table.map f }).torque.Safe := by
  refine h.onTu fun held => ?_
  obtain ⟨x, mem, applies⟩ := List.any_eq_true.mp held
  obtain ⟨e, from_, rfl⟩ := List.mem_map.mp mem
  exact List.any_eq_true.mpr ⟨e, from_, less e _ applies⟩

theorem Torque.Safe.onEntry {f : TripEntry → TripEntry} (h : s.torque.Safe) (k : TripKey)
    (less : ∀ e own, (f e).torqueApplies own = true → e.torqueApplies own = true) :
    (s.onTu fun u => u.onEntry k f).torque.Safe :=
  h.mapTable fun e own applies => by
    split at applies
    · exact less e own applies
    · exact applies

/-- An entry of another category than TorqueOff joins the table. -/
theorem Torque.Safe.enlist {e : TripEntry} (h : s.torque.Safe) (other : e.category ≠ .torqueOff) :
    (s.onTu fun u => u.enlist e).torque.Safe := by
  refine h.onTu fun held => ?_
  unfold Tu.enlist at held
  split at held
  · simpa [TripEntry.torqueApplies, other] using held
  · exact held

@[simp] theorem State.updateLocalStop_torque (s : State) : s.updateLocalStop.torque = s.torque := (rfl)
@[simp] theorem State.postNotice_torque (s : State) : s.postNotice.torque = s.torque :=
  (State.onTu_torque rfl).trans (State.post_torque _ s)
@[simp] theorem State.markChange_torque (s : State) : s.markChange.torque = s.torque := by
  unfold State.markChange
  split <;> simp
/-! ## Raises and clears (R140 to R146) -/

/-- A TorqueOff raise takes the torque of every axis; another needs none taken. -/
theorem Torque.Safe.raiseEffects {r : Raise} (h : r.category ≠ .torqueOff → s.torque.Safe) :
    (s.raiseEffects r).1.torque.Safe := by
  have taken : (if r.category = .torqueOff then s.torqueOffAll .torqueOff else s).torque.Safe := by
    split
    · exact .of_off (State.torqueOffAll_off .torqueOff s)
    · next other => exact h other
  unfold State.raiseEffects
  generalize (if r.category = .torqueOff then s.torqueOffAll .torqueOff else s) = x at taken
  cases r.lineStop with
  | none => exact taken
  | some fast => exact taken

@[simp] theorem Torque.Safe.raise (h : s.torque.Safe) (r : Raise) : (s.raise r).1.torque.Safe := by
  unfold State.raise
  split
  · have offered (x : State) : (x.offerFirstTrip r).torque = x.torque := State.onTu_torque (by split <;> rfl)
    have source (x : State) : (x.onTu fun u => u.offerSource r).torque = x.torque :=
      State.onTu_torque (Tu.offerSource_table r x.tu)
    dsimp only
    rw [State.markChange_torque, source, offered]
    exact .raiseEffects fun other => h.enlist other
  · have raised : ((s.onTu fun u => u.onEntry r.key (TripEntry.reraise r)).raiseEffects r).1.torque.Safe :=
      .raiseEffects fun other => h.onEntry _ fun e own applies => by
        simp [TripEntry.torqueApplies, TripEntry.reraise, other] at applies
    dsimp only
    split
    · exact raised
    · rw [State.markChange_torque]
      exact raised

@[simp] theorem Torque.Safe.clearTrip (h : s.torque.Safe) (k : TripKey) : (s.clearTrip k).torque.Safe := by
  unfold State.clearTrip
  split
  · exact h
  · split
    · exact h
    · rw [State.markChange_torque, State.updateLocalStop_torque]
      exact h.onEntry _ fun _ _ applies => by cases applies

@[simp] theorem Torque.Safe.orphanWhere (h : s.torque.Safe) (p : Nat → Bool) : (s.orphanWhere p).torque.Safe := by
  refine h.foldl (fun s k h => ?_) _
  rw [State.orphanTrip, State.markChange_torque, State.updateLocalStop_torque]
  exact h.onEntry _ fun _ _ applies => by cases applies

/-! ## Reports of causes (R134, R148, R150) -/

@[simp] theorem Torque.Safe.causeOn (h : s.torque.Safe) (c d : Nat) : (s.causeOn c d).1.torque.Safe := by
  unfold State.causeOn
  dsimp only
  repeat' split
  all_goals simp [h]

@[simp] theorem Torque.Safe.causeOff (h : s.torque.Safe) (c d : Nat) : (s.causeOff c d).torque.Safe := by
  unfold State.causeOff
  split
  · exact h
  · dsimp only
    repeat' split
    all_goals simp [h]

@[simp] theorem Torque.Safe.reportLate (h : s.torque.Safe) (b : Bool) : (s.reportLate b).torque.Safe := by
  unfold State.reportLate; split <;> simp [h]
@[simp] theorem Torque.Safe.reportTrue (h : s.torque.Safe) (c d : Nat) : (s.reportTrue c d).torque.Safe := by
  unfold State.reportTrue; split <;> simp [h]
@[simp] theorem Torque.Safe.reportFalse (h : s.torque.Safe) (c d : Nat) : (s.reportFalse c d).torque.Safe := by
  unfold State.reportFalse; split <;> simp [h]
@[simp] theorem Torque.Safe.report (h : s.torque.Safe) (c d : Nat) (b : Bool) : (s.report c d b).torque.Safe := by
  unfold State.report; split <;> simp [h]
@[simp] theorem Torque.Safe.reportAllFalse (h : s.torque.Safe) (c : Nat) (p : Nat → Bool) :
    (s.reportAllFalse c p).torque.Safe := h.foldl (fun _ _ h => h.reportFalse _ _) _
@[simp] theorem Torque.Safe.takeRaise (h : s.torque.Safe) (r : Raise) : (s.takeRaise r).torque.Safe := by
  simp [State.takeRaise, h]
@[simp] theorem Torque.Safe.installEntry (h : s.torque.Safe) (e : Entry) : (s.installEntry e).torque.Safe :=
  Torque.Safe.reportLate (s := { s with su := (s.su.install s.maxSpeed false e).1 }) h _

@[simp] theorem Torque.Safe.takeRefresh (h : s.torque.Safe) (r : Raise) : (s.takeRefresh r).torque.Safe := by
  unfold State.takeRefresh
  split
  · split
    · exact h.onEntry _ fun _ _ => id
    · exact h.takeRaise r
  · exact h.takeRaise r

@[simp] theorem Torque.Safe.lapseTrip (h : s.torque.Safe) (k : TripKey) : (s.lapseTrip k).torque.Safe := by
  unfold State.lapseTrip; split <;> simp [h]

@[simp] theorem Torque.Safe.takeTrip (h : s.torque.Safe) (c : Copy) : (s.takeTrip c).torque.Safe := by
  unfold State.takeTrip
  split
  · exact h
  · dsimp only
    split <;> simp [h]

@[simp] theorem Torque.Safe.offerRefreshes (h : s.torque.Safe) : s.offerRefreshes.torque.Safe := by
  unfold State.offerRefreshes
  split
  · refine h.foldl (fun s c h => ?_) _
    exact Torque.Safe.onEntry (h.of_eq (State.offer_torque _ s)) _ fun _ _ => id
  · exact h

@[simp] theorem State.raisesOnEntry_torque (s : State) : s.raisesOnEntry.torque = s.torque :=
  State.foldl_torque (fun _ _ => (State.offer_torque _ _).trans (State.onTu_torque rfl)) _ s

@[simp] theorem Torque.Safe.stepQuiet (h : s.torque.Safe) : s.stepQuiet.torque.Safe := by
  unfold State.stepQuiet
  split
  · exact h.mapTable fun e own applies => by
      split at applies <;> exact applies
  · exact h

/-- ACKNOWLEDGE TRIPS takes entries out of the table (R155). -/
@[simp] theorem Torque.Safe.acknowledge (h : s.torque.Safe) : (s.onTu Tu.acknowledge).torque.Safe := by
  refine h.onTu fun held => ?_
  obtain ⟨e, mem, applies⟩ := List.any_eq_true.mp held
  exact List.any_eq_true.mpr ⟨e, List.mem_of_mem_filter mem, applies⟩

end Sys2Proof.Machine
end

/-! The torque view under the operations of the Ring Port and of the Axis, Mark, Camera and Screen Units: these leave it as it is,
but for the causes they report and the axes that lose torque. -/

section
namespace Sys2Proof.Machine

variable {s t : State}

/-! ## The Ring Port (R9 to R23) -/

theorem State.BulkOnly.torque_eq (h : s.BulkOnly t) : t.torque = s.torque := by rw [h]; rfl
theorem State.PortsOnly.torque_eq (h : s.PortsOnly t) : t.torque = s.torque := h.bulkOnly.torque_eq

@[simp] theorem State.muPump_torque (s : State) : s.muPump.torque = s.torque := (s.muPumpN_bulkOnly _).torque_eq
@[simp] theorem State.pubAdvance_torque (s : State) : s.pubAdvance.torque = s.torque := s.pubAdvance_bulkOnly.torque_eq
@[simp] theorem State.emptyBulk_torque (s : State) : s.emptyBulk.torque = s.torque := s.emptyBulk_bulkOnly.torque_eq
@[simp] theorem State.offerScreen_torque (f : LaneFrame) (s : State) : (s.offerScreen f).torque = s.torque :=
  (State.PortsOnly.offerScreen f s).torque_eq
@[simp] theorem State.offerAll_torque (fs : List LaneFrame) (s : State) : (s.offerAll fs).torque = s.torque :=
  (State.PortsOnly.offerAll fs s).torque_eq
@[simp] theorem State.admitWaiting_torque (s : State) : s.admitWaiting.torque = s.torque := by
  unfold State.admitWaiting
  split
  · rfl
  · split <;> simp
  · split <;> simp
@[simp] theorem State.sendTest_torque (s : State) : s.sendTest.torque = s.torque := (rfl)
@[simp] theorem State.handCopy_torque (k : Kind) (c : Copy) (s : State) : (s.handCopy k c).torque = s.torque := by
  unfold State.handCopy
  split
  case h_8 => split <;> rfl
  all_goals rfl

@[simp] theorem Torque.Safe.receiverError (h : s.torque.Safe) : s.receiverError.torque.Safe := by
  unfold State.receiverError
  dsimp only
  split <;> simp [h]
@[simp] theorem Torque.Safe.rollErrorWindow (h : s.torque.Safe) : s.rollErrorWindow.torque.Safe := by
  unfold State.rollErrorWindow
  dsimp only
  split <;> simp [h]
@[simp] theorem Torque.Safe.watchMissing (h : s.torque.Safe) (q : Nat) : (s.watchMissing q).torque.Safe := by
  unfold State.watchMissing
  dsimp only
  split <;> simp [h]
@[simp] theorem Torque.Safe.takeReturn (h : s.torque.Safe) (c q : Nat) : (s.takeReturn c q).torque.Safe := by
  unfold State.takeReturn
  split
  · exact h
  · split <;> simp [h]
@[simp] theorem Torque.Safe.endReception (h : s.torque.Safe) (rx : Reception) (b : List Byte) (e : FrameEnding) :
    (s.endReception rx b e).torque.Safe := by
  have handed (x : State) (p : Prop) [Decidable p] (k : Kind) (c : Copy) :
      (if p then x.handCopy k c else x).torque = x.torque := by split <;> simp
  unfold State.endReception State.countAborted
  dsimp only
  split
  · simpa using h
  · split
    · simpa using h
    · split
      · simp [h]
      · exact Torque.Safe.takeReturn (by rw [handed]; simpa using h) _ _
  · split
    · simp [h]
    · split
      · simpa using h
      · split
        · simp [h]
        · split
          · rw [handed]; simpa using h
          · simpa using h
@[simp] theorem Torque.Safe.cutReception (h : s.torque.Safe) (m : Bool) (a : List Byte) :
    (s.cutReception m a).torque.Safe := by
  unfold State.cutReception
  split
  · exact h.endReception _ _ _
  · split <;> simp [h]
@[simp] theorem Torque.Safe.launch (h : s.torque.Safe) (lane : Lane) (f : LaneFrame) :
    (s.launch lane f).torque.Safe := by
  cases lane
  · have watched (x : State) (q : Nat) (h : x.torque.Safe) : (x.watchLaunch q).torque.Safe := by
      unfold State.watchLaunch
      dsimp only
      split <;> simp [h]
    exact watched _ _ (by simpa using h)
  · exact h
@[simp] theorem Torque.Safe.arbitrate (h : s.torque.Safe) (n : Nat) : (s.arbitrate n).torque.Safe := by
  unfold State.arbitrate
  dsimp only
  repeat' split
  all_goals simp [h]

/-! ## The Axis Unit (R75 to R94) -/

theorem AxisState.energised_of_onLine {x : AxisState} (h : x.onLine = true) : x.energised = true := by
  cases x with
  | coupling | coupled => rfl
  | disabled | torqueOff | decoupled | stopping => cases h

theorem Axis.energised_of_stops {a : Axis} {loc : StopMode} (h : a.stops loc = true) : a.state.energised = true := by
  unfold Axis.stops at h
  split at h
  · next coupling => rw [coupling]; rfl
  · next coupled => rw [coupled]; rfl
  · next decoupled => rw [decoupled]; rfl
  all_goals cases h

theorem Axis.underStop_state (eff : StopMode) (a : Axis) : (a.underStop eff).state = a.state := by
  unfold Axis.underStop
  split <;> rfl

theorem Axis.revolutionStep_state (b : Bool) (a : Axis) : (a.revolutionStep b).state = a.state := by
  unfold Axis.revolutionStep
  split <;> rfl

/-- The arithmetic of a tick takes an axis from COUPLING to COUPLED at most (R82). -/
theorem Axis.arithmetic_energised (c : AxisCfg) (r : TickResult) (a : Axis) :
    (a.arithmetic c r).1.state.energised = a.state.energised := by
  unfold Axis.arithmetic
  split
  case h_2 coupling =>
    split
    · rw [coupling]
      rfl
    · rfl
  all_goals rfl

@[simp] theorem State.historyDecouple_torque (v : Nat) (i : Fin 4) (s : State) :
    (s.historyDecouple v i).torque = s.torque := by
  unfold State.historyDecouple
  split
  · split
    · next line => exact State.changeAxis_torque (AxisState.energised_of_onLine line).symm
    · rfl
  · rfl
@[simp] theorem State.stopEntry_torque (c : AxisCfg) (v : Nat) (i : Fin 4) (s : State) :
    (s.stopEntry c v i).torque = s.torque := by
  unfold State.stopEntry
  dsimp only
  split
  · rfl
  · split
    · next stops => exact State.changeAxis_torque (Axis.energised_of_stops stops).symm
    · simp [Axis.underStop_state]
@[simp] theorem State.axisTick_torque (i : Fin 4) (s : State) : (s.axisTick i).torque = s.torque := by
  have arithmetic (c : AxisCfg) (x : State) : (x.axisArithmetic c i).torque = x.torque := by
    unfold State.axisArithmetic
    dsimp only
    split <;> simp [Axis.exchange, Axis.revolutionStep_state, Axis.arithmetic_energised]
  unfold State.axisTick
  split
  · split <;> simp [arithmetic]
  · rfl
@[simp] theorem State.axisTickEnd_torque (i : Fin 4) (s : State) : (s.axisTickEnd i).torque = s.torque := by
  unfold State.axisTickEnd
  dsimp only
  split
  · next line =>
    split
    · exact State.changeAxis_torque (AxisState.energised_of_onLine (Bool.and_eq_true_iff.mp line).2).symm
    · rfl
  · split
    · next stops => exact State.changeAxis_torque (by rw [stops.1]; rfl)
    · rfl
@[simp] theorem State.addTrim_torque (i : Fin 4) (x : Int) (s : State) :
    (s.onAxis i (Axis.addTrim x)).torque = s.torque := State.onAxis_torque rfl
@[simp] theorem State.takeCorrection_torque (a : Nat) (e : Int) (s : State) : (s.takeCorrection a e).torque = s.torque := by
  have discarded : s.discardCorrection.torque = s.torque := State.onAu_torque rfl
  unfold State.takeCorrection
  split
  · split
    · split
      · exact State.addTrim_torque ..
      · exact discarded
    · exact discarded
  · exact discarded

@[simp] theorem Torque.Safe.driveTrip (h : s.torque.Safe) (r : AxisReason) (c : Nat) (i : Fin 4) :
    (s.driveTrip r c i).torque.Safe := (h.enterTorqueOff r i).reportTrue c i.val
@[simp] theorem Torque.Safe.answer (h : s.torque.Safe) (c : AxisCfg) (p : Nat) (x : Answer) (i : Fin 4) :
    (s.answer c p x i).torque.Safe := by
  have judged (t : State) (h : t.torque.Safe) : (t.judgeAnswer c p x i).torque.Safe := by
    have watched : (t.onAxis i (Axis.watchFollowing c p x)).torque.Safe := by simp [Axis.watchFollowing_state, h]
    unfold State.judgeAnswer
    dsimp only
    split <;> split <;> simp [watched]
  have taken : (s.onAxis i (Axis.takeAnswer c x)).torque.Safe := h.of_eq (State.onAxis_torque rfl)
  unfold State.answer
  dsimp only
  split
  · exact judged _ taken
  · exact taken
@[simp] theorem Torque.Safe.closeWindow (h : s.torque.Safe) (c : AxisCfg) (i : Fin 4) :
    (s.closeWindow c i).torque.Safe := by
  have missed : (s.missed i).torque.Safe := h.of_eq ((State.onAu_torque rfl).trans (State.onAxis_torque rfl))
  unfold State.closeWindow
  dsimp only
  split
  · exact missed.driveTrip _ _ _
  · exact missed

/-! ## The Mark Unit (R119 to R133) -/

@[simp] theorem State.loopEvent_torque (i : Fin 4) (p : LoopState) (r : LoopReason) (n : Option Nat) (s : State) :
    (s.loopEvent i p r n).torque = s.torque := State.post_torque _ s
@[simp] theorem State.issueCorrection_torque (x : MarkEntry) (e : Int) (s : State) :
    (s.issueCorrection x e).torque = s.torque := by
  unfold State.issueCorrection State.sendCorrection
  split <;> simp
@[simp] theorem Torque.Safe.stepTolerance (h : s.torque.Safe) (i : Fin 4) (c : CamCfg) (n : Nat) (e : Int) :
    (s.stepTolerance i c n e).torque.Safe := by
  unfold State.stepTolerance
  dsimp only
  repeat' split
  all_goals simp [h]
@[simp] theorem Torque.Safe.clearTolerance (h : s.torque.Safe) (i : Fin 4) : (s.clearTolerance i).torque.Safe := by
  simp [State.clearTolerance, h]
@[simp] theorem Torque.Safe.judge (h : s.torque.Safe) (i : Fin 4) (c : CamCfg) (r p n : Nat) :
    (s.judge i c r p n).torque.Safe := by
  unfold State.judge
  dsimp only
  split
  · exact h
  · split
    · unfold State.markMissing
      dsimp only
      split <;> simp [h]
    · unfold State.markFound
      dsimp only
      split <;> simp [h]
@[simp] theorem Torque.Safe.evaluate (h : s.torque.Safe) (i : Fin 4) (c : CamCfg) (r : Nat) :
    (s.evaluate i c r).torque.Safe := by
  have full (p : Option Nat) : (s.evaluateFull i c r p).torque.Safe := by
    unfold State.evaluateFull
    dsimp only
    split
    · split <;> simp [h]
    · exact Torque.Safe.foldl (by simpa using h) (fun s n h => h.judge i c r _ n) _
  have seek (p : Option Nat) : (s.evaluateSeek i c p).torque = s.torque := by
    unfold State.evaluateSeek
    dsimp only
    split
    · simp
    · split <;> simp
  unfold State.evaluate
  split
  · exact h
  · split <;> simp [h, full, seek]
@[simp] theorem Torque.Safe.loopTick (h : s.torque.Safe) (n : Cov) (i : Fin 4) : (s.loopTick n i).torque.Safe := by
  unfold State.loopTick
  split
  · exact h
  · split
    · exact h
    · dsimp only
      split <;> simp [h]
@[simp] theorem State.loopCompare_torque (i : Fin 4) (s : State) : (s.loopCompare i).torque = s.torque := by
  unfold State.loopCompare State.loopSpeed
  dsimp only
  repeat' split
  all_goals simp
@[simp] theorem Torque.Safe.markTick (h : s.torque.Safe) : s.markTick.torque.Safe := by
  rw [State.markTick, State.onMu_torque, State.eachAxis_torque State.loopCompare_torque]
  exact h.eachAxis fun i s h => h.loopTick _ i
@[simp] theorem Torque.Safe.enterSeeking (h : s.torque.Safe) (i : Fin 4) (r : LoopReason) :
    (s.enterSeeking i r).torque.Safe := by simp [State.enterSeeking, h]
@[simp] theorem Torque.Safe.enterOff (h : s.torque.Safe) (i : Fin 4) (r : LoopReason) :
    (s.enterOff i r).torque.Safe := by
  unfold State.enterOff
  dsimp only
  split <;> simp [h]
@[simp] theorem Torque.Safe.configureLoop (h : s.torque.Safe) (i : Fin 4) : (s.configureLoop i).torque.Safe := by
  unfold State.configureLoop
  dsimp only
  split <;> simp [h]

/-! ## The Camera Unit (R99 to R115) -/

@[simp] theorem State.triggerDue_torque (i : Fin 4) (s : State) : (s.triggerDue i).torque = s.torque := by
  have offered (w : Sweep) (d : Nat × Nat) (x : State) : (x.offerTrigger i w d).torque = x.torque := by
    unfold State.offerTrigger State.skipTrigger State.sendTrigger
    dsimp only
    split <;> simp
  unfold State.triggerDue
  split
  · rfl
  · dsimp only
    split
    · simp [offered]
    · split <;> simp [offered]
@[simp] theorem Torque.Safe.rearmTick (h : s.torque.Safe) : s.rearmTick.torque.Safe := by
  unfold State.rearmTick
  split
  · exact h.eachAxis fun i s h => by unfold State.rearmCamera; split <;> simp [h]
  · exact h
@[simp] theorem Torque.Safe.judgeWeb (h : s.torque.Safe) (i : Fin 4) (c : CamCfg) (p : List Byte) :
    (s.judgeWeb i c p).torque.Safe := by
  unfold State.judgeWeb
  dsimp only
  split
  · exact h
  · repeat' split
    all_goals simp [h]
@[simp] theorem State.stripDone_torque (i : Fin 4) (f : Half) (n : Nat) (s : State) :
    (s.stripDone i f n).torque = s.torque := by simp [State.stripDone]
theorem State.pumpStripN_torque (i : Fin 4) (b n : Nat) (s : State) : (s.pumpStripN i b n).torque = s.torque := by
  induction n generalizing s with
  | zero => rfl
  | succ n ih =>
    unfold State.pumpStripN
    repeat' split
    all_goals simp [ih]
@[simp] theorem State.pumpStrip_torque (i : Fin 4) (s : State) : (s.pumpStrip i).torque = s.torque := by
  unfold State.pumpStrip
  split
  · exact s.pumpStripN_torque i _ 3
  · rfl
@[simp] theorem State.acceptLine_torque (i : Fin 4) (c : CamCfg) (g : LineTag) (p : List Byte) (s : State) :
    (s.acceptLine i c g p).torque = s.torque := by
  unfold State.acceptLine
  dsimp only
  split
  · simp
  · split <;> simp
@[simp] theorem State.fillStrip_torque (i : Fin 4) (c : CamCfg) (g : LineTag) (p : List Byte) (s : State) :
    (s.fillStrip i c g p).torque = s.torque := by
  unfold State.fillStrip State.dropLine
  dsimp only
  split
  · rfl
  · split
    · simp
    · split
      · simp [State.startStrip]
      · split <;> simp
@[simp] theorem State.finishAborted_torque (i : Fin 4) (f : Half) (s : State) :
    (s.finishAborted i f).torque = s.torque := by
  unfold State.finishAborted
  dsimp only
  split <;> simp
@[simp] theorem State.abortStrip_torque (i : Fin 4) (f : Half) (b : Bool) (s : State) :
    (s.abortStrip i f b).torque = s.torque := by
  unfold State.abortStrip
  dsimp only
  split <;> simp
@[simp] theorem State.mapEntryRead_torque (i : Fin 4) (x : Transfer) (b : List Byte) (s : State) :
    (s.mapEntryRead i x b).torque = s.torque := by
  unfold State.mapEntryRead State.cacheTranslation State.countMapError
  dsimp only
  repeat' split
  all_goals simp
@[simp] theorem State.stripWritten_torque (i : Fin 4) (x : Transfer) (s : State) :
    (s.stripWritten i x).torque = s.torque := by
  unfold State.stripWritten
  dsimp only
  repeat' split
  all_goals simp
@[simp] theorem State.stripTransferFailed_torque (i : Fin 4) (x : Transfer) (k : DmaKind) (s : State) :
    (s.stripTransferFailed i x k).torque = s.torque := by
  unfold State.stripTransferFailed
  split
  · split <;> simp
  · simp
@[simp] theorem Torque.Safe.freshCameras (h : s.torque.Safe) : s.freshCameras.torque.Safe := by
  simp [State.freshCameras, h]

/-! ## The Screen Unit (R162 to R183) -/

@[simp] theorem State.requestTile_torque (id : TileId) (v : Option Nat) (s : State) :
    (s.requestTile id v).torque = s.torque := by
  unfold State.requestTile; split <;> simp
@[simp] theorem State.assign_torque (a : Nat × Content) (s : State) : (s.assign a).torque = s.torque := by
  have allocated (id : TileId) (x : State) : (x.allocate id).torque = x.torque := by
    unfold State.allocate
    split
    · rfl
    · exact State.requestTile_torque _ _ _
  unfold State.assign
  dsimp only
  split
  · split <;> simp [allocated]
  · rfl
  · rfl
@[simp] theorem State.takeRefusal_torque (n i c r : Nat) (s : State) : (s.takeRefusal n i c r).torque = s.torque := by
  unfold State.takeRefusal
  dsimp only
  split
  · rfl
  · split <;> simp
@[simp] theorem State.takeViewRequest_torque (n i c k w : Nat) (s : State) :
    (s.takeViewRequest n i c k w).torque = s.torque := by
  unfold State.takeViewRequest
  dsimp only
  split
  · rfl
  · split
    · exact State.takeRefusal_torque _ _ _ _ _
    · exact State.offerScreen_torque _ _
@[simp] theorem State.requestView_torque (i : Fin 2) (s : State) : (s.requestView i).torque = s.torque := by
  unfold State.requestView
  dsimp only
  split <;> simp
@[simp] theorem State.repeatViews_torque (s : State) : s.repeatViews.torque = s.torque := by rw [State.repeatViews_eq]; rfl
@[simp] theorem State.viewersTake_torque (i : Fin 4) (g : LineTag) (p : List Byte) (s : State) :
    (s.viewersTake i g p).torque = s.torque := by
  refine State.foldl_torque (fun s v => ?_) _ s
  unfold State.viewLineFor
  dsimp only
  split
  · split <;> simp
  · rfl
@[simp] theorem State.routeTouch_torque (b : Bool) (x y : Nat) (s : State) : (s.routeTouch b x y).torque = s.torque := by
  unfold State.routeTouch
  dsimp only
  repeat' split
  all_goals simp
@[simp] theorem State.takeViewStop_torque (n i c : Nat) (s : State) : (s.takeViewStop n i c).torque = s.torque := by
  unfold State.takeViewStop; split <;> simp
@[simp] theorem State.closeView_torque (i : Fin 2) (s : State) : (s.closeView i).torque = s.torque := by
  unfold State.closeView State.stopView
  dsimp only
  rw [State.onScu_torque]
  split
  · rfl
  · split <;> simp
@[simp] theorem State.takePageMap_torque (n : Nat) (b : List Byte) (s : State) : (s.takePageMap n b).torque = s.torque := by
  unfold State.takePageMap
  split
  · simp
  · rw [State.result_torque]
    exact State.foldl_torque (fun s a => s.assign_torque a) _ s
@[simp] theorem State.takePublish_torque (n : Nat) (b : List Byte) (s : State) : (s.takePublish n b).torque = s.torque := by
  unfold State.takePublish
  split <;> simp [State.publish]
@[simp] theorem State.takeTile_torque (b : List Byte) (s : State) : (s.takeTile b).torque = s.torque := by
  unfold State.takeTile
  dsimp only
  split
  · rfl
  · split <;> simp
@[simp] theorem State.noProgress_torque (x : Tile) (s : State) : (s.noProgress x).torque = s.torque := by
  unfold State.noProgress; split <;> simp

end Sys2Proof.Machine
end

/-! The torque view under the operations of the ring's membership and of the line shaft (R26 to R69, R84). -/

section
namespace Sys2Proof.Machine

variable {s t : State}

/-! ## Membership (R26 to R42) -/

@[simp] theorem State.offerHello_torque (s : State) : s.offerHello.torque = s.torque := State.offer_torque _ s
@[simp] theorem State.stepEvent_torque (p : StepState) (s : State) : (s.stepEvent p).torque = s.torque :=
  State.post_torque _ s
@[simp] theorem State.linkEvent_torque (p : LinkState) (a e : Nat) (s : State) : (s.linkEvent p a e).torque = s.torque :=
  State.post_torque _ s

@[simp] theorem State.changeStep_torque (f : Su → Su) (s : State) : (s.changeStep f).torque = s.torque :=
  State.stepEvent_torque _ _

@[simp] theorem Torque.Safe.forgetViews (h : s.torque.Safe) : s.forgetViews.torque.Safe := by
  simp [State.forgetViews, h]

@[simp] theorem Torque.Safe.shaftMembered (h : s.torque.Safe) : s.shaftMembered.torque.Safe := by
  unfold State.shaftMembered
  dsimp only
  split <;> simp [h]

@[simp] theorem Torque.Safe.shaftOut (h : s.torque.Safe) : s.shaftOut.torque.Safe := by
  have idle : (if (s.su.step != .shaftIdle || s.su.adopted) = true then
      s.changeStep fun u => { u with step := .shaftIdle, adopted := false } else s).torque = s.torque := by
    split <;> simp
  have forgotten := Torque.Safe.forgetViews (h.of_eq idle)
  have dropped := forgotten.of_eq (State.onSu_torque (fun u => { u with heldHistory := false }) _)
  exact (dropped.reportFalse 10 0).reportFalse 12 0

@[simp] theorem Torque.Safe.ringOut (h : s.torque.Safe) : s.ringOut.torque.Safe :=
  ((Torque.Safe.reportFalse (by simpa using h) 6 0).reportFalse 7 0).reportFalse 9 0

@[simp] theorem Torque.Safe.memberOut (h : s.torque.Safe) (b : Bool) : (s.memberOut b).torque.Safe := by
  unfold State.memberOut
  dsimp only
  refine Torque.Safe.reportFalse (Torque.Safe.reportAllFalse ?_ 8 _) 9 1
  rw [State.onScu_torque]
  split <;> simp [h]

@[simp] theorem Torque.Safe.changeLink (h : s.torque.Safe) (k : LinkState) (r : BypassReason) (a e : Nat) :
    (s.changeLink k r a e).torque.Safe := by
  have switched : (if k.bypass = s.mc.link.bypass then s else s.switchBypass).torque.Safe := by
    split <;> simp [State.switchBypass, h]
  unfold State.changeLink
  dsimp only
  generalize (if k.bypass = s.mc.link.bypass then s else s.switchBypass) = v at switched ⊢
  split
  · exact Torque.Safe.shaftOut (Torque.Safe.memberOut (by simp [switched]) _)
  · exact Torque.Safe.shaftOut (Torque.Safe.memberOut (by simp [switched]) _)
  all_goals simp [switched]

@[simp] theorem State.startAttempt_torque (s : State) : s.startAttempt.torque = s.torque := by simp [State.startAttempt]

@[simp] theorem Torque.Safe.endAttempt (h : s.torque.Safe) (n : Nat) : (s.endAttempt n).torque.Safe := by
  unfold State.endAttempt
  dsimp only
  split
  · simp [h]
  · split <;> simp [h]

@[simp] theorem Torque.Safe.dropPeer (h : s.torque.Safe) (n : Nat) : (s.dropPeer n).torque.Safe := by
  have left : (((((s.onSlot n fun r => .absent r.required).orphanWhere fun o => o == n).onScu
      (Scu.dropStation n)).onSu fun u => { u with reports := u.reports.filter fun r => r.peer != n }).reportFalse
        11 n).torque.Safe := by simp [h]
  unfold State.dropPeer
  dsimp only
  split
  · exact left.reportTrue 8 n
  · exact left

@[simp] theorem Torque.Safe.removePeer (h : s.torque.Safe) (n : Nat) (r : RosterReason) :
    (s.removePeer n r).torque.Safe := by simp [State.removePeer, h]

@[simp] theorem Torque.Safe.removeSilent (h : s.torque.Safe) (n : Nat) : (s.removeSilent n).torque.Safe := by
  unfold State.removeSilent; split <;> simp [h]

@[simp] theorem Torque.Safe.makePresent (h : s.torque.Safe) (n d : Nat) (m : HelloMsg) :
    (s.makePresent n d m).torque.Safe := by simp [State.makePresent, h]

@[simp] theorem Torque.Safe.slotHello (h : s.torque.Safe) (n d : Nat) (m : HelloMsg) :
    (s.slotHello n d m).torque.Safe := by
  unfold State.slotHello
  dsimp only
  repeat' split
  all_goals simp [h]

@[simp] theorem Torque.Safe.endDuplicate (h : s.torque.Safe) : s.endDuplicate.torque.Safe := by
  unfold State.endDuplicate; split <;> simp [h]

@[simp] theorem Torque.Safe.foreignHello (h : s.torque.Safe) (d : Nat) (m : HelloMsg) :
    (s.foreignHello d m).torque.Safe := by
  unfold State.foreignHello
  dsimp only
  repeat' split
  all_goals simp [h]

@[simp] theorem Torque.Safe.takeHello (h : s.torque.Safe) (c : Copy) : (s.takeHello c).torque.Safe := by
  unfold State.takeHello State.ownHello State.peerHello
  dsimp only
  repeat' split
  all_goals simp [h]

/-! ## Roster beats (R23, R32, R34, R41) -/

@[simp] theorem State.stepSilences_torque (s : State) : s.stepSilences.torque = s.torque := by
  unfold State.stepSilences; split <;> simp

@[simp] theorem State.stepDuplicate_torque (s : State) : s.stepDuplicate.torque = s.torque := by
  unfold State.stepDuplicate; split <;> simp

@[simp] theorem State.stepListen_torque (s : State) : s.stepListen.torque = s.torque := by
  have counted (x : State) : x.countSinceMember.torque = x.torque := State.onSu_torque ..
  unfold State.stepListen
  dsimp only
  split
  · split <;> simp
  all_goals simp [counted]

/-! ## The tick and the beat (R46, R50) -/

@[simp] theorem Torque.Safe.endTick (h : s.torque.Safe) : s.endTick.torque.Safe := by
  unfold State.endTick
  split
  · rw [State.eachAxis_torque State.axisTickEnd_torque, State.onMc_torque, State.onSu_torque]
    exact h
  · exact h

@[simp] theorem Torque.Safe.tickBlocks (h : s.torque.Safe) : s.tickBlocks.torque.Safe := by
  have swept : (s.eachAxis State.axisTick).sweepTick.torque = s.torque :=
    (State.onCu_torque _ _).trans (State.eachAxis_torque State.axisTick_torque s)
  exact (h.of_eq swept).rearmTick.markTick

@[simp] theorem Torque.Safe.tickAt (h : s.torque.Safe) (b : Int) : (s.tickAt b).torque.Safe := by
  refine Torque.Safe.tickBlocks ?_
  rw [State.onSu_torque, State.atTime_torque]
  exact h.endTick

@[simp] theorem Torque.Safe.startBeat (h : s.torque.Safe) : s.startBeat.torque.Safe := by
  have offered (x : State) : x.offerShaft.torque = x.torque := by unfold State.offerShaft; split <;> simp
  unfold State.startBeat
  rw [offered]
  exact h.endTick

/-! ## Shaft and Speed copies (R54 to R60) -/

@[simp] theorem State.enterAlone_torque (s : State) : s.enterAlone.torque = s.torque := by
  unfold State.enterAlone; split <;> simp

@[simp] theorem Torque.Safe.takeReport (h : s.torque.Safe) (x : Header) (b : Int) (m : ShaftMsg) :
    (s.takeReport x b m).torque.Safe := by
  have counted (r : Exclusion) (u : State) : (u.onSu (Su.countExclusion r)).torque = u.torque :=
    State.onSu_torque ..
  have entered (r : Report) (u : State) : (u.onSu (Su.enterReport r)).torque = u.torque :=
    State.onSu_torque ..
  unfold State.takeReport
  dsimp only
  repeat' split
  all_goals simp [counted, entered, h]

@[simp] theorem Torque.Safe.offerCarried (h : s.torque.Safe) (m : ShaftMsg) : (s.offerCarried m).torque.Safe := by
  unfold State.offerCarried
  split
  · exact h.foldl (fun _ e h => h.installEntry e) _
  · exact h

@[simp] theorem Torque.Safe.measure (h : s.torque.Safe) (x : Header) (b : Int) (m : ShaftMsg) :
    (s.measure x b m).torque.Safe := by
  unfold State.measure; split <;> simp [h]

@[simp] theorem Torque.Safe.takeSpeed (h : s.torque.Safe) (c : Copy) : (s.takeSpeed c).torque.Safe := by
  unfold State.takeSpeed
  dsimp only
  split
  · exact h
  · split
    · exact h.installEntry _
    · exact h

@[simp] theorem Torque.Safe.command (h : s.torque.Safe) (e : Entry) : (s.command e).torque.Safe := by
  simp [State.command, h]

/-! ## A replaced line history (R55, R63, R65, R84) -/

@[simp] theorem State.lineReplaced_torque (v : Nat) (s : State) : (s.lineReplaced v).torque = s.torque := by
  simp [State.lineReplaced, State.eachAxis_torque (State.historyDecouple_torque v)]

@[simp] theorem State.resubmitStops_torque (s : State) : s.resubmitStops.torque = s.torque := (rfl)

@[simp] theorem State.found_torque (s : State) : s.found.torque = s.torque := by simp [State.found]

@[simp] theorem State.adopt_torque (b : Int) (m : ShaftMsg) (s : State) : (s.adopt b m).torque = s.torque := by
  unfold State.adopt
  dsimp only
  split <;> simp

@[simp] theorem State.examine_torque (f : Bool) (x : Header) (b : Int) (m : ShaftMsg) (s : State) :
    (s.examine f x b m).torque = s.torque := by
  unfold State.examine
  split <;> simp

@[simp] theorem Torque.Safe.takeShaft (h : s.torque.Safe) (c : Copy) : (s.takeShaft c).torque.Safe := by
  unfold State.takeShaft
  dsimp only
  split
  · exact h
  · split
    case h_5 =>
      repeat' split
      all_goals simp [h]
    all_goals simp [h]

@[simp] theorem Torque.Safe.loseStep (h : s.torque.Safe) : s.loseStep.torque.Safe := by
  unfold State.loseStep
  split <;> simp [h]

end Sys2Proof.Machine
end

/-! The torque view under resets, the host link, the configuration and the Command Port (R25, R70, R152, R187 to R199). -/

section
namespace Sys2Proof.Machine

variable {s t : State}

/-! ## Resets and the host link (R25, R71, R199) -/

@[simp] theorem Torque.Safe.reportInputs (h : s.torque.Safe) : s.reportInputs.torque.Safe := by
  have input {s : State} (h : s.torque.Safe) (b : Bool) (c : Nat) : (s.reportInput b c).torque.Safe := by
    unfold State.reportInput; split <;> simp [h]
  exact input (input (input (input (input (input (input h _ 0) _ 1) _ 2) _ 3) _ 4) _ 5) _ 20

@[simp] theorem Torque.Safe.coldReset (s : State) : s.coldReset.torque.Safe :=
  Torque.Safe.reportInputs (.of_off fun i => by
    rw [← axisResetState_off none]; exact congrArg _ (congrArg _ (s.coldBase_axis s.now i)))

@[simp] theorem Torque.Safe.warmReset (s : State) : s.warmReset.torque.Safe :=
  Torque.Safe.reportInputs (.of_off fun i => by
    rw [← axisResetState_off (s.axisCfg i)]; exact congrArg _ (congrArg _ (s.warmBase_axis s.now i)))

@[simp] theorem Torque.Safe.linkLoss (h : s.torque.Safe) : s.linkLoss.torque.Safe := by
  unfold State.linkLoss State.discardEvents
  dsimp only
  rw [State.onTu_torque rfl]
  simp [h]

@[simp] theorem Torque.Safe.portBecameReady (h : s.torque.Safe) : s.portBecameReady.torque.Safe := by
  have ready : ((s.reportFalse 21 0).onTu fun u => { u with noticeHeld := false }).torque.Safe :=
    Torque.Safe.of_eq (h.reportFalse 21 0) (State.onTu_torque rfl)
  unfold State.portBecameReady
  dsimp only
  split
  · rw [State.postNotice_torque]
    exact ready.of_eq (State.onTu_torque rfl)
  · exact ready

/-! ## The configuration (R70, R74, R152, R191) -/

/-- A configuration's taking effect leaves every axis at its reset state, without torque. -/
@[simp] theorem Torque.Safe.configure (c : Cfg) (s : State) : (s.configure c).torque.Safe :=
  .of_off fun i => by rw [(s.configure_configured c).axes i]; exact resetAxis_off c i

@[simp] theorem Torque.Safe.finishConfigure (h : s.torque.Safe) : s.finishConfigure.torque.Safe := by
  unfold State.finishConfigure
  split
  · split <;> simp [h]
  · exact h

@[simp] theorem Torque.Safe.awaitStripWrites (h : s.torque.Safe) (c : Cfg) : (s.awaitStripWrites c).torque.Safe := by
  simp [State.awaitStripWrites, h]

/-! ## The Command Port (R187 to R198) -/

@[simp] theorem Torque.Safe.writeRun (h : s.torque.Safe) (q : QueueId) (b : Bool) : (s.writeRun q b).torque.Safe := by
  unfold State.writeRun State.setRunFlag
  dsimp only
  repeat' split
  all_goals simp [h]

@[simp] theorem State.setupWrite_torque (q : QueueId) (b n : Nat) (s : State) : (s.setupWrite q b n).torque = s.torque := by
  unfold State.setupWrite; split <;> simp

@[simp] theorem Torque.Safe.sizeWrite (h : s.torque.Safe) (q : QueueId) (n : Nat) (b : Bool) :
    (s.sizeWrite q n b).torque.Safe := by
  unfold State.sizeWrite
  repeat' split
  all_goals simp [h]

@[simp] theorem State.startImage_torque (a n : Nat) (b : List Byte) (s : State) : (s.startImage a n b).torque = s.torque := by
  unfold State.startImage; split <;> simp

@[simp] theorem State.startRead_torque (p : Purpose) (a n : Nat) (s : State) : (s.startRead p a n).torque = s.torque := by
  simp [State.startRead]

@[simp] theorem State.failCommand_torque (k : DmaKind) (s : State) : (s.failCommand k).torque = s.torque :=
  s.complete_torque _ _ _

@[simp] theorem Torque.Safe.endCommand (h : s.torque.Safe) (q : CmdQueue) : (s.endCommand q).torque.Safe := by
  unfold State.endCommand
  dsimp only
  split <;> simp [h]

@[simp] theorem State.closeNotice_torque (s : State) : s.closeNotice.torque = s.torque := by
  have closed : (s.onTu fun u => { u with noticeOut := false, changesPending := false }).torque = s.torque :=
    State.onTu_torque rfl
  unfold State.closeNotice
  dsimp only
  split
  · split
    · rw [State.postNotice_torque, closed]
    · exact closed
  · rfl

@[simp] theorem State.settleCounters_torque (b : List Byte) (s : State) : (s.settleCounters b).torque = s.torque := by
  unfold State.settleCounters
  dsimp only
  split <;> rfl

@[simp] theorem State.imageWritten_torque (b : List Byte) (s : State) : (s.imageWritten b).torque = s.torque := by
  unfold State.imageWritten; split <;> simp

@[simp] theorem State.nextEvent_torque (s : State) : s.nextEvent.torque = s.torque := by simp [State.nextEvent]

@[simp] theorem State.eventWritten_torque (x : Transfer) (s : State) : (s.eventWritten x).torque = s.torque := by
  simp [State.eventWritten]

@[simp] theorem Torque.Safe.failTransfer (h : s.torque.Safe) (x : Transfer) (k : DmaKind) :
    (s.failTransfer x k).torque.Safe := by
  unfold State.failTransfer
  repeat' split
  all_goals simp [h]

theorem Torque.Safe.withTransfer {f : Transfer → State → State} (h : s.torque.Safe)
    (hf : ∀ x s, s.torque.Safe → (f x s).torque.Safe) (p : Purpose) (u : DmaUnit) :
    (s.withTransfer p u f).torque.Safe := by
  unfold State.withTransfer
  split
  · exact hf _ _ (by simpa using h)
  · exact h

theorem Torque.Safe.withReply {f : Transfer → List Byte → State → State} (h : s.torque.Safe)
    (hf : ∀ x b s, s.torque.Safe → (f x b s).torque.Safe) (p : Purpose) (u : DmaUnit) (r : DmaReply) :
    (s.withReply p u r f).torque.Safe :=
  h.withTransfer (fun x s h => by
    cases r with
    | data b => exact hf x b s h
    | error => exact h.failTransfer x _) p u

theorem Torque.Safe.withWrite {f : Transfer → State → State} (h : s.torque.Safe)
    (hf : ∀ x s, s.torque.Safe → (f x s).torque.Safe) (p : Purpose) (u : DmaUnit) (ok : Bool) :
    (s.withWrite p u ok f).torque.Safe :=
  h.withTransfer (fun x s h => by
    cases ok with
    | true => exact hf x s h
    | false => exact h.failTransfer x _) p u

@[simp] theorem State.takeDescriptor_torque (q : CmdQueue) (d : List Byte) (s : State) :
    (s.takeDescriptor q d).torque = s.torque := by
  unfold State.takeDescriptor
  dsimp only
  repeat' split
  all_goals simp

/-! ## The ring (R1 to R16) -/

@[simp] theorem State.countBlock_torque (b : Bool) (s : State) : (s.countBlock b).torque = s.torque := State.onMc_torque _ s

@[simp] theorem Torque.Safe.lockLost (h : s.torque.Safe) (m : Bool) (a : List Byte) : (s.lockLost m a).torque.Safe := by
  have cut : (s.cutBlock m a).torque.Safe := by unfold State.cutBlock; split <;> simp [h]
  unfold State.lockLost
  dsimp only
  split <;> simp [cut]

@[simp] theorem Torque.Safe.lockGained (h : s.torque.Safe) : s.lockGained.torque.Safe := by
  unfold State.lockGained
  split
  · split <;> simp [h]
  all_goals simp [h]

@[simp] theorem State.takeHeader_torque (a : Nat) (b : List Byte) (s : State) : (s.takeHeader a b).torque = s.torque := by
  unfold State.takeHeader
  dsimp only
  split <;> simp

@[simp] theorem Torque.Safe.headless (h : s.torque.Safe) (e : FrameEnding) : (s.headless e).torque.Safe := by
  cases e <;> simp [State.headless, State.countAborted, h]

/-! ## Cameras, commands and screens -/

@[simp] theorem State.markLine_torque (i : Fin 4) (c : CamCfg) (g : LineTag) (p : List Byte) (s : State) :
    (s.markLine i c g p).torque = s.torque := by
  unfold State.markLine; split <;> simp

@[simp] theorem Torque.Safe.missLine (h : s.torque.Safe) (i : Fin 4) : (s.missLine i).torque.Safe := by
  unfold State.missLine
  dsimp only
  split <;> simp [h]

/-- With the e-stop input released and no TorqueOff entry applying, any axis may be energised. -/
theorem Torque.Safe.of_free (released : s.pins.eStop = false) (free : s.torqueOffHeld = false) : s.torque.Safe :=
  fun _ _ => ⟨released, free⟩

theorem Torque.Safe.enableAxis (released : s.pins.eStop = false) (free : s.torqueOffHeld = false) (i : Fin 4) :
    (s.enableAxis i).torque.Safe := by
  have changed : (s.changeAxis i Axis.enable .command).torque.Safe := by
    rw [State.changeAxis_eq]
    exact .of_free released free
  exact ((changed.reportFalse 13 i.val).reportFalse 14 i.val).reportFalse 15 i.val

@[simp] theorem State.takeMarkTable_torque (i : Fin 4) (b : List Byte) (s : State) :
    (s.takeMarkTable i b).torque = s.torque := by
  unfold State.takeMarkTable; split <;> simp

@[simp] theorem State.rearmEntries_torque (i : Fin 4) (s : State) : (s.rearmEntries i).torque = s.torque := by
  unfold State.rearmEntries
  dsimp only
  split <;> simp

@[simp] theorem Torque.Safe.takeConfig (h : s.torque.Safe) (b : List Byte) : (s.takeConfig b).torque.Safe := by
  unfold State.takeConfig; split <;> simp [h]

@[simp] theorem State.openView_torque (i : Fin 2) (v : ViewSlot) (s : State) : (s.openView i v).torque = s.torque := by
  simp [State.openView]

@[simp] theorem Torque.Safe.beginJoin (h : s.torque.Safe) : s.beginJoin.torque.Safe := by simp [State.beginJoin, h]

@[simp] theorem Torque.Safe.beginLeave (h : s.torque.Safe) : s.beginLeave.torque.Safe := by simp [State.beginLeave, h]

theorem Torque.Safe.axisCommand {f : Fin 4 → AxisCfg → State → State} (h : s.torque.Safe)
    (hf : ∀ i c, (f i c s).torque.Safe) (a : Nat) : (s.axisCommand a f).torque.Safe := by
  unfold State.axisCommand
  split
  · simpa using h
  · split
    · simpa using h
    · split
      · simpa using h
      · exact hf _ _

theorem Torque.Safe.cameraCommand {f : Fin 4 → State → State} (h : s.torque.Safe)
    (hf : ∀ i, (f i s).torque.Safe) (a : Nat) : (s.cameraCommand a f).torque.Safe := by
  unfold State.cameraCommand
  split
  · simpa using h
  · exact hf _

end Sys2Proof.Machine
end

/-! No axis is energised under the e-stop input or an applying TorqueOff entry: every step (R77, R89, R90, R147). -/

section
namespace Sys2Proof.Machine

variable {s : State}

/-- Every state that an answer gives is safe. -/
def Torque.Kept (a : Answered) : Prop := ∀ u, a = .next u → u.torque.Safe

@[simp] theorem Torque.kept_next (s : State) : Torque.Kept (.next s) ↔ s.torque.Safe :=
  ⟨fun h => h s rfl, fun h u e => by cases e; exact h⟩

/-! ## The ring and the copies handed on -/

theorem execFrameEndArrival_torque (h : s.torque.Safe) (t : Nat) (b : List Byte) (e : FrameEnding) :
    Torque.Kept (execFrameEndArrival t b e s) := by
  simp only [execFrameEndArrival, Torque.kept_next]
  split
  · split <;> simp [h]
  · simp [h]

theorem execHelloCopy_torque (h : s.torque.Safe) : Torque.Kept (execHelloCopy s) := by
  rw [execHelloCopy, Torque.kept_next]
  split
  · exact h
  · next c rest _ => exact Torque.Safe.takeHello (s := { s with inMc := rest }) h c

theorem execShaftCopy_torque (h : s.torque.Safe) : Torque.Kept (execShaftCopy s) := by
  rw [execShaftCopy, Torque.kept_next]
  split
  · exact h
  · next c rest _ =>
    split
    · exact Torque.Safe.takeShaft (s := { s with inSu := rest }) h c
    · exact h

theorem execSpeedCopy_torque (h : s.torque.Safe) : Torque.Kept (execSpeedCopy s) := by
  rw [execSpeedCopy, Torque.kept_next]
  split
  · exact h
  · next c rest _ =>
    split
    · exact Torque.Safe.takeSpeed (s := { s with inSu := rest }) h c
    · exact h

theorem execTripCopy_torque (h : s.torque.Safe) : Torque.Kept (execTripCopy s) := by
  rw [execTripCopy, Torque.kept_next]
  split
  · exact h
  · next c rest _ => exact Torque.Safe.takeTrip (s := { s with inTu := rest }) h c

theorem execCorrectionCopy_torque (h : s.torque.Safe) : Torque.Kept (execCorrectionCopy s) := by
  rw [execCorrectionCopy, Torque.kept_next]
  split
  · exact h
  · next c rest _ =>
    have taken : State.torque { s with inAu := rest } = s.torque := rfl
    dsimp only
    split
    · exact h.of_eq ((State.takeCorrection_torque ..).trans taken)
    · exact h

/-- A copy of the Screen Unit's inbox taken by operations that leave the view as it is. -/
theorem State.takeScreen_torque {f : Copy → Option (State → State)} (hf : ∀ c g s, f c = some g → (g s).torque = s.torque)
    (s : State) : (s.takeScreen f).torque = s.torque := by
  unfold State.takeScreen
  split
  · rfl
  · split
    · next hg => exact hf _ _ _ hg
    · rfl

/-- The steps that take a Tile control copy. -/
theorem tileControlCopies_torque (h : s.torque.Safe) :
    Torque.Kept (execTileInvalidate s) ∧ Torque.Kept (execTileRequestCopy s) ∧ Torque.Kept (execTouchCopy s) ∧
      Torque.Kept (execViewRequest s) ∧ Torque.Kept (execViewStop s) ∧ Torque.Kept (execViewRefusal s) := by
  refine ⟨?_, ?_, ?_, ?_, ?_, ?_⟩
  all_goals
    refine (Torque.kept_next _).mpr (h.of_eq (State.takeScreen_torque (fun c g s hg => ?_) s))
    split at hg
    · cases hg
      simp
    · cases hg

/-- The steps that take a copy of pixels. -/
theorem pixelCopies_torque (h : s.torque.Safe) : Torque.Kept (execTileDataFragment s) ∧ Torque.Kept (execViewLine s) := by
  constructor
  all_goals
    refine (Torque.kept_next _).mpr (h.of_eq (State.takeScreen_torque (fun c g s hg => ?_) s))
    dsimp only at hg
    split at hg
    · cases hg
      dsimp only
      split <;> simp
    · cases hg

/-! ## Cameras and membership -/

theorem execCameraLine_torque (h : s.torque.Safe) (t : Nat) (i : Fin 4) (n : Nat) (p : List Byte) :
    Torque.Kept (execCameraLine t i n p s) := by
  have entry (u : State) (hu : u.torque.Safe) : (u.takeEntry i n).torque.Safe := by simp [State.takeEntry, hu]
  have line (u : State) (hu : u.torque.Safe) (c : CamCfg) (g : LineTag) (q : List Byte) :
      (u.goodLine i c g q).torque.Safe := by simp [State.goodLine, hu]
  simp only [execCameraLine, Torque.kept_next]
  split
  · exact line _ (entry _ (by simpa using h)) _ _ _
  · simpa using h

theorem execRosterBeatStart_torque (h : s.torque.Safe) : Torque.Kept (execRosterBeatStart s) := by
  simp only [execRosterBeatStart, Torque.kept_next]
  split
  · have begun : ((s.onSu fun u => { u with rosterDue := false }).stepSilences).torque.Safe := by
      simpa using h
    have counted := Torque.Safe.of_eq begun.rollErrorWindow (State.stepDuplicate_torque _)
    have heard := Torque.Safe.of_eq counted.stepQuiet (State.stepListen_torque _)
    exact heard.offerRefreshes.of_eq (State.repeatViews_torque _)
  · exact h

theorem execEnterMember_torque (h : s.torque.Safe) : Torque.Kept (execEnterMember s) := by
  simp only [execEnterMember, Torque.kept_next]
  split
  · rw [State.offerHello_torque]
    exact (h.changeLink .member .none 0 0).foldl (fun s n h => h.reportTrue 8 n) _
  · exact h

/-! ## Commands of the axes and of the register loops -/

/-- ENABLE AXIS gives torque, after the checks of the e-stop input and of the trip table (R77). -/
theorem execEnableAxis_torque (h : s.torque.Safe) : Torque.Kept (execEnableAxis s) := by
  rw [execEnableAxis, Torque.kept_next]
  split
  · refine h.axisCommand (fun i c => ?_) _
    split
    · simp [h]
    · split
      · simp [h]
      · next stops =>
        simp only [not_or, Bool.not_eq_true] at stops
        obtain ⟨released, free⟩ := stops
        split <;> simp [h, Torque.Safe.enableAxis released free]
  · exact h

theorem execDecoupleAxis_torque (h : s.torque.Safe) : Torque.Kept (execDecoupleAxis s) := by
  rw [execDecoupleAxis, Torque.kept_next]
  split
  · split
    · simpa using h
    · refine h.axisCommand (fun i c => ?_) _
      split
      · simp [h]
      · next line =>
        have on : (s.axis i).state.energised = true := AxisState.energised_of_onLine (by simpa using line)
        split <;> rw [State.result_torque]
        · exact h.of_eq (State.changeAxis_torque on.symm)
        · exact h.of_eq (State.onAxis_torque rfl)
  · exact h

/-- COUPLE AXIS takes an axis from one energised state to another. -/
theorem execCoupleAxis_torque (h : s.torque.Safe) : Torque.Kept (execCoupleAxis s) := by
  rw [execCoupleAxis, Torque.kept_next]
  split
  · refine h.axisCommand (fun i c => ?_) _
    split
    · simp [h]
    · next decoupled =>
      have coupled (x : Nat) : (s.changeAxis i (Axis.couple c x s.su.comingAngle) .command).torque = s.torque :=
        State.changeAxis_torque (by rw [not_not.mp decoupled]; rfl)
      repeat' split
      all_goals simp [coupled, h]
  · exact h

/-- The axis commands that give no axis a new state, or take its torque. -/
theorem axisCommands_torque (h : s.torque.Safe) :
    Torque.Kept (execDisableAxis s) ∧ Torque.Kept (execJogAxis s) ∧ Torque.Kept (execTrimAxis s) := by
  refine ⟨?_, ?_, ?_⟩
  all_goals
    refine (Torque.kept_next _).mpr ?_
    split
    · refine h.axisCommand (fun i c => ?_) _
      repeat' split
      all_goals simp [h]
    · exact h

/-- The register commands of the normal queue. -/
theorem registerCommands_torque (h : s.torque.Safe) :
    Torque.Kept (execLoadMarkTable s) ∧ Torque.Kept (execStartRegister s) ∧ Torque.Kept (execStopRegister s) ∧
      Torque.Kept (execRearmRegister s) := by
  refine ⟨?_, ?_, ?_, ?_⟩
  all_goals
    refine (Torque.kept_next _).mpr ?_
    split
    · refine h.cameraCommand (fun i => ?_) _
      repeat' split
      all_goals simp [h]
    · exact h

/-! ## Transfers that come back -/

theorem execMarkTableReadComplete_torque (h : s.torque.Safe) (t : Nat) (r : DmaReply) :
    Torque.Kept (execMarkTableReadComplete t r s) := by
  refine (Torque.kept_next _).mpr (Torque.Safe.withReply (by simpa using h) (fun _ b s h => ?_) _ _ r)
  split
  · exact h.cameraCommand (fun i => by simpa using h) _
  · exact h

theorem execPageMapReadComplete_torque (h : s.torque.Safe) (t : Nat) (r : DmaReply) :
    Torque.Kept (execPageMapReadComplete t r s) := by
  refine (Torque.kept_next _).mpr (Torque.Safe.withReply (by simpa using h) (fun _ b s h => ?_) _ _ r)
  split <;> simp [h]

theorem execPublishListReadComplete_torque (h : s.torque.Safe) (t : Nat) (r : DmaReply) :
    Torque.Kept (execPublishListReadComplete t r s) := by
  refine (Torque.kept_next _).mpr (Torque.Safe.withReply (by simpa using h) (fun _ b s h => ?_) _ _ r)
  split <;> simp [h]

/-! ## The cabinet's inputs (R90) -/

theorem Pins.setTrip_eStop (p : Pins) (input : TripInput) (b : Bool) : (p.setTrip input b).eStop = p.eStop := by
  cases input <;> rfl

/-- The e-stop input asserted takes the torque of every axis. -/
theorem execEStopAsserted_torque (h : s.torque.Safe) (t : Nat) : Torque.Kept (execEStopAsserted t s) := by
  simp only [execEStopAsserted, Torque.kept_next]
  split
  · simpa using h
  · exact Torque.Safe.reportTrue (.of_off (State.torqueOffAll_off .eStop _)) 0 0

theorem execEStopReleased_torque (h : s.torque.Safe) (t : Nat) : Torque.Kept (execEStopReleased t s) := by
  simp only [execEStopReleased, Torque.kept_next]
  split
  · have released : ((s.atTime t).onPins fun p => { p with eStop := false }).torque.Safe := fun i on => by
      obtain ⟨-, free⟩ := h i on
      exact ⟨rfl, free⟩
    exact released.reportFalse 0 0
  · simpa using h

theorem execTripInputChange_torque (h : s.torque.Safe) (t : Nat) (input : TripInput) (b : Bool) :
    Torque.Kept (execTripInputChange t input b s) := by
  simp only [execTripInputChange, Torque.kept_next]
  split
  · simpa using h
  · have now : (s.atTime t).torque.Safe := h
    exact Torque.Safe.report (now.of_eq (State.onPins_torque (Pins.setTrip_eStop ..))) _ 0 b

theorem execPanelStopKey_torque (h : s.torque.Safe) (t : Nat) (b : Bool) : Torque.Kept (execPanelStopKey t b s) := by
  simp only [execPanelStopKey, Torque.kept_next]
  split
  · simpa using h
  · have now : (s.atTime t).torque.Safe := h
    exact Torque.Safe.report (now.of_eq (State.onPins_torque rfl)) 20 0 b

/-! ## Every step -/

/-- Every step keeps a safe state safe. -/
theorem exec_torque (h : s.torque.Safe) (i : Instr) : Torque.Kept (exec i s) := by
  obtain ⟨invalidate, request, touch, viewReq, viewStop, refusal⟩ := tileControlCopies_torque h
  obtain ⟨fragment, line⟩ := pixelCopies_torque h
  obtain ⟨disable, jog, trim⟩ := axisCommands_torque h
  obtain ⟨load, start, stop, rearm⟩ := registerCommands_torque h
  have now (t : Nat) : (s.atTime t).torque.Safe := h.of_eq (State.atTime_torque t s)
  cases i
  case frameEndArrival t b e => exact execFrameEndArrival_torque h t b e
  case helloCopy => exact execHelloCopy_torque h
  case shaftCopy => exact execShaftCopy_torque h
  case speedCopy => exact execSpeedCopy_torque h
  case tripCopy => exact execTripCopy_torque h
  case correctionCopy => exact execCorrectionCopy_torque h
  case cameraLine t i n p => exact execCameraLine_torque h t i n p
  case rosterBeatStart => exact execRosterBeatStart_torque h
  case enterMember => exact execEnterMember_torque h
  case markTableReadComplete t r => exact execMarkTableReadComplete_torque h t r
  case pageMapReadComplete t r => exact execPageMapReadComplete_torque h t r
  case publishListReadComplete t r => exact execPublishListReadComplete_torque h t r
  case tileInvalidate => exact invalidate
  case tileRequestCopy => exact request
  case touchCopy => exact touch
  case viewRequest => exact viewReq
  case viewStop => exact viewStop
  case viewRefusal => exact refusal
  case tileDataFragment => exact fragment
  case viewLine => exact line
  case enableAxis => exact execEnableAxis_torque h
  case disableAxis => exact disable
  case coupleAxis => exact execCoupleAxis_torque h
  case decoupleAxis => exact execDecoupleAxis_torque h
  case jogAxis => exact jog
  case trimAxis => exact trim
  case loadMarkTable => exact load
  case startRegister => exact start
  case stopRegister => exact stop
  case rearmRegister => exact rearm
  case mapEntryReadComplete t c r =>
    exact (Torque.kept_next _).mpr ((now t).withReply (fun x b s h => by simpa using h) _ _ r)
  case descriptorReadComplete t q r =>
    exact (Torque.kept_next _).mpr ((now t).withReply (fun x b s h => by simpa using h) _ _ r)
  case configReadComplete t r =>
    exact (Torque.kept_next _).mpr ((now t).withReply (fun x b s h => h.takeConfig b) _ _ r)
  case tileReadComplete t r =>
    exact (Torque.kept_next _).mpr ((now t).withReply (fun x b s h => by simpa using h) _ _ r)
  case stripWriteComplete t c ok =>
    refine (Torque.kept_next _).mpr ((now t).withWrite (fun x s h => ?_) _ _ ok)
    exact (h.of_eq (s.stripWritten_torque c x)).finishConfigure
  case writebackComplete t q ok =>
    exact (Torque.kept_next _).mpr ((now t).withWrite (fun x s h => h.endCommand q) _ _ ok)
  case imageWriteComplete t ok =>
    exact (Torque.kept_next _).mpr ((now t).withWrite (fun x s h => by simpa using h) _ _ ok)
  case eventWriteComplete t ok =>
    exact (Torque.kept_next _).mpr ((now t).withWrite (fun x s h => by simpa using h) _ _ ok)
  case eStopAsserted t => exact execEStopAsserted_torque h t
  case eStopReleased t => exact execEStopReleased_torque h t
  case tripInputChange t input b => exact execTripInputChange_torque h t input b
  case panelStopKey t b => exact execPanelStopKey_torque h t b
  case coldReset | warmInput | hostLinkLoss =>
    simp only [exec, execColdReset, execWarmInput, execHostLinkLoss, Torque.kept_next]
    simp [h]
  case lightLost | symbolLockLost | symbolLockGained | frameHeaderArrival | transmitBoundary | bulkWaitAdmit |
      returnWatchExpiry =>
    have dark (t : Nat) : ((s.atTime t).onPins fun p => { p with light := false }).torque.Safe :=
      Torque.Safe.of_eq (s := s.atTime t) h (State.onPins_torque rfl)
    have lit (t : Nat) : ((s.atTime t).onPins fun p => { p with light := true, lock := true }).torque.Safe :=
      Torque.Safe.of_eq (s := s.atTime t) h (State.onPins_torque rfl)
    simp only [exec, execLightLost, execSymbolLockLost, execSymbolLockGained, execFrameHeaderArrival,
      execTransmitBoundary, execBulkWaitAdmit, execReturnWatchExpiry, Torque.kept_next]
    repeat' split
    all_goals simp [dark, lit, h]
  case testBlockReturn | lightCheckLockTimeout | lightCheckAttemptEnd | insertionTimeout | leaveTimeout |
      drainComplete | silenceRemoval | duplicateQuiet | join | leave =>
    simp only [exec, execTestBlockReturn, State.takeBlock, execLightCheckLockTimeout, execLightCheckAttemptEnd,
      execInsertionTimeout, execLeaveTimeout, execDrainComplete, execSilenceRemoval, execDuplicateQuiet, execJoin,
      execLeave, Torque.kept_next]
    repeat' split
    all_goals simp [h]
  case tickStart | beatStart | enterInStep | shaftLostStep | enterAlone | latenessClear | foundHistory | setSpeed |
      releaseStop =>
    simp only [exec, execTickStart, execBeatStart, execEnterInStep, execShaftLostStep, execEnterAlone,
      execLatenessClear, execFoundHistory, execSetSpeed, execReleaseStop, Torque.kept_next]
    repeat' split
    all_goals simp [h]
  case driveAnswer | answerWindowClose | triggerDue | triggerTimeout | giveStripBuffer | invalidateMapCache =>
    simp only [exec, execDriveAnswer, execAnswerWindowClose, execTriggerDue, execTriggerTimeout, execGiveStripBuffer,
      execInvalidateMapCache, Torque.kept_next]
    repeat' split
    all_goals simp [h]
  case tripLapse | raiseHostTrip | clearHostTrip | acknowledgeTrips =>
    simp only [exec, execTripLapse, execRaiseHostTrip, execClearHostTrip, execAcknowledgeTrips, Torque.kept_next]
    repeat' split
    all_goals simp [h]
  case touch | groupDeadline | tileProgressTimeout | displayFrameStart | setPageMap | publishTiles | openView |
      closeView =>
    simp only [exec, execTouch, execGroupDeadline, execTileProgressTimeout, execDisplayFrameStart, execSetPageMap,
      execPublishTiles, execOpenView, execCloseView, Torque.kept_next]
    repeat' split
    all_goals simp [h]
  case queueBaseWrite | queueSizeWrite | queueRunSet | queueRunClear | commandTailWrite | eventHeadWrite |
      windowWriteIgnored | descriptorFetch | configure | warmReset | readRoster | readTripTable | readLineState |
      readCounters | dmaTimeout =>
    simp only [exec, execQueueBaseWrite, execQueueSizeWrite, execQueueRunSet, execQueueRunClear, execCommandTailWrite,
      execEventHeadWrite, execWindowWriteIgnored, execDescriptorFetch, execConfigure, execWarmReset, execReadRoster,
      execReadTripTable, execReadLineState, execReadCounters, execDmaTimeout, Torque.kept_next]
    repeat' split
    all_goals simp [h]

/-- Settles O56: what gives torque is checked against the stops first, and what brings a stop takes the torque. -/
theorem torqueStaysSafe : Obligations.TorqueStaysSafe := by
  intro s u safe e
  have view : s.torque.Safe := State.torqueSafe_iff.mp safe
  refine State.torqueSafe_iff.mpr ?_
  unfold step at e
  split at e
  · cases e
    exact view
  · next i rest _ => exact exec_torque (s := { s with pending := rest }) view i u e

end Sys2Proof.Machine
end

/-! What the bounds on the stores of the Camera and Screen Units speak of, and what leaves it as it is (R110, R113, R162, R164,
R169, R178). -/

section
namespace Sys2Proof.Machine

/-! ## The stores -/

/-- Of the Camera Unit: how many records each write queue holds, the tags of the map cache, and its pointer. -/
structure CameraStock where
  queued : Quad Nat
  tags : List (Option (Fin 4 × Nat))
  pointer : Nat

/-- Of the Screen Unit: the ids of the tile store, the fill slots with their numbers of parts, the keys of the viewer sets, and
the number of positions. -/
structure ScreenStock where
  tiles : List TileId
  fills : List (TileId × Nat)
  viewers : Quad (List (Nat × Nat))
  positions : Nat

/-- The stores of both units. -/
structure Stores where
  cameras : CameraStock
  screen : ScreenStock

variable {s t : State} {v w : ScreenStock}

def Translation.tag (x : Translation) : Fin 4 × Nat := (x.cam, x.page)
def FillSlot.stock (f : FillSlot) : TileId × Nat := (f.id, f.parts.length)
def Viewer.key (x : Viewer) : Nat × Nat := (x.station, x.slot)

def Cu.stock (u : Cu) : CameraStock :=
  ⟨u.cams.map fun c => c.queue.length, u.cache.map (Option.map Translation.tag), u.pointer⟩

def Scu.stock (c : Scu) : ScreenStock :=
  ⟨c.tiles.map (·.id), c.fills.map FillSlot.stock, c.viewers.map (List.map Viewer.key), c.pageMap.length⟩

def State.stores (s : State) : Stores := ⟨s.cu.stock, s.scu.stock⟩

/-- Write queues of 16 records, and a cache of eight places without two translations of one tag (R110, R113). -/
structure CameraStock.Bounded (v : CameraStock) : Prop where
  queued : ∀ i, v.queued.get i ≤ 16
  places : v.tags.length = 8
  tags : (v.tags.filterMap id).Nodup
  pointer : v.pointer < 8

/-- A store of 512 tiles, eight fill slots of 16 parts and viewer sets of eight entries, without a tile or a key twice, and 768
positions (R162, R164, R169, R178). -/
structure ScreenStock.Bounded (v : ScreenStock) : Prop where
  tiles : v.tiles.length ≤ 512 ∧ v.tiles.Nodup
  fills : v.fills.length ≤ 8 ∧ (v.fills.map Prod.fst).Nodup
  parts : ∀ f ∈ v.fills, f.2 = 16
  viewers : ∀ i, (v.viewers.get i).length ≤ 8 ∧ (v.viewers.get i).Nodup
  positions : v.positions = 768

structure Stores.Bounded (v : Stores) : Prop where
  cameras : v.cameras.Bounded
  screen : v.screen.Bounded

theorem State.storesBounded_iff : s.StoresBounded ↔ s.stores.Bounded := by
  have tags : (s.cu.cache.map (Option.map Translation.tag)).filterMap id =
      (s.cu.cache.filterMap id).map fun x => (x.cam, x.page) := by
    rw [List.filterMap_map, List.map_filterMap]
    rfl
  have fills : (s.scu.fills.map FillSlot.stock).map Prod.fst = s.scu.fills.map (·.id) := by rw [List.map_map]; rfl
  have keys : Viewer.key = fun x => (x.station, x.slot) := rfl
  constructor
  · rintro ⟨queues, ⟨places, pointer, distinct⟩, tiles, ⟨slots, ids, parts⟩, viewers, positions⟩
    refine ⟨⟨fun i => ?_, ?_, ?_, pointer⟩, ⟨?_, ?_, ?_, fun i => ?_, positions⟩⟩
    · simpa [State.stores, Cu.stock, State.cam] using queues i
    · simpa [State.stores, Cu.stock] using places
    · exact tags ▸ distinct
    · simpa [State.stores, Scu.stock] using tiles
    · exact ⟨by simpa [State.stores, Scu.stock] using slots, fills ▸ ids⟩
    · intro f hf
      obtain ⟨x, hx, rfl⟩ := List.mem_map.mp hf
      exact parts x hx
    · simpa [State.stores, Scu.stock, keys] using viewers i
  · rintro ⟨⟨queues, places, distinct, pointer⟩, ⟨tiles, ⟨slots, ids⟩, parts, viewers, positions⟩⟩
    refine ⟨fun i => ?_, ⟨?_, pointer, tags ▸ distinct⟩, ?_, ⟨?_, fills ▸ ids, fun f hf => ?_⟩, fun i => ?_, positions⟩
    · simpa [State.stores, Cu.stock, State.cam] using queues i
    · simpa [State.stores, Cu.stock] using places
    · simpa [State.stores, Scu.stock] using tiles
    · simpa [State.stores, Scu.stock] using slots
    · exact parts _ (List.mem_map_of_mem hf)
    · simpa [State.stores, Scu.stock, keys] using viewers i

/-! ## Operations that leave the stores as they are -/

@[simp] theorem State.atTime_stores (t : Nat) (s : State) : (s.atTime t).stores = s.stores := (rfl)
@[simp] theorem State.onPins_stores (f : Pins → Pins) (s : State) : (s.onPins f).stores = s.stores := (rfl)
@[simp] theorem State.onRp_stores (f : Rp → Rp) (s : State) : (s.onRp f).stores = s.stores := (rfl)
@[simp] theorem State.onMc_stores (f : Mc → Mc) (s : State) : (s.onMc f).stores = s.stores := (rfl)
@[simp] theorem State.onSu_stores (f : Su → Su) (s : State) : (s.onSu f).stores = s.stores := (rfl)
@[simp] theorem State.onAu_stores (f : Au → Au) (s : State) : (s.onAu f).stores = s.stores := (rfl)
@[simp] theorem State.onMu_stores (f : Mu → Mu) (s : State) : (s.onMu f).stores = s.stores := (rfl)
@[simp] theorem State.onTu_stores (f : Tu → Tu) (s : State) : (s.onTu f).stores = s.stores := (rfl)
@[simp] theorem State.onCmp_stores (f : Cmp → Cmp) (s : State) : (s.onCmp f).stores = s.stores := (rfl)
@[simp] theorem State.onQ_stores (q : CmdQueue) (f : CmdQ → CmdQ) (s : State) : (s.onQ q f).stores = s.stores := (rfl)
@[simp] theorem State.onAxis_stores (i : Fin 4) (f : Axis → Axis) (s : State) : (s.onAxis i f).stores = s.stores := (rfl)
@[simp] theorem State.onLoop_stores (i : Fin 4) (f : Loop → Loop) (s : State) : (s.onLoop i f).stores = s.stores := (rfl)
@[simp] theorem State.onSlot_stores (n : Nat) (f : RosterSlot → RosterSlot) (s : State) :
    (s.onSlot n f).stores = s.stores := by rw [State.onSlot_eq]; rfl
@[simp] theorem State.issue_stores (x : Transfer) (s : State) : (s.issue x).stores = s.stores := (rfl)
@[simp] theorem State.issueRead_stores (p : Purpose) (u : DmaUnit) (a l : Nat) (s : State) :
    (s.issueRead p u a l).stores = s.stores := (rfl)
@[simp] theorem State.issueWrite_stores (p : Purpose) (u : DmaUnit) (a : Nat) (g : List (Nat × List Byte)) (s : State) :
    (s.issueWrite p u a g).stores = s.stores := (rfl)
@[simp] theorem State.dropDma_stores (p : Transfer → Bool) (s : State) : (s.dropDma p).stores = s.stores := (rfl)
@[simp] theorem State.setWorking_stores (s : State) : s.setWorking.stores = s.stores := (rfl)
@[simp] theorem State.loseEvent_stores (s : State) : s.loseEvent.stores = s.stores := (rfl)
@[simp] theorem State.pumpEvents_stores (s : State) : s.pumpEvents.stores = s.stores := by rw [State.pumpEvents_eq]; rfl
@[simp] theorem State.post_stores (e : Event) (s : State) : (s.post e).stores = s.stores := by rw [State.post_eq]; rfl
@[simp] theorem State.enterDmaError_stores (x : Transfer) (k : DmaKind) (s : State) :
    (s.enterDmaError x k).stores = s.stores := by rw [State.enterDmaError_eq]; rfl
@[simp] theorem State.complete_stores (q : CmdQueue) (r : Result) (d : Nat) (s : State) :
    (s.complete q r d).stores = s.stores := by rw [State.complete_eq]; rfl
@[simp] theorem State.result_stores (q : CmdQueue) (r : Result) (s : State) : (s.result q r).stores = s.stores :=
  s.complete_stores q r 0
@[simp] theorem State.offerR_stores (f : LaneFrame) (s : State) : (s.offerR f).1.stores = s.stores := by
  rw [State.offerR_eq]; rfl
@[simp] theorem State.offer_stores (f : LaneFrame) (s : State) : (s.offer f).stores = s.stores := s.offerR_stores f

/-- A change of the Camera Unit beside its stores. -/
theorem State.onCu_stores {f : Cu → Cu} (h : (f s.cu).stock = s.cu.stock) : (s.onCu f).stores = s.stores :=
  congrArg (Stores.mk · s.scu.stock) h

/-- A change of the Screen Unit beside its stores. -/
theorem State.onScu_stores {f : Scu → Scu} (h : (f s.scu).stock = s.scu.stock) : (s.onScu f).stores = s.stores :=
  congrArg (Stores.mk s.cu.stock) h

theorem Quad.map_modify {α β : Type} {f : α → α} {g : α → β} {q : Quad α} {i : Fin 4}
    (h : g (f (q.get i)) = g (q.get i)) : (q.modify i f).map g = q.map g := by
  match i with
  | 0 | 1 | 2 | 3 => simp only [Quad.modify, Quad.map, Quad.set, h]; rfl

/-- A change of a camera that leaves its write queue as long as it was. -/
theorem State.onCam_stores {i : Fin 4} {f : Cam → Cam} (h : (f (s.cam i)).queue.length = (s.cam i).queue.length) :
    (s.onCam i f).stores = s.stores :=
  State.onCu_stores (congrArg (CameraStock.mk · _ _) (Quad.map_modify (g := fun c : Cam => c.queue.length) h))

theorem State.Reported.stores_eq (h : s.Reported t) : t.stores = s.stores := by rw [h.fields]; rfl
theorem State.PortsOnly.stores_eq (h : s.PortsOnly t) : t.stores = s.stores := by rw [h]; rfl

/-- Four steps, one per unit, that leave the stores as they are. -/
theorem State.eachAxis_stores {f : Fin 4 → State → State} (h : ∀ i s, (f i s).stores = s.stores) (s : State) :
    (s.eachAxis f).stores = s.stores := by simp only [State.eachAxis, h]

theorem State.foldl_stores {α : Type} {f : State → α → State} (h : ∀ s a, (f s a).stores = s.stores) (x : List α)
    (s : State) : (x.foldl f s).stores = s.stores := by
  induction x generalizing s with
  | nil => rfl
  | cons a x ih => exact (ih _).trans (h s a)

/-! ## Operations that keep the bounds -/

theorem Stores.Bounded.of_eq (h : s.stores.Bounded) (e : t.stores = s.stores) : t.stores.Bounded := e ▸ h

theorem Stores.Bounded.onCu {f : Cu → Cu} (h : s.stores.Bounded) (k : s.cu.stock.Bounded → (f s.cu).stock.Bounded) :
    (s.onCu f).stores.Bounded := ⟨k h.cameras, h.screen⟩

theorem Stores.Bounded.onScu {f : Scu → Scu} (h : s.stores.Bounded) (k : s.scu.stock.Bounded → (f s.scu).stock.Bounded) :
    (s.onScu f).stores.Bounded := ⟨h.cameras, k h.screen⟩

/-- A change of a camera that leaves 16 records at most in its write queue. -/
theorem Stores.Bounded.onCam {i : Fin 4} {f : Cam → Cam} (h : s.stores.Bounded)
    (k : (s.cam i).queue.length ≤ 16 → (f (s.cam i)).queue.length ≤ 16) : (s.onCam i f).stores.Bounded := by
  refine h.onCu fun ⟨queued, places, tags, pointer⟩ => ⟨fun j => ?_, places, tags, pointer⟩
  have held (j : Fin 4) : (s.cam j).queue.length ≤ 16 := by simpa [Cu.stock, State.cam] using queued j
  by_cases same : j = i
  · subst same
    simpa [Cu.stock, State.cam] using k (held j)
  · simpa [Cu.stock, State.cam, Quad.get_modify_ne _ same] using held j

theorem Stores.Bounded.foldl {α : Type} {f : State → α → State} (h : s.stores.Bounded)
    (hf : ∀ s a, s.stores.Bounded → (f s a).stores.Bounded) (x : List α) : (x.foldl f s).stores.Bounded := by
  induction x generalizing s with
  | nil => exact h
  | cons a x ih => exact ih (hf s a h)

end Sys2Proof.Machine
end

/-! The bounds under the operations of the map cache, of the tile store with its fill slots, and of the viewer sets (R113,
R164 to R175, R178, R180). -/

section
namespace Sys2Proof.Machine

variable {c d : Scu} {u : Cu} {v w x : ScreenStock}

/-! ## The map cache (R113) -/

theorem Cu.emptyCache_bounded (h : u.stock.Bounded) : u.emptyCache.stock.Bounded :=
  ⟨h.queued, rfl, List.nodup_nil, Nat.zero_lt_succ 7⟩

/-- Two lists that differ in one place. -/
theorem filterMap_set_nodup {α : Type} {l : List (Option α)} {a : α} (h : (l.filterMap id).Nodup)
    (fresh : a ∉ l.filterMap id) (n : Nat) : ((l.set n (some a)).filterMap id).Nodup := by
  induction l generalizing n with
  | nil => simp
  | cons y l ih =>
    have tail : (l.filterMap id).Nodup := by
      cases y with
      | none => exact h
      | some b => exact (List.nodup_cons.mp h).2
    have rest : a ∉ l.filterMap id := fun k => fresh (List.mem_filterMap.mpr (by
      obtain ⟨z, hz, e⟩ := List.mem_filterMap.mp k
      exact ⟨z, List.mem_cons_of_mem _ hz, e⟩))
    cases n with
    | zero => exact List.nodup_cons.mpr ⟨rest, tail⟩
    | succ n =>
      have set := ih tail rest n
      cases y with
      | none => exact set
      | some b =>
        refine List.nodup_cons.mpr ⟨fun k => ?_, set⟩
        obtain ⟨z, hz, e⟩ := List.mem_filterMap.mp k
        rcases List.mem_or_eq_of_mem_set hz with old | rfl
        · exact (List.nodup_cons.mp h).1 (List.mem_filterMap.mpr ⟨z, old, e⟩)
        · cases e
          exact fresh (List.mem_cons_self ..)

/-- A translation takes the place of the one of its tag, or the pointer's place when there is none. -/
theorem Cu.insertTranslation_bounded (h : u.stock.Bounded) (t : Translation) :
    (u.insertTranslation t).stock.Bounded := by
  obtain ⟨queued, places, tags, pointer⟩ := h
  have tagged (k : Nat) (u : Cu) : (u.cache.set k (some t)).map (Option.map Translation.tag) =
      u.stock.tags.set k (some t.tag) := List.map_set
  unfold Cu.insertTranslation
  split
  · next k found =>
    obtain ⟨inside, same, -⟩ := List.findIdx?_eq_some_iff_getElem.mp found
    have held : u.stock.tags.set k (some t.tag) = u.stock.tags := by
      obtain ⟨y, hy⟩ := Option.isSome_iff_exists.mp (Option.isSome_of_any same)
      simp only [hy, Option.any_some, Bool.and_eq_true, beq_iff_eq] at same
      have tag : y.tag = t.tag := by rw [Translation.tag, same.1, same.2]; rfl
      refine List.ext_getElem List.length_set fun n _ here => ?_
      by_cases at_k : k = n
      · subst at_k
        simp [Cu.stock, hy, tag]
      · rw [List.getElem_set_ne at_k]
    refine ⟨queued, ?_, ?_, pointer⟩
    all_goals
      dsimp only [Cu.stock]
      rw [tagged, held]
      assumption
  · next absent =>
    have fresh : t.tag ∉ u.stock.tags.filterMap id := fun k => by
      obtain ⟨z, hz, rfl⟩ := List.mem_filterMap.mp k
      obtain ⟨y, hy, same⟩ := List.mem_map.mp hz
      obtain ⟨x, rfl, tag⟩ := Option.map_eq_some_iff.mp same
      obtain ⟨cam, page⟩ := Prod.mk.inj tag
      have other := List.findIdx?_eq_none_iff.mp absent _ hy
      simp [cam, page] at other
    refine ⟨queued, ?_, ?_, Nat.mod_lt _ (by decide)⟩
    · dsimp only [Cu.stock]
      rw [tagged, List.length_set]
      exact places
    · dsimp only [Cu.stock]
      rw [tagged]
      exact filterMap_set_nodup tags fresh _

/-! ## Fill slots freed (R172, R173) -/

/-- From `v` to `w` fill slots were freed, and nothing else happened. -/
structure ScreenStock.Frees (v w : ScreenStock) : Prop where
  rest : w = { v with fills := w.fills }
  fills : w.fills.Sublist v.fills

theorem ScreenStock.Frees.refl (v : ScreenStock) : v.Frees v := ⟨rfl, .refl _⟩

theorem ScreenStock.Frees.trans (h : v.Frees w) (k : w.Frees x) : v.Frees x :=
  ⟨by rw [k.rest, h.rest], k.fills.trans h.fills⟩

theorem ScreenStock.Frees.bounded (h : v.Frees w) (b : v.Bounded) : w.Bounded := by
  obtain ⟨tiles, ⟨slots, ids⟩, parts, viewers, positions⟩ := b
  rw [h.rest]
  exact ⟨tiles, ⟨h.fills.length_le.trans slots, ids.sublist (h.fills.map _)⟩, fun f hf => parts f (h.fills.mem hf), viewers,
    positions⟩

theorem Scu.freeFill_frees (id : TileId) (c : Scu) : c.stock.Frees (c.freeFill id).stock :=
  ⟨rfl, List.filter_sublist.map _⟩

/-- A change of entries that leaves their ids. -/
theorem Scu.mapTiles_stock (f : Tile → Tile) (c : Scu) (h : ∀ t, (f t).id = t.id) :
    Scu.stock { c with tiles := c.tiles.map f } = c.stock := by
  simp [Scu.stock, h]

theorem Scu.onTile_stock (id : TileId) (f : Tile → Tile) (c : Scu) (h : ∀ t, (f t).id = t.id := by exact fun _ => rfl) :
    (c.onTile id f).stock = c.stock := Scu.mapTiles_stock _ c fun t => by split <;> simp [h]

theorem Scu.commit_frees (now : Nat) (id : TileId) (c : Scu) : c.stock.Frees (c.commit now id).stock := by
  unfold Scu.commit
  split
  · next f _ =>
    split
    · have kept : (c.onTile id (Tile.commit now f)).stock = c.stock := Scu.onTile_stock id _ c
      exact kept ▸ Scu.freeFill_frees id _
    · exact .refl _
  · exact .refl _

theorem Scu.commits_frees (now : Nat) (ids : List TileId) (c : Scu) :
    c.stock.Frees (ids.foldl (Scu.commit now) c).stock := by
  induction ids generalizing c with
  | nil => exact .refl _
  | cons id ids ih => exact (c.commit_frees now id).trans (ih _)

theorem Scu.testGroup_frees (now p g : Nat) (c : Scu) : c.stock.Frees (c.testGroup now p g).stock := by
  unfold Scu.testGroup
  dsimp only
  split
  · exact c.commits_frees now _
  · exact .refl _

theorem Scu.endGroup_frees (now p g : Nat) (c : Scu) : c.stock.Frees (c.endGroup now p g).stock := by
  unfold Scu.endGroup
  dsimp only
  rw [Scu.mapTiles_stock _ _ fun t => by split <;> rfl]
  exact c.commits_frees now _

theorem Scu.slotComplete_frees (now : Nat) (id : TileId) (c : Scu) : c.stock.Frees (c.slotComplete now id).stock := by
  unfold Scu.slotComplete
  split
  · exact c.commit_frees now id
  · exact c.testGroup_frees now _ _

theorem Scu.remark_frees (now : Nat) (old : Scu) (id : TileId) (c : Scu) :
    c.stock.Frees (Scu.remark now old id c).stock := by
  unfold Scu.remark
  split
  · exact .refl _
  · have looked : c.stock.Frees (if c.filled id then c.slotComplete now id else c).stock := by
      split
      · exact c.slotComplete_frees now id
      · exact .refl _
    dsimp only
    split
    · exact looked.trans (Scu.testGroup_frees now _ _ _)
    · exact looked

theorem Scu.fail_frees (now : Nat) (id : TileId) (c : Scu) : c.stock.Frees (c.fail now id).stock := by
  have failed : (c.onTile id fun t => { t with state := .failed, mark := none }).stock = c.stock :=
    Scu.onTile_stock id _ c
  have freed := Scu.freeFill_frees id (c.onTile id fun t => { t with state := .failed, mark := none })
  rw [failed] at freed
  have counted (d : Scu) (n : Nat) : d.stock.Frees (Scu.remark now c id { d with fillFailures := n }).stock :=
    Scu.remark_frees now c id { d with fillFailures := n }
  exact freed.trans (counted _ _)

/-! ## Invalidates and fragments (R169 to R171) -/

theorem Tile.invalidate_id (now g n v : Nat) (t : Tile) : (t.invalidate now g n v).id = t.id := by
  unfold Tile.invalidate
  dsimp only
  repeat' split
  all_goals rfl

theorem Tile.expect_id (now : Nat) (f : TileFrag) (t : Tile) : (t.expect now f).id = t.id := by
  unfold Tile.expect
  dsimp only
  repeat' split
  all_goals rfl

theorem Scu.judged_stock (now p g n : Nat) (tiles : List (Nat × Nat × Nat)) (c : Scu) :
    (c.judged now p g n tiles).stock = c.stock := by
  unfold Scu.judged
  induction tiles generalizing c with
  | nil => rfl
  | cons x tiles ih => exact (ih _).trans (Scu.onTile_stock _ _ c (Tile.invalidate_id now g n _))

theorem Scu.invalidate_frees (now p g n : Nat) (tiles : List (Nat × Nat × Nat)) (c : Scu) :
    c.stock.Frees (c.invalidate now p g n tiles).stock := by
  have marked (l : List (Nat × Nat × Nat)) (d : Scu) : d.stock.Frees
      (l.foldl (fun d x => Scu.remark now c { publisher := p, page := x.1, index := x.2.1 } d) d).stock := by
    induction l generalizing d with
    | nil => exact .refl _
    | cons x l ih => exact (Scu.remark_frees now c _ d).trans (ih _)
  have all := marked tiles (c.judged now p g n tiles)
  rw [Scu.judged_stock] at all
  exact all

/-- A slot of 16 parts written into stays in the place of the entry's slot. -/
theorem Scu.placeIn_bounded {f : TileFrag} {slot : FillSlot} (h : c.stock.Bounded) (id : slot.id = f.id)
    (parts : slot.parts.length = 16) (now : Nat) : (c.placeIn now f slot).stock.Bounded := by
  have placed : Scu.stock { c with fills := c.fills.map fun x => if x.id == f.id then slot.write f else x } = c.stock := by
    have same : ∀ x ∈ c.fills, (if x.id == f.id then slot.write f else x).stock = x.stock := by
      intro x hx
      split
      · next own =>
        have whole : x.parts.length = 16 := h.parts _ (List.mem_map_of_mem hx)
        simp only [FillSlot.stock, FillSlot.write, List.length_set, id, parts, whole, beq_iff_eq.mp own]
      · rfl
    simp only [Scu.stock, List.map_map]
    rw [List.map_congr_left (g := FillSlot.stock) (by exact same)]
  have moved := (Scu.onTile_stock f.id (fun t => { t with progress := now }) _).trans placed
  unfold Scu.placeIn
  dsimp only
  split
  · exact (Scu.slotComplete_frees now f.id _).bounded (moved ▸ h)
  · exact moved ▸ h

theorem nodup_snoc {α : Type} {l : List α} {a : α} (h : l.Nodup) (fresh : a ∉ l) : (l ++ [a]).Nodup :=
  List.concat_eq_append ▸ h.concat fresh

theorem Scu.fillOf_some {id : TileId} {x : FillSlot} (h : c.fillOf id = some x) : x ∈ c.fills ∧ x.id = id :=
  ⟨List.mem_of_find?_eq_some h, by simpa using List.find?_some h⟩

theorem Scu.fillOf_none {id : TileId} (h : c.fillOf id = none) : id ∉ c.fills.map (·.id) := by
  rintro k
  obtain ⟨x, hx, same⟩ := List.mem_map.mp k
  exact absurd (beq_iff_eq.mpr same) (List.find?_eq_none.mp h x hx)

/-- A fragment of a tile without a slot takes a ninth slot at most. -/
theorem Scu.addSlot_bounded {f : TileFrag} (h : c.stock.Bounded) (none : c.fillOf f.id = none) (room : c.fills.length < 8) :
    (Scu.stock { c with fills := c.fills ++ [f.slot] }).Bounded := by
  obtain ⟨tiles, ⟨slots, ids⟩, parts, viewers, positions⟩ := h
  have joined : (c.fills ++ [f.slot]).map FillSlot.stock = c.stock.fills ++ [(f.id, 16)] := List.map_append
  have fresh : f.id ∉ c.stock.fills.map Prod.fst := by
    rw [Scu.stock, List.map_map]
    exact Scu.fillOf_none none
  refine ⟨tiles, ?_, ?_, viewers, positions⟩
  · dsimp only [Scu.stock]
    rw [joined, List.map_append]
    exact ⟨by simpa [Scu.stock] using room, nodup_snoc ids fresh⟩
  · dsimp only [Scu.stock]
    rw [joined]
    intro x hx
    rcases List.mem_append.mp hx with old | new
    · exact parts x old
    · rw [List.mem_singleton.mp new]

theorem Scu.placeFragment_bounded (h : c.stock.Bounded) (now : Nat) (f : TileFrag) :
    (c.placeFragment now f).stock.Bounded := by
  have slot : f.slot.parts.length = 16 := rfl
  unfold Scu.placeFragment
  split
  · next none =>
    split
    · next room => exact Scu.placeIn_bounded (Scu.addSlot_bounded h none room) rfl slot now
    · exact h
  · next x found =>
    obtain ⟨mem, id⟩ := Scu.fillOf_some found
    have whole : x.parts.length = 16 := h.parts _ (List.mem_map_of_mem mem)
    split
    · exact Scu.placeIn_bounded h rfl slot now
    · split
      · exact Scu.placeIn_bounded h id whole now
      · exact h

theorem Scu.takeFragment_bounded (h : c.stock.Bounded) (now : Nat) (f : TileFrag) :
    (Scu.takeFragment now c f).stock.Bounded := by
  unfold Scu.takeFragment
  split
  · exact h
  · split
    · have expected := Scu.onTile_stock f.id _ c (Tile.expect_id now f)
      exact (Scu.remark_frees ..).bounded (Scu.placeFragment_bounded (expected ▸ h) now f)
    · exact h

/-! ## The tile store (R163 to R165) -/

theorem Scu.release_stock (x : Content) (c : Scu) : (c.release x).stock = c.stock := by
  cases x with
  | tile id => exact Scu.onTile_stock id _ c
  | blank | inset => rfl

theorem Scu.put_stock (n : Nat) (x : Content) (c : Scu) : (c.put n x).stock = c.stock := by
  simp [Scu.stock, Scu.put]

/-- An entry that moves to the most recent end of the store. -/
theorem Scu.reference_bounded (h : c.stock.Bounded) (now : Nat) (id : TileId) : (c.reference now id).stock.Bounded := by
  unfold Scu.reference
  split
  · exact h
  · next t found =>
    have mem := List.mem_of_find?_eq_some found
    have own : t.id = id := by simpa using List.find?_some found
    have moved : (c.tiles.filter (fun (x : Tile) => x.id != id) ++ [{ t with
        refs := t.refs + 1, progress := if t.refs = 0 then now else t.progress }]).map Tile.id =
          c.stock.tiles.filter (fun (x : TileId) => x != id) ++ [id] := by
      simp [Scu.stock, List.filter_map, Function.comp_def, own]
    have fewer : (c.stock.tiles.filter (fun (x : TileId) => x != id)).length < c.stock.tiles.length :=
      List.length_filter_lt_length_iff_exists.mpr ⟨id, own ▸ List.mem_map_of_mem mem, by simp⟩
    obtain ⟨⟨room, ids⟩, fills, parts, viewers, positions⟩ := h
    refine ⟨?_, fills, parts, viewers, positions⟩
    dsimp only [Scu.stock]
    rw [moved, List.length_append]
    exact ⟨fewer.trans_le room, nodup_snoc (ids.filter _) (by simp)⟩

/-- An entry that is evicted leaves, and fill slots with it (R165, R173). -/
theorem Scu.evict_frees (now : Nat) (t : Tile) (c : Scu) :
    ScreenStock.Frees { c.stock with tiles := c.stock.tiles.filter (fun (x : TileId) => x != t.id) } (c.evict now t).stock := by
  have left : (c.tiles.filter fun (x : Tile) => x.id != t.id).map (·.id) =
      c.stock.tiles.filter (fun (x : TileId) => x != t.id) := by
    simp [Scu.stock, List.filter_map, Function.comp_def]
  have freed := Scu.freeFill_frees t.id { c with tiles := c.tiles.filter fun (x : Tile) => x.id != t.id }
  have entries : Scu.stock { c with tiles := c.tiles.filter fun (x : Tile) => x.id != t.id } =
      { c.stock with tiles := c.stock.tiles.filter (fun (x : TileId) => x != t.id) } :=
    congrArg (ScreenStock.mk · _ _ _) left
  rw [entries] at freed
  unfold Scu.evict
  dsimp only
  split
  · exact freed.trans (Scu.testGroup_frees ..)
  · exact freed

/-- Where room is made for an entry the store has a place, and no new id (R165). -/
theorem Scu.makeRoom_bounded {now : Nat} (h : c.stock.Bounded) (room : c.makeRoom now = some d) :
    d.stock.Bounded ∧ d.stock.tiles.length < 512 ∧ ∀ id ∈ d.stock.tiles, id ∈ c.stock.tiles := by
  unfold Scu.makeRoom at room
  split at room
  · next less =>
    cases room
    exact ⟨h, by simpa [Scu.stock] using less, fun _ => id⟩
  · obtain ⟨t, found, rfl⟩ := Option.map_eq_some_iff.mp room
    have mem : t.id ∈ c.stock.tiles := List.mem_map_of_mem (List.mem_of_find?_eq_some found)
    have evicted := c.evict_frees now t
    have tiles : (c.evict now t).stock.tiles = c.stock.tiles.filter (fun (x : TileId) => x != t.id) := by rw [evicted.rest]
    obtain ⟨⟨len, ids⟩, fills, parts, viewers, positions⟩ := h
    have fewer : (c.stock.tiles.filter (fun (x : TileId) => x != t.id)).length < c.stock.tiles.length :=
      List.length_filter_lt_length_iff_exists.mpr ⟨t.id, mem, by simp⟩
    refine ⟨evicted.bounded ⟨⟨by exact fewer.le.trans len, ids.filter _⟩, fills, parts, viewers, positions⟩, ?_, ?_⟩
    · rw [tiles]
      exact fewer.trans_le len
    · rw [tiles]
      exact fun _ k => List.mem_of_mem_filter k

/-- A new entry of an id that has none joins the store. -/
theorem Scu.addTile_bounded {x : Tile} (h : c.stock.Bounded) (room : c.stock.tiles.length < 512)
    (fresh : x.id ∉ c.stock.tiles) : (Scu.stock { c with tiles := c.tiles ++ [x] }).Bounded := by
  have joined : (c.tiles ++ [x]).map (·.id) = c.stock.tiles ++ [x.id] := List.map_append
  obtain ⟨⟨-, ids⟩, fills, parts, viewers, positions⟩ := h
  refine ⟨?_, fills, parts, viewers, positions⟩
  dsimp only [Scu.stock]
  rw [joined, List.length_append]
  exact ⟨room, nodup_snoc ids fresh⟩

theorem Scu.tile_none {id : TileId} (h : (c.tile id).isSome ≠ true) : id ∉ c.stock.tiles := by
  intro k
  obtain ⟨t, ht, rfl⟩ := List.mem_map.mp k
  exact h (List.find?_isSome.mpr ⟨t, ht, by simp⟩)

/-! ## Viewer sets (R178, R180) -/

/-- Viewer sets of eight entries at most, without a key twice. -/
def ViewersBounded (q : Quad (List Viewer)) : Prop := ∀ i, (q.get i).length ≤ 8 ∧ ((q.get i).map Viewer.key).Nodup

theorem Scu.viewers_bounded (h : c.stock.Bounded) : ViewersBounded c.viewers := fun i => by
  simpa [Scu.stock] using h.viewers i

theorem Scu.withViewers_bounded {q : Quad (List Viewer)} (h : c.stock.Bounded) (k : ViewersBounded q) :
    (Scu.stock { c with viewers := q }).Bounded :=
  ⟨h.tiles, h.fills, h.parts, fun i => by simpa [Scu.stock] using k i, h.positions⟩

/-- Viewer sets with some of the entries they had. -/
theorem ViewersBounded.sublist {q r : Quad (List Viewer)} (h : ViewersBounded q)
    (sub : ∀ i, (r.get i).Sublist (q.get i)) : ViewersBounded r := fun i =>
  ⟨(sub i).length_le.trans (h i).1, (h i).2.sublist ((sub i).map _)⟩

/-- The viewer set of one camera replaced. -/
theorem ViewersBounded.set {q : Quad (List Viewer)} {l : List Viewer} (h : ViewersBounded q)
    (k : l.length ≤ 8 ∧ (l.map Viewer.key).Nodup) (i : Fin 4) : ViewersBounded (q.set i l) := fun j => by
  by_cases same : j = i
  · subst same
    simpa using k
  · rw [Quad.get_set_ne q same]
    exact h j

theorem Scu.dropViewer_bounded (h : c.stock.Bounded) (n k : Nat) (i : Fin 4) : (c.dropViewer n k i).stock.Bounded := by
  refine Scu.withViewers_bounded h ((Scu.viewers_bounded h).set ?_ i)
  have left : ((c.viewers.get i).filter fun v => !v.hasKey n k).Sublist (c.viewers.get i) := List.filter_sublist
  have held := Scu.viewers_bounded h i
  exact ⟨left.length_le.trans held.1, held.2.sublist (left.map _)⟩

theorem Scu.dropStation_bounded (h : c.stock.Bounded) (n : Nat) : (c.dropStation n).stock.Bounded :=
  Scu.withViewers_bounded h ((Scu.viewers_bounded h).sublist fun i => by
    rw [Quad.get_map]
    exact List.filter_sublist)

theorem Scu.dropElsewhere_bounded (h : c.stock.Bounded) (n k : Nat) (i : Fin 4) :
    (c.dropElsewhere n k i).stock.Bounded := by
  have held := Scu.viewers_bounded h
  refine Scu.withViewers_bounded h (ViewersBounded.set (held.sublist fun j => ?_) (held i) i)
  rw [Quad.get_map]
  exact List.filter_sublist

theorem Scu.noViewers_bounded (h : c.stock.Bounded) : (Scu.stock { c with viewers := Quad.rep [] }).Bounded :=
  Scu.withViewers_bounded h fun i => by simp

/-- A request changes the entry of its key, or joins a set that holds less than eight without it (R180). -/
theorem Scu.viewRequest_bounded (h : c.stock.Bounded) (cams : Fin 4 → Option CamCfg) (n k cam d width : Nat) :
    (c.viewRequest cams n k cam d width).1.stock.Bounded := by
  unfold Scu.viewRequest
  split
  · exact h
  · next i cfg _ =>
    have dropped := Scu.dropElsewhere_bounded h n k i
    generalize c.dropElsewhere n k i = x at dropped
    have held := Scu.viewers_bounded dropped i
    dsimp only
    split
    · refine Scu.withViewers_bounded dropped ((Scu.viewers_bounded dropped).set ⟨by simpa using held.1, ?_⟩ i)
      have keys : ∀ v : Viewer, Viewer.key (if v.hasKey n k then
          { v with decimation := effectiveDecimation cfg.width d, width := width } else v) = v.key := fun v => by
        split <;> rfl
      simpa [List.map_map, Function.comp_def, keys] using held.2
    · next absent =>
      split
      · exact dropped
      · next room =>
        refine Scu.withViewers_bounded dropped ((Scu.viewers_bounded dropped).set ?_ i)
        have fresh : (n, k) ∉ (x.viewers.get i).map Viewer.key := fun mem => by
          obtain ⟨v, hv, same⟩ := List.mem_map.mp mem
          refine absent (List.any_eq_true.mpr ⟨v, hv, ?_⟩)
          obtain ⟨station, slot⟩ := Prod.mk.inj same
          simp [Viewer.hasKey, station, slot]
        rw [List.map_append, List.length_append]
        exact ⟨by simpa using room, nodup_snoc held.2 fresh⟩

theorem Scu.setView_stock (i : Fin 2) (v : ViewSlot) (c : Scu) : (c.setView i v).stock = c.stock := by
  match i with
  | 0 | 1 => rfl

theorem Scu.takeViewLine_stock (m : ViewLineMsg) (c : Scu) : (c.takeViewLine m).stock = c.stock := by
  unfold Scu.takeViewLine
  split
  · exact c.setView_stock _ _
  · rfl

/-- Insets put or taken back at positions leave the entries' ids and the number of positions. -/
theorem Scu.foldl_stock {f : Scu → Nat → Scu} (h : ∀ c n, (f c n).stock = c.stock) (l : List Nat) (c : Scu) :
    (l.foldl f c).stock = c.stock := by
  induction l generalizing c with
  | nil => rfl
  | cons n l ih => exact (ih _).trans (h c n)

theorem Scu.putInset_stock (i : Fin 2) (c : Scu) (n : Nat) : (c.putInset i n).stock = c.stock :=
  (Scu.put_stock ..).trans (Scu.release_stock ..)

theorem Scu.blankInset_stock (i : Fin 2) (c : Scu) (n : Nat) : (c.blankInset i n).stock = c.stock := by
  unfold Scu.blankInset
  split
  · exact Scu.put_stock ..
  · rfl

end Sys2Proof.Machine
end

/-! The stores under reports of causes and under the operations of the Ring Port and of the Axis and Mark Units: these
leave them as they are (R9 to R23, R75 to R94, R119 to R152). -/

section
namespace Sys2Proof.Machine

variable {s t : State}

/-! ## Trips and reports of causes (R134 to R152) -/

@[simp] theorem State.reportTrue_stores (c d : Nat) (s : State) : (s.reportTrue c d).stores = s.stores :=
  (State.reportTrue_reported c d s).stores_eq
@[simp] theorem State.reportFalse_stores (c d : Nat) (s : State) : (s.reportFalse c d).stores = s.stores :=
  (State.reportFalse_reported c d s).stores_eq
@[simp] theorem State.report_stores (c d : Nat) (b : Bool) (s : State) : (s.report c d b).stores = s.stores :=
  (State.report_reported c d b s).stores_eq
@[simp] theorem State.reportAllFalse_stores (c : Nat) (p : Nat → Bool) (s : State) :
    (s.reportAllFalse c p).stores = s.stores := (State.reportAllFalse_reported c p s).stores_eq
@[simp] theorem State.postNotice_stores (s : State) : s.postNotice.stores = s.stores := s.postNotice_reported.stores_eq
@[simp] theorem State.clearTrip_stores (k : TripKey) (s : State) : (s.clearTrip k).stores = s.stores :=
  (State.clearTrip_reported k s).stores_eq
@[simp] theorem State.lapseTrip_stores (k : TripKey) (s : State) : (s.lapseTrip k).stores = s.stores :=
  (State.lapseTrip_reported k s).stores_eq
@[simp] theorem State.orphanWhere_stores (p : Nat → Bool) (s : State) : (s.orphanWhere p).stores = s.stores :=
  (State.orphanWhere_reported p s).stores_eq
@[simp] theorem State.takeRaise_stores (r : Raise) (s : State) : (s.takeRaise r).stores = s.stores :=
  (State.takeRaise_reported r s).stores_eq
@[simp] theorem State.takeRefresh_stores (r : Raise) (s : State) : (s.takeRefresh r).stores = s.stores :=
  (State.takeRefresh_reported r s).stores_eq
@[simp] theorem State.installEntry_stores (e : Entry) (s : State) : (s.installEntry e).stores = s.stores :=
  (State.installEntry_reported e s).stores_eq
@[simp] theorem State.enterTorqueOff_stores (r : AxisReason) (i : Fin 4) (s : State) :
    (s.enterTorqueOff r i).stores = s.stores := (State.enterTorqueOff_reported r i s).stores_eq
@[simp] theorem State.torqueOffAll_stores (r : AxisReason) (s : State) : (s.torqueOffAll r).stores = s.stores :=
  (State.torqueOffAll_reported r s).stores_eq
@[simp] theorem State.endDuplicate_stores (s : State) : s.endDuplicate.stores = s.stores :=
  s.endDuplicate_reported.stores_eq
@[simp] theorem State.updateLocalStop_stores (s : State) : s.updateLocalStop.stores = s.stores := (rfl)

@[simp] theorem State.takeTrip_stores (c : Copy) (s : State) : (s.takeTrip c).stores = s.stores := by
  unfold State.takeTrip
  dsimp only
  repeat' split
  all_goals simp

@[simp] theorem State.offerRefreshes_stores (s : State) : s.offerRefreshes.stores = s.stores := by
  rw [State.offerRefreshes_eq]; rfl

@[simp] theorem State.raisesOnEntry_stores (s : State) : s.raisesOnEntry.stores = s.stores :=
  State.foldl_stores (fun s c => by simp [State.raiseOnEntry]) _ s

@[simp] theorem State.stepQuiet_stores (s : State) : s.stepQuiet.stores = s.stores := by
  rw [State.stepQuiet_eq]; rfl

/-! ## The Ring Port (R9 to R23) -/

@[simp] theorem State.offerScreen_stores (f : LaneFrame) (s : State) : (s.offerScreen f).stores = s.stores :=
  (State.PortsOnly.offerScreen f s).stores_eq
@[simp] theorem State.offerAll_stores (fs : List LaneFrame) (s : State) : (s.offerAll fs).stores = s.stores :=
  (State.PortsOnly.offerAll fs s).stores_eq
theorem State.muPumpN_stores (n : Nat) (s : State) : (s.muPumpN n).stores = s.stores := by
  induction n generalizing s with
  | zero => rfl
  | succ n ih =>
    unfold State.muPumpN
    dsimp only
    repeat' split
    all_goals simp [ih]
@[simp] theorem State.muPump_stores (s : State) : s.muPump.stores = s.stores := s.muPumpN_stores _

/-- A change of the publication in progress. -/
@[simp] theorem State.withPub_stores (p : Option Publication) (s : State) :
    (s.onScu fun c => { c with pub := p }).stores = s.stores := (rfl)

@[simp] theorem State.pubAdvance_stores (s : State) : s.pubAdvance.stores = s.stores := by
  unfold State.pubAdvance
  repeat' split
  all_goals simp
@[simp] theorem State.emptyBulk_stores (s : State) : s.emptyBulk.stores = s.stores := by
  have refused : s.bulkDropped.stores = s.stores := by
    unfold State.bulkDropped
    split <;> simp [s.bulkRefused_portsOnly.stores_eq]
  rw [State.emptyBulk_stages, State.pubAdvance_stores, State.muPump_stores, State.offerAll_stores, refused]
@[simp] theorem State.admitWaiting_stores (s : State) : s.admitWaiting.stores = s.stores := by
  unfold State.admitWaiting
  repeat' split
  all_goals simp
@[simp] theorem State.sendTest_stores (s : State) : s.sendTest.stores = s.stores := (rfl)
@[simp] theorem State.handCopy_stores (k : Kind) (c : Copy) (s : State) : (s.handCopy k c).stores = s.stores := by
  unfold State.handCopy
  repeat' split
  all_goals rfl
@[simp] theorem State.receiverError_stores (s : State) : s.receiverError.stores = s.stores := by
  unfold State.receiverError
  dsimp only
  split <;> simp
@[simp] theorem State.rollErrorWindow_stores (s : State) : s.rollErrorWindow.stores = s.stores := by
  unfold State.rollErrorWindow
  dsimp only
  split <;> simp
@[simp] theorem State.watchMissing_stores (q : Nat) (s : State) : (s.watchMissing q).stores = s.stores := by
  unfold State.watchMissing
  dsimp only
  split <;> simp
@[simp] theorem State.takeReturn_stores (c q : Nat) (s : State) : (s.takeReturn c q).stores = s.stores := by
  unfold State.takeReturn
  repeat' split
  all_goals simp
@[simp] theorem State.endReception_stores (rx : Reception) (b : List Byte) (e : FrameEnding) (s : State) :
    (s.endReception rx b e).stores = s.stores := by
  unfold State.endReception State.countAborted
  dsimp only
  repeat' split
  all_goals simp
@[simp] theorem State.cutReception_stores (m : Bool) (a : List Byte) (s : State) :
    (s.cutReception m a).stores = s.stores := by
  unfold State.cutReception
  repeat' split
  all_goals simp
@[simp] theorem State.launch_stores (lane : Lane) (f : LaneFrame) (s : State) : (s.launch lane f).stores = s.stores := by
  have watched (x : State) (q : Nat) : (x.watchLaunch q).stores = x.stores := by
    unfold State.watchLaunch
    dsimp only
    split <;> simp
  cases lane
  · exact watched _ _
  · rfl
@[simp] theorem State.arbitrate_stores (n : Nat) (s : State) : (s.arbitrate n).stores = s.stores := by
  unfold State.arbitrate
  dsimp only
  repeat' split
  all_goals simp

/-! ## The Axis Unit (R75 to R94) -/

@[simp] theorem State.changeAxis_stores (i : Fin 4) (f : Axis → Axis) (r : AxisReason) (s : State) :
    (s.changeAxis i f r).stores = s.stores := by rw [State.changeAxis_eq]; rfl
theorem State.AxesMove.stores_eq (h : s.AxesMove t) : t.stores = s.stores := by rw [h]; rfl
@[simp] theorem State.axisTicks_stores (s : State) : (s.eachAxis State.axisTick).stores = s.stores :=
  s.axisTicks_moves.stores_eq
@[simp] theorem State.axisTickEnd_stores (i : Fin 4) (s : State) : (s.axisTickEnd i).stores = s.stores :=
  (s.axisTickEnd_moves i).stores_eq
@[simp] theorem State.historyDecouple_stores (v : Nat) (i : Fin 4) (s : State) :
    (s.historyDecouple v i).stores = s.stores := by
  unfold State.historyDecouple
  repeat' split
  all_goals simp
@[simp] theorem State.takeCorrection_stores (a : Nat) (e : Int) (s : State) :
    (s.takeCorrection a e).stores = s.stores := by
  unfold State.takeCorrection State.discardCorrection
  repeat' split
  all_goals simp
@[simp] theorem State.driveTrip_stores (r : AxisReason) (c : Nat) (i : Fin 4) (s : State) :
    (s.driveTrip r c i).stores = s.stores := by simp [State.driveTrip]
@[simp] theorem State.answer_stores (c : AxisCfg) (p : Nat) (x : Answer) (i : Fin 4) (s : State) :
    (s.answer c p x i).stores = s.stores := by
  unfold State.answer State.judgeAnswer
  dsimp only
  repeat' split
  all_goals simp
@[simp] theorem State.closeWindow_stores (c : AxisCfg) (i : Fin 4) (s : State) : (s.closeWindow c i).stores = s.stores := by
  unfold State.closeWindow
  dsimp only
  split <;> simp

/-! ## The Mark Unit (R119 to R133) -/

@[simp] theorem State.loopEvent_stores (i : Fin 4) (p : LoopState) (r : LoopReason) (n : Option Nat) (s : State) :
    (s.loopEvent i p r n).stores = s.stores := State.post_stores _ s
@[simp] theorem State.issueCorrection_stores (x : MarkEntry) (e : Int) (s : State) :
    (s.issueCorrection x e).stores = s.stores := by
  unfold State.issueCorrection State.sendCorrection
  split <;> simp
@[simp] theorem State.stepTolerance_stores (i : Fin 4) (c : CamCfg) (n : Nat) (e : Int) (s : State) :
    (s.stepTolerance i c n e).stores = s.stores := by
  unfold State.stepTolerance
  dsimp only
  repeat' split
  all_goals simp
@[simp] theorem State.clearTolerance_stores (i : Fin 4) (s : State) : (s.clearTolerance i).stores = s.stores := by
  simp [State.clearTolerance]
@[simp] theorem State.judge_stores (i : Fin 4) (c : CamCfg) (r p n : Nat) (s : State) :
    (s.judge i c r p n).stores = s.stores := by
  unfold State.judge State.markMissing State.markFound
  dsimp only
  repeat' split
  all_goals simp
@[simp] theorem State.evaluate_stores (i : Fin 4) (c : CamCfg) (r : Nat) (s : State) :
    (s.evaluate i c r).stores = s.stores := by
  have full (p : Option Nat) : (s.evaluateFull i c r p).stores = s.stores := by
    unfold State.evaluateFull
    dsimp only
    split
    · split <;> simp
    · exact (State.foldl_stores (fun s n => by simp) _ _).trans (by simp)
  have seek (p : Option Nat) : (s.evaluateSeek i c p).stores = s.stores := by
    unfold State.evaluateSeek
    dsimp only
    repeat' split
    all_goals simp
  unfold State.evaluate
  repeat' split
  all_goals simp [full, seek]
@[simp] theorem State.markTick_stores (s : State) : s.markTick.stores = s.stores := by
  have ticked (n : Cov) (i : Fin 4) (s : State) : (s.loopTick n i).stores = s.stores := by
    unfold State.loopTick
    dsimp only
    repeat' split
    all_goals simp
  have compared (i : Fin 4) (s : State) : (s.loopCompare i).stores = s.stores := by
    unfold State.loopCompare State.loopSpeed
    dsimp only
    repeat' split
    all_goals simp
  rw [State.markTick, State.onMu_stores, State.eachAxis_stores compared, State.eachAxis_stores (ticked _)]
@[simp] theorem State.enterSeeking_stores (i : Fin 4) (r : LoopReason) (s : State) :
    (s.enterSeeking i r).stores = s.stores := by simp [State.enterSeeking]
@[simp] theorem State.enterOff_stores (i : Fin 4) (r : LoopReason) (s : State) : (s.enterOff i r).stores = s.stores := by
  unfold State.enterOff
  dsimp only
  split <;> simp
@[simp] theorem State.configureLoop_stores (i : Fin 4) (s : State) : (s.configureLoop i).stores = s.stores := by
  unfold State.configureLoop
  dsimp only
  split <;> simp
@[simp] theorem State.markLine_stores (i : Fin 4) (c : CamCfg) (g : LineTag) (p : List Byte) (s : State) :
    (s.markLine i c g p).stores = s.stores := by
  unfold State.markLine; split <;> simp
@[simp] theorem State.takeMarkTable_stores (i : Fin 4) (b : List Byte) (s : State) :
    (s.takeMarkTable i b).stores = s.stores := by
  unfold State.takeMarkTable; split <;> simp
@[simp] theorem State.rearmEntries_stores (i : Fin 4) (s : State) : (s.rearmEntries i).stores = s.stores := by
  unfold State.rearmEntries
  dsimp only
  split <;> simp

end Sys2Proof.Machine
end

/-! The bounds on the stores under the operations of the Camera and Screen Units (R99 to R115, R162 to R183). -/

section
namespace Sys2Proof.Machine

variable {s t : State}

/-! ## The Camera Unit (R99 to R115) -/

theorem Cam.onBuf_queue (h : Half) (f : StripBuf → StripBuf) (c : Cam) : (c.onBuf h f).queue = c.queue := by
  cases h <;> rfl

@[simp] theorem State.triggerDue_stores (i : Fin 4) (s : State) : (s.triggerDue i).stores = s.stores := by
  have offered (w : Sweep) (d : Nat × Nat) (x : State) : (x.offerTrigger i w d).stores = x.stores := by
    unfold State.offerTrigger
    dsimp only
    split
    · exact (State.onCam_stores (by rfl)).trans rfl
    · exact (State.onCam_stores (by rfl)).trans rfl
  unfold State.triggerDue
  split
  · rfl
  · dsimp only
    split
    · exact (offered ..).trans (State.onCam_stores (by rfl))
    · split
      · exact (offered ..).trans (State.onCam_stores (by rfl))
      · rfl
theorem Cu.replaceLine_stock (q : Quad (Option CamCfg)) (u : Cu) : (u.replaceLine q).stock = u.stock := (rfl)
@[simp] theorem State.sweepTick_stores (s : State) : s.sweepTick.stores = s.stores := (rfl)
@[simp] theorem State.rearmTick_stores (s : State) : s.rearmTick.stores = s.stores := by
  have rearmed (i : Fin 4) (s : State) : (s.rearmCamera i).stores = s.stores := by
    unfold State.rearmCamera
    split
    · rw [State.onCam_stores (by rfl), State.reportFalse_stores, State.reportFalse_stores]
    · rfl
  unfold State.rearmTick
  split
  · exact State.eachAxis_stores rearmed s
  · rfl
@[simp] theorem State.judgeWeb_stores (i : Fin 4) (c : CamCfg) (p : List Byte) (s : State) :
    (s.judgeWeb i c p).stores = s.stores := by
  have counted (n : Nat) (x : State) : (x.onCam i fun y => { y with webCount := n }).stores = x.stores :=
    State.onCam_stores (by rfl)
  unfold State.judgeWeb
  dsimp only
  split
  · rfl
  · repeat' split
    all_goals simp [counted]
@[simp] theorem State.stripDone_stores (i : Fin 4) (f : Half) (n : Nat) (s : State) :
    (s.stripDone i f n).stores = s.stores := by
  rw [State.stripDone, State.post_stores, State.onCam_stores (by rw [Cam.onBuf_queue])]

/-- The head of a write queue goes on, and no record leaves or joins. -/
theorem State.pumpStripN_stores (i : Fin 4) (b n : Nat) (s : State) : (s.pumpStripN i b n).stores = s.stores := by
  induction n generalizing s with
  | zero => rfl
  | succ n ih =>
    unfold State.pumpStripN
    split
    · rfl
    · next r rest queue =>
      have moved (x : StripRec) : (s.onCam i fun c => { c with queue := x :: rest }).stores = s.stores :=
        State.onCam_stores (by rw [queue]; rfl)
      split
      · rfl
      · split
        · rfl
        · dsimp only
          split
          · rw [ih, State.issue_stores, moved]
          · rw [State.issue_stores, moved]
@[simp] theorem State.pumpStrip_stores (i : Fin 4) (s : State) : (s.pumpStrip i).stores = s.stores := by
  unfold State.pumpStrip
  split
  · exact s.pumpStripN_stores i _ 3
  · rfl

/-- A line joins a write queue that holds fewer than 16 records (R110). -/
@[simp] theorem Stores.Bounded.acceptLine (h : s.stores.Bounded) (i : Fin 4) (c : CamCfg) (g : LineTag) (p : List Byte) :
    (s.acceptLine i c g p).stores.Bounded := by
  unfold State.acceptLine
  dsimp only
  split
  · refine Stores.Bounded.onCam (h.of_eq rfl) fun k => ?_
    rw [Cam.onBuf_queue]
    exact k
  · next room =>
    have joined (f : Cam → Cam) (r : StripRec) (k : (f (s.cam i)).queue = (s.cam i).queue ++ [r]) :
        (s.onCam i f).stores.Bounded := h.onCam fun _ => by
      rw [k, List.length_append]
      exact Nat.lt_of_not_le room
    split
    · rw [State.pumpStrip_stores]
      exact joined _ _ rfl
    · exact joined _ _ rfl
@[simp] theorem Stores.Bounded.fillStrip (h : s.stores.Bounded) (i : Fin 4) (c : CamCfg) (g : LineTag) (p : List Byte) :
    (s.fillStrip i c g p).stores.Bounded := by
  have started (f : Half) : (s.startStrip i f g).stores.Bounded := by
    refine Stores.Bounded.onCam (h.onCu fun k => ?_) fun k => ?_
    · split
      · exact Cu.emptyCache_bounded k
      · exact k
    · rw [Cam.onBuf_queue]
      exact k
  have dropped : (s.dropLine i g).stores = s.stores := by
    unfold State.dropLine
    dsimp only
    split
    · rw [State.post_stores, State.onCam_stores (by rfl), State.onCu_stores (by rfl)]
    · rw [State.onCam_stores (by rfl), State.onCu_stores (by rfl)]
  unfold State.fillStrip
  split
  · exact h
  · split
    · exact h.acceptLine ..
    · split
      · exact (started _).acceptLine ..
      · exact h.of_eq dropped
@[simp] theorem State.finishAborted_stores (i : Fin 4) (f : Half) (s : State) :
    (s.finishAborted i f).stores = s.stores := by
  unfold State.finishAborted
  dsimp only
  split <;> simp
@[simp] theorem Stores.Bounded.abortStrip (h : s.stores.Bounded) (i : Fin 4) (f : Half) (b : Bool) :
    (s.abortStrip i f b).stores.Bounded := by
  unfold State.abortStrip
  dsimp only
  split
  · simpa using h
  · rw [State.pumpStrip_stores, State.finishAborted_stores]
    refine Stores.Bounded.onCam (h.of_eq rfl) fun k => ?_
    exact (List.length_filter_le ..).trans k
@[simp] theorem Stores.Bounded.mapEntryRead (h : s.stores.Bounded) (i : Fin 4) (x : Transfer) (b : List Byte) :
    (s.mapEntryRead i x b).stores.Bounded := by
  have cached (a n : Nat) : (s.cacheTranslation i a n).stores.Bounded :=
    h.onCu fun k => Cu.insertTranslation_bounded k _
  have came (s : State) (m a : Nat) : (s.onCam i (Cam.entryCame m a)).stores = s.stores := State.onCam_stores (by
    unfold Cam.entryCame
    dsimp only
    split
    · next none => rw [none]
    · next queue => rw [queue]; rfl)
  have counted : s.countMapError.stores.Bounded := h.of_eq rfl
  unfold State.mapEntryRead
  split
  · split
    · dsimp only
      split
      · rw [State.pumpStrip_stores, came]
        exact cached ..
      · exact cached ..
    · dsimp only
      rw [State.enterDmaError_stores]
      split
      · exact counted.abortStrip ..
      · exact counted
  · exact h
@[simp] theorem Stores.Bounded.stripWritten (h : s.stores.Bounded) (i : Fin 4) (x : Transfer) :
    (s.stripWritten i x).stores.Bounded := by
  unfold State.stripWritten
  split
  · exact h
  · split
    · exact h
    · dsimp only
      split
      · simpa using h
      · split
        · exact h
        · next r rest queue =>
          have taken : (s.onCam i fun c => { c.onBuf r.half (fun b => { b with written := b.written + 1 }) with
              queue := rest }).stores.Bounded := h.onCam fun k => by
            rw [queue] at k
            exact Nat.le_of_succ_le k
          split
          · exact h
          · rw [State.pumpStrip_stores]
            split
            · rw [State.stripDone_stores]
              exact taken
            · exact taken
@[simp] theorem Stores.Bounded.stripTransferFailed (h : s.stores.Bounded) (i : Fin 4) (x : Transfer) (k : DmaKind) :
    (s.stripTransferFailed i x k).stores.Bounded := by
  unfold State.stripTransferFailed
  repeat' split
  all_goals simp [h]
@[simp] theorem Stores.Bounded.freshCameras (h : s.stores.Bounded) : s.freshCameras.stores.Bounded := by
  refine Stores.Bounded.of_eq (s := s.onCu _) (h.onCu fun k => ?_) s.freshCameras_reported.stores_eq
  exact ⟨fun i => by simp [Cu.stock, Cam.reset], rfl, List.nodup_nil, Nat.zero_lt_succ 7⟩
@[simp] theorem State.missLine_stores (i : Fin 4) (s : State) : (s.missLine i).stores = s.stores := by
  have missed (s : State) (f : Cu → Cu) (k : (f s.cu).stock = s.cu.stock) : ((s.onCu f).onCam i fun x =>
      { x with trigs := x.trigs.drop 1, missing := min (x.missing + 1) 16 }).stores = s.stores :=
    (State.onCam_stores (by rfl)).trans (State.onCu_stores k)
  unfold State.missLine
  dsimp only
  split
  · rw [State.reportTrue_stores, missed _ _ rfl]
  · exact missed _ _ rfl

/-! ## The Screen Unit (R162 to R183) -/

@[simp] theorem State.requestTile_stores (id : TileId) (v : Option Nat) (s : State) :
    (s.requestTile id v).stores = s.stores := by
  unfold State.requestTile; split <;> simp

/-- An id without an entry is allocated one, where there is room (R165). -/
theorem Stores.Bounded.allocate {id : TileId} (h : s.stores.Bounded) (fresh : id ∉ s.scu.stock.tiles) :
    (s.allocate id).stores.Bounded := by
  unfold State.allocate
  split
  · exact h.of_eq (State.onScu_stores (by rfl))
  · next c made =>
    obtain ⟨bounded, room, old⟩ := Scu.makeRoom_bounded h.screen made
    rw [State.requestTile_stores]
    exact ⟨h.cameras, Scu.addTile_bounded bounded room fun k => fresh (old _ k)⟩

/-- One assignment: an entry is referenced, or allocated where there is none (R163). -/
theorem Stores.Bounded.assign (h : s.stores.Bounded) (a : Nat × Content) : (s.assign a).stores.Bounded := by
  have put : (s.onScu fun c => (c.release (c.pageMap.getD a.1 .blank)).put a.1 a.2).stores.Bounded :=
    h.of_eq (State.onScu_stores ((Scu.put_stock ..).trans (Scu.release_stock ..)))
  unfold State.assign
  dsimp only
  split
  · split
    · exact put.onScu fun k => Scu.reference_bounded k _ _
    · next absent => exact put.allocate (Scu.tile_none absent)
  · exact put
  · exact put
@[simp] theorem State.takeRefusal_stores (n i c r : Nat) (s : State) : (s.takeRefusal n i c r).stores = s.stores := by
  unfold State.takeRefusal
  dsimp only
  split
  · rfl
  · split
    · rw [State.post_stores, State.onScu_stores (Scu.setView_stock ..)]
    · rfl
@[simp] theorem Stores.Bounded.takeViewRequest (h : s.stores.Bounded) (n i c k w : Nat) :
    (s.takeViewRequest n i c k w).stores.Bounded := by
  have taken : (s.onScu fun u => (u.viewRequest s.camCfg n i c k w).1).stores.Bounded :=
    h.onScu fun b => Scu.viewRequest_bounded b ..
  unfold State.takeViewRequest
  dsimp only
  split
  · exact taken
  · split
    · rw [State.takeRefusal_stores]
      exact taken
    · rw [State.offerScreen_stores]
      exact taken
@[simp] theorem Stores.Bounded.requestView (h : s.stores.Bounded) (i : Fin 2) : (s.requestView i).stores.Bounded := by
  unfold State.requestView
  dsimp only
  split <;> simp [h]
@[simp] theorem State.repeatViews_stores (s : State) : s.repeatViews.stores = s.stores := by rw [State.repeatViews_eq]; rfl

/-- A view line changes the last moment of an entry, and no key. -/
@[simp] theorem State.viewersTake_stores (i : Fin 4) (g : LineTag) (p : List Byte) (s : State) :
    (s.viewersTake i g p).stores = s.stores := by
  refine State.foldl_stores (fun s v => ?_) _ s
  have marked : (s.onScu fun c => { c with viewers := c.viewers.modify i (fun vs =>
      vs.map (fun x => if x.hasKey v.station v.slot then { x with last := some s.now } else x)) }).stores = s.stores := by
    refine State.onScu_stores (congrArg (ScreenStock.mk _ _ · _) (Quad.map_modify ?_))
    rw [List.map_map]
    exact List.map_congr_left fun x _ => by dsimp only [Function.comp]; split <;> rfl
  unfold State.viewLineFor
  dsimp only
  split
  · split
    · rw [State.onScu_stores (Scu.takeViewLine_stock ..), marked]
    · rw [State.offerAll_stores, marked]
  · rfl
@[simp] theorem State.routeTouch_stores (b : Bool) (x y : Nat) (s : State) : (s.routeTouch b x y).stores = s.stores := by
  unfold State.routeTouch
  dsimp only
  repeat' split
  all_goals simp
@[simp] theorem Stores.Bounded.takeViewStop (h : s.stores.Bounded) (n i c : Nat) :
    (s.takeViewStop n i c).stores.Bounded := by
  unfold State.takeViewStop
  split
  · exact h.onScu fun k => Scu.dropViewer_bounded k ..
  · exact h
@[simp] theorem Stores.Bounded.openView (h : s.stores.Bounded) (i : Fin 2) (v : ViewSlot) :
    (s.openView i v).stores.Bounded :=
  Stores.Bounded.requestView
    (h.of_eq (State.onScu_stores ((Scu.foldl_stock (Scu.putInset_stock i) ..).trans (Scu.setView_stock ..)))) i
@[simp] theorem Stores.Bounded.closeView (h : s.stores.Bounded) (i : Fin 2) : (s.closeView i).stores.Bounded := by
  have stopped : (s.stopView i).stores.Bounded := by
    unfold State.stopView
    dsimp only
    repeat' split
    all_goals simp [h]
  exact stopped.of_eq (State.onScu_stores ((Scu.setView_stock ..).trans (Scu.foldl_stock (Scu.blankInset_stock i) ..)))
@[simp] theorem Stores.Bounded.takePageMap (h : s.stores.Bounded) (n : Nat) (b : List Byte) :
    (s.takePageMap n b).stores.Bounded := by
  unfold State.takePageMap
  split
  · simpa using h
  · rw [State.result_stores]
    exact h.foldl (fun s a h => h.assign a) _
@[simp] theorem Stores.Bounded.takePublish (h : s.stores.Bounded) (n : Nat) (b : List Byte) :
    (s.takePublish n b).stores.Bounded := by
  have numbered : (s.onScu fun c => { c with group := (c.group + 1) % 256 }).stores.Bounded := h.of_eq rfl
  unfold State.takePublish
  split
  · simpa using h
  · unfold State.publish
    dsimp only
    rw [State.pubAdvance_stores]
    refine Stores.Bounded.onScu (by simpa using numbered) fun k => ?_
    exact (Scu.invalidate_frees ..).bounded k
@[simp] theorem Stores.Bounded.takeTile (h : s.stores.Bounded) (b : List Byte) : (s.takeTile b).stores.Bounded := by
  have taken (now : Nat) (l : List TileFrag) (c : Scu) (k : c.stock.Bounded) :
      (l.foldl (Scu.takeFragment now) c).stock.Bounded := by
    induction l generalizing c with
    | nil => exact k
    | cons f l ih => exact ih _ (Scu.takeFragment_bounded k now f)
  have published (c : Scu) (p : Option Publication) : Scu.stock { c with pub := p } = c.stock := rfl
  unfold State.takeTile
  split
  · exact h
  · split
    · exact h
    · dsimp only
      rw [State.pubAdvance_stores, State.offerAll_stores]
      exact h.onScu fun k => (published _ _).symm ▸ taken _ _ _ k
@[simp] theorem Stores.Bounded.noProgress (h : s.stores.Bounded) (x : Tile) : (s.noProgress x).stores.Bounded := by
  unfold State.noProgress
  split
  · rw [State.requestTile_stores, State.onScu_stores (Scu.onTile_stock ..)]
    exact h
  · exact h.onScu fun k => (Scu.fail_frees ..).bounded k

end Sys2Proof.Machine
end

/-! The bounds on the stores under the operations of the ring's membership and of the line shaft (R26 to R69, R84). -/

section
namespace Sys2Proof.Machine

variable {s t : State}

/-! ## Membership (R26 to R42) -/

@[simp] theorem State.offerHello_stores (s : State) : s.offerHello.stores = s.stores := State.offer_stores _ s
@[simp] theorem State.stepEvent_stores (p : StepState) (s : State) : (s.stepEvent p).stores = s.stores :=
  State.post_stores _ s
@[simp] theorem State.linkEvent_stores (p : LinkState) (a e : Nat) (s : State) : (s.linkEvent p a e).stores = s.stores :=
  State.post_stores _ s
@[simp] theorem State.changeStep_stores (f : Su → Su) (s : State) : (s.changeStep f).stores = s.stores :=
  State.stepEvent_stores _ _
@[simp] theorem State.forgetViews_stores (s : State) : s.forgetViews.stores = s.stores := by
  simp [State.forgetViews]
@[simp] theorem State.shaftMembered_stores (s : State) : s.shaftMembered.stores = s.stores := by
  unfold State.shaftMembered
  dsimp only
  split <;> simp
@[simp] theorem State.shaftOut_stores (s : State) : s.shaftOut.stores = s.stores := by
  unfold State.shaftOut
  dsimp only
  rw [State.reportFalse_stores, State.reportFalse_stores, State.onSu_stores, State.forgetViews_stores]
  split <;> simp
@[simp] theorem State.ringOut_stores (s : State) : s.ringOut.stores = s.stores := by simp [State.ringOut]

/-- Out of the ring no viewer is left (R145). -/
@[simp] theorem Stores.Bounded.memberOut (h : s.stores.Bounded) (b : Bool) : (s.memberOut b).stores.Bounded := by
  unfold State.memberOut
  dsimp only
  rw [State.reportFalse_stores, State.reportAllFalse_stores]
  refine Stores.Bounded.onScu ?_ Scu.noViewers_bounded
  rw [State.orphanWhere_stores]
  split <;> simp [h]

@[simp] theorem Stores.Bounded.changeLink (h : s.stores.Bounded) (k : LinkState) (r : BypassReason) (a e : Nat) :
    (s.changeLink k r a e).stores.Bounded := by
  have switched : (if k.bypass = s.mc.link.bypass then s else s.switchBypass).stores.Bounded := by
    split <;> simp [State.switchBypass, h]
  unfold State.changeLink
  dsimp only
  generalize (if k.bypass = s.mc.link.bypass then s else s.switchBypass) = v at switched ⊢
  split
  · simpa using Stores.Bounded.memberOut (by simpa using switched) _
  · simpa using Stores.Bounded.memberOut (by simpa using switched) _
  all_goals simp [switched]

@[simp] theorem State.startAttempt_stores (s : State) : s.startAttempt.stores = s.stores := by simp [State.startAttempt]

@[simp] theorem Stores.Bounded.endAttempt (h : s.stores.Bounded) (n : Nat) : (s.endAttempt n).stores.Bounded := by
  unfold State.endAttempt
  dsimp only
  split
  · simp [h]
  · split <;> simp [h]

/-- A station that leaves the roster leaves the viewer sets (R42). -/
@[simp] theorem Stores.Bounded.dropPeer (h : s.stores.Bounded) (n : Nat) : (s.dropPeer n).stores.Bounded := by
  have left : (((s.onSlot n fun r => .absent r.required).orphanWhere fun o => o == n).onScu
      (Scu.dropStation n)).stores.Bounded :=
    Stores.Bounded.onScu (by simpa using h) fun k => Scu.dropStation_bounded k n
  unfold State.dropPeer
  dsimp only
  split <;> simp [left]

@[simp] theorem Stores.Bounded.removePeer (h : s.stores.Bounded) (n : Nat) (r : RosterReason) :
    (s.removePeer n r).stores.Bounded := by simp [State.removePeer, h]

@[simp] theorem Stores.Bounded.removeSilent (h : s.stores.Bounded) (n : Nat) : (s.removeSilent n).stores.Bounded := by
  unfold State.removeSilent; split <;> simp [h]

@[simp] theorem State.makePresent_stores (n d : Nat) (m : HelloMsg) (s : State) :
    (s.makePresent n d m).stores = s.stores := by simp [State.makePresent]

@[simp] theorem Stores.Bounded.slotHello (h : s.stores.Bounded) (n d : Nat) (m : HelloMsg) :
    (s.slotHello n d m).stores.Bounded := by
  unfold State.slotHello
  dsimp only
  repeat' split
  all_goals simp [h]

@[simp] theorem Stores.Bounded.foreignHello (h : s.stores.Bounded) (d : Nat) (m : HelloMsg) :
    (s.foreignHello d m).stores.Bounded := by
  unfold State.foreignHello
  dsimp only
  repeat' split
  all_goals simp [h]

@[simp] theorem Stores.Bounded.takeHello (h : s.stores.Bounded) (c : Copy) : (s.takeHello c).stores.Bounded := by
  unfold State.takeHello State.ownHello State.peerHello
  dsimp only
  repeat' split
  all_goals simp [h]

/-! ## Roster beats (R23, R32, R34, R41) -/

@[simp] theorem State.stepSilences_stores (s : State) : s.stepSilences.stores = s.stores := by
  unfold State.stepSilences; split <;> simp

@[simp] theorem State.stepDuplicate_stores (s : State) : s.stepDuplicate.stores = s.stores := by
  unfold State.stepDuplicate; split <;> simp

@[simp] theorem State.stepListen_stores (s : State) : s.stepListen.stores = s.stores := by
  unfold State.stepListen State.countSinceMember
  dsimp only
  repeat' split
  all_goals simp

/-! ## The tick and the beat (R46, R50) -/

@[simp] theorem State.endTick_stores (s : State) : s.endTick.stores = s.stores := by
  unfold State.endTick
  split
  · rw [State.eachAxis_stores fun i s => s.axisTickEnd_stores i, State.onMc_stores, State.onSu_stores]
  · rfl

@[simp] theorem State.tickBlocks_stores (s : State) : s.tickBlocks.stores = s.stores := by simp [State.tickBlocks]

@[simp] theorem State.tickAt_stores (b : Int) (s : State) : (s.tickAt b).stores = s.stores := by simp [State.tickAt]

@[simp] theorem State.startBeat_stores (s : State) : s.startBeat.stores = s.stores := by
  unfold State.startBeat State.offerShaft
  dsimp only
  split <;> simp

/-! ## Shaft and Speed copies (R54 to R60) -/

@[simp] theorem State.enterAlone_stores (s : State) : s.enterAlone.stores = s.stores := by
  unfold State.enterAlone; split <;> simp

@[simp] theorem State.takeReport_stores (x : Header) (b : Int) (m : ShaftMsg) (s : State) :
    (s.takeReport x b m).stores = s.stores := by
  unfold State.takeReport
  dsimp only
  repeat' split
  all_goals simp

@[simp] theorem State.offerCarried_stores (m : ShaftMsg) (s : State) : (s.offerCarried m).stores = s.stores := by
  unfold State.offerCarried
  split
  · exact State.foldl_stores (fun s e => s.installEntry_stores e) _ s
  · rfl

@[simp] theorem State.measure_stores (x : Header) (b : Int) (m : ShaftMsg) (s : State) :
    (s.measure x b m).stores = s.stores := by
  unfold State.measure; split <;> simp

@[simp] theorem State.takeSpeed_stores (c : Copy) (s : State) : (s.takeSpeed c).stores = s.stores := by
  unfold State.takeSpeed
  dsimp only
  repeat' split
  all_goals simp

@[simp] theorem State.command_stores (e : Entry) (s : State) : (s.command e).stores = s.stores := by
  simp [State.command]

/-! ## A replaced line history (R55, R63, R65, R84) -/

@[simp] theorem State.lineReplaced_stores (v : Nat) (s : State) : (s.lineReplaced v).stores = s.stores := by
  rw [State.lineReplaced, State.onMu_stores, State.onCu_stores (Cu.replaceLine_stock ..),
    State.eachAxis_stores fun i s => s.historyDecouple_stores v i]

@[simp] theorem State.resubmitStops_stores (s : State) : s.resubmitStops.stores = s.stores := (rfl)

@[simp] theorem State.found_stores (s : State) : s.found.stores = s.stores := by simp [State.found]

@[simp] theorem State.adopt_stores (b : Int) (m : ShaftMsg) (s : State) : (s.adopt b m).stores = s.stores := by
  unfold State.adopt
  dsimp only
  split <;> simp

@[simp] theorem State.examine_stores (f : Bool) (x : Header) (b : Int) (m : ShaftMsg) (s : State) :
    (s.examine f x b m).stores = s.stores := by
  unfold State.examine
  split <;> simp

@[simp] theorem State.takeShaft_stores (c : Copy) (s : State) : (s.takeShaft c).stores = s.stores := by
  unfold State.takeShaft
  dsimp only
  repeat' split
  all_goals simp

@[simp] theorem State.loseStep_stores (s : State) : s.loseStep.stores = s.stores := by
  unfold State.loseStep
  split <;> simp

end Sys2Proof.Machine
end

/-! The bounds on the stores under resets, the host link, the configuration and the Command Port (R25, R115, R184 to R199). -/

section
namespace Sys2Proof.Machine

variable {s t : State}

/-! ## Resets and the host link (R25, R115, R199) -/

theorem Cu.reset_bounded : Cu.reset.stock.Bounded :=
  ⟨fun i => by simp [Cu.stock, Cu.reset, Cam.reset], rfl, List.nodup_nil, Nat.zero_lt_succ 7⟩

theorem Scu.reset_bounded : Scu.reset.stock.Bounded :=
  ⟨⟨Nat.zero_le _, List.nodup_nil⟩, ⟨Nat.zero_le _, List.nodup_nil⟩, fun _ h => absurd h List.not_mem_nil,
    fun i => by match i with | 0 | 1 | 2 | 3 => exact ⟨Nat.zero_le _, List.nodup_nil⟩, List.length_replicate⟩

@[simp] theorem State.reportInputs_stores (s : State) : s.reportInputs.stores = s.stores := by
  have input (b : Bool) (c : Nat) (s : State) : (s.reportInput b c).stores = s.stores := by
    unfold State.reportInput; split <;> simp
  simp [State.reportInputs, input]

@[simp] theorem Stores.Bounded.coldReset (s : State) : s.coldReset.stores.Bounded := by
  rw [State.coldReset, State.reportInputs_stores]
  exact ⟨Cu.reset_bounded, Scu.reset_bounded⟩

@[simp] theorem Stores.Bounded.warmReset (s : State) : s.warmReset.stores.Bounded := by
  rw [State.warmReset, State.reportInputs_stores]
  exact ⟨Cu.reset_bounded, Scu.reset_bounded⟩

@[simp] theorem Stores.Bounded.linkLoss (h : s.stores.Bounded) : s.linkLoss.stores.Bounded := by
  unfold State.linkLoss State.discardEvents
  dsimp only
  rw [State.onTu_stores, State.onRp_stores, State.withPub_stores]
  refine Stores.Bounded.onCu (by simpa using h) fun ⟨_, places, tags, pointer⟩ => ⟨fun i => ?_, places, tags, pointer⟩
  simp [Cu.stock, Cam.linkLost]

@[simp] theorem State.portBecameReady_stores (s : State) : s.portBecameReady.stores = s.stores := by
  unfold State.portBecameReady
  dsimp only
  split <;> simp

/-! ## The configuration (R115, R184, R191) -/

@[simp] theorem State.configureAxis_stores (i : Fin 4) (s : State) : (s.configureAxis i).stores = s.stores := by
  unfold State.configureAxis
  dsimp only
  split <;> simp

/-- The Screen Unit is at its reset values but for its counters, and every camera is set afresh. -/
@[simp] theorem Stores.Bounded.configure (h : s.stores.Bounded) (c : Cfg) : (s.configure c).stores.Bounded := by
  have withCfg (x : State) : State.stores { x with cfg := some c } = x.stores := rfl
  have reevaluated (x : State) (l : List OwnCause) (k : x.cfg = some c) :
      (l.foldl (State.reevaluate s.cfg (some c)) x).stores = x.stores := (State.reevaluateAll_keeps _ l k).1.stores_eq
  have configured (x : Scu) : x.configured.stock.Bounded := Scu.reset_bounded
  unfold State.configure
  dsimp only
  rw [State.updateLocalStop_stores]
  refine Stores.Bounded.onScu ?_ fun _ => configured _
  rw [State.eachAxis_stores fun i s => s.configureLoop_stores i]
  refine Stores.Bounded.freshCameras ?_
  rw [State.onCmp_stores, State.reportAllFalse_stores, State.reportAllFalse_stores, State.reportAllFalse_stores,
    State.eachAxis_stores fun i s => s.configureAxis_stores i, reevaluated _ _ (by rfl),
    State.onSu_stores, State.onMc_stores, withCfg]
  exact h

@[simp] theorem Stores.Bounded.finishConfigure (h : s.stores.Bounded) : s.finishConfigure.stores.Bounded := by
  unfold State.finishConfigure
  split
  · split <;> simp [h]
  · exact h

@[simp] theorem Stores.Bounded.awaitStripWrites (h : s.stores.Bounded) (c : Cfg) :
    (s.awaitStripWrites c).stores.Bounded :=
  Stores.Bounded.finishConfigure (Stores.Bounded.onCu h id)

/-! ## The Command Port (R187 to R198) -/

@[simp] theorem State.writeRun_stores (q : QueueId) (b : Bool) (s : State) : (s.writeRun q b).stores = s.stores := by
  unfold State.writeRun State.setRunFlag
  dsimp only
  repeat' split
  all_goals simp

@[simp] theorem State.setupWrite_stores (q : QueueId) (b n : Nat) (s : State) : (s.setupWrite q b n).stores = s.stores := by
  unfold State.setupWrite; split <;> simp

@[simp] theorem State.sizeWrite_stores (q : QueueId) (n : Nat) (b : Bool) (s : State) :
    (s.sizeWrite q n b).stores = s.stores := by
  unfold State.sizeWrite
  repeat' split
  all_goals simp

@[simp] theorem State.startImage_stores (a n : Nat) (b : List Byte) (s : State) : (s.startImage a n b).stores = s.stores := by
  unfold State.startImage; split <;> simp

@[simp] theorem State.startRead_stores (p : Purpose) (a n : Nat) (s : State) : (s.startRead p a n).stores = s.stores := by
  simp [State.startRead]

@[simp] theorem State.failCommand_stores (k : DmaKind) (s : State) : (s.failCommand k).stores = s.stores :=
  s.complete_stores _ _ _

@[simp] theorem Stores.Bounded.endCommand (h : s.stores.Bounded) (q : CmdQueue) : (s.endCommand q).stores.Bounded := by
  unfold State.endCommand
  dsimp only
  split <;> simp [h]

@[simp] theorem State.closeNotice_stores (s : State) : s.closeNotice.stores = s.stores := by
  unfold State.closeNotice
  dsimp only
  repeat' split
  all_goals simp

@[simp] theorem State.settleCounters_stores (b : List Byte) (s : State) : (s.settleCounters b).stores = s.stores := by
  unfold State.settleCounters
  dsimp only
  split <;> rfl

@[simp] theorem State.imageWritten_stores (b : List Byte) (s : State) : (s.imageWritten b).stores = s.stores := by
  unfold State.imageWritten; split <;> simp

@[simp] theorem State.nextEvent_stores (s : State) : s.nextEvent.stores = s.stores := by simp [State.nextEvent]

@[simp] theorem State.eventWritten_stores (x : Transfer) (s : State) : (s.eventWritten x).stores = s.stores := by
  simp [State.eventWritten]

@[simp] theorem Stores.Bounded.failTransfer (h : s.stores.Bounded) (x : Transfer) (k : DmaKind) :
    (s.failTransfer x k).stores.Bounded := by
  unfold State.failTransfer
  repeat' split
  all_goals simp [h]

theorem Stores.Bounded.withTransfer {f : Transfer → State → State} (h : s.stores.Bounded)
    (hf : ∀ x s, s.stores.Bounded → (f x s).stores.Bounded) (p : Purpose) (u : DmaUnit) :
    (s.withTransfer p u f).stores.Bounded := by
  unfold State.withTransfer
  split
  · exact hf _ _ (by simpa using h)
  · exact h

theorem Stores.Bounded.withReply {f : Transfer → List Byte → State → State} (h : s.stores.Bounded)
    (hf : ∀ x b s, s.stores.Bounded → (f x b s).stores.Bounded) (p : Purpose) (u : DmaUnit) (r : DmaReply) :
    (s.withReply p u r f).stores.Bounded :=
  h.withTransfer (fun x s h => by
    cases r with
    | data b => exact hf x b s h
    | error => exact h.failTransfer x _) p u

theorem Stores.Bounded.withWrite {f : Transfer → State → State} (h : s.stores.Bounded)
    (hf : ∀ x s, s.stores.Bounded → (f x s).stores.Bounded) (p : Purpose) (u : DmaUnit) (ok : Bool) :
    (s.withWrite p u ok f).stores.Bounded :=
  h.withTransfer (fun x s h => by
    cases ok with
    | true => exact hf x s h
    | false => exact h.failTransfer x _) p u

@[simp] theorem State.takeDescriptor_stores (q : CmdQueue) (d : List Byte) (s : State) :
    (s.takeDescriptor q d).stores = s.stores := by
  unfold State.takeDescriptor
  dsimp only
  repeat' split
  all_goals simp

@[simp] theorem Stores.Bounded.takeConfig (h : s.stores.Bounded) (b : List Byte) : (s.takeConfig b).stores.Bounded := by
  unfold State.takeConfig; split <;> simp [h]

/-! ## The ring (R1 to R16, R28, R37) -/

@[simp] theorem State.countBlock_stores (b : Bool) (s : State) : (s.countBlock b).stores = s.stores := State.onMc_stores _ s

@[simp] theorem Stores.Bounded.lockLost (h : s.stores.Bounded) (m : Bool) (a : List Byte) :
    (s.lockLost m a).stores.Bounded := by
  have cut : (s.cutBlock m a).stores.Bounded := by unfold State.cutBlock; split <;> simp [h]
  unfold State.lockLost
  dsimp only
  split <;> simp [cut]

@[simp] theorem Stores.Bounded.lockGained (h : s.stores.Bounded) : s.lockGained.stores.Bounded := by
  unfold State.lockGained
  split
  · split <;> simp [h]
  all_goals simp [h]

@[simp] theorem State.takeHeader_stores (a : Nat) (b : List Byte) (s : State) : (s.takeHeader a b).stores = s.stores := by
  unfold State.takeHeader
  dsimp only
  split <;> simp

@[simp] theorem State.headless_stores (e : FrameEnding) (s : State) : (s.headless e).stores = s.stores := by
  cases e <;> simp [State.headless, State.countAborted]

@[simp] theorem Stores.Bounded.beginJoin (h : s.stores.Bounded) : s.beginJoin.stores.Bounded := by
  simp [State.beginJoin, h]

@[simp] theorem Stores.Bounded.beginLeave (h : s.stores.Bounded) : s.beginLeave.stores.Bounded := by
  simp [State.beginLeave, h]

/-! ## The axis and camera commands (R73, R77) -/

@[simp] theorem State.enableAxis_stores (i : Fin 4) (s : State) : (s.enableAxis i).stores = s.stores := by
  simp [State.enableAxis]

theorem Stores.Bounded.axisCommand {f : Fin 4 → AxisCfg → State → State} (h : s.stores.Bounded)
    (hf : ∀ i c, (f i c s).stores.Bounded) (a : Nat) : (s.axisCommand a f).stores.Bounded := by
  unfold State.axisCommand
  repeat' split
  all_goals simp [h, hf]

theorem Stores.Bounded.cameraCommand {f : Fin 4 → State → State} (h : s.stores.Bounded)
    (hf : ∀ i, (f i s).stores.Bounded) (a : Nat) : (s.cameraCommand a f).stores.Bounded := by
  unfold State.cameraCommand
  split
  · simpa using h
  · exact hf _

end Sys2Proof.Machine
end

/-! Every step keeps the stores of the Camera and Screen Units within their bounds (R110, R113, R162, R164, R169, R178). -/

section
namespace Sys2Proof.Machine

variable {s : State}

/-- Every state that an answer gives has its stores within the bounds. -/
def Stores.Kept (a : Answered) : Prop := ∀ u, a = .next u → u.stores.Bounded

@[simp] theorem Stores.kept_next (s : State) : Stores.Kept (.next s) ↔ s.stores.Bounded :=
  ⟨fun h => h s rfl, fun h u e => by cases e; exact h⟩

/-! ## The copies handed on -/

theorem execHelloCopy_stores (h : s.stores.Bounded) : Stores.Kept (execHelloCopy s) := by
  rw [execHelloCopy, Stores.kept_next]
  split
  · exact h
  · next c rest _ => exact Stores.Bounded.takeHello (s := { s with inMc := rest }) h c

theorem execShaftCopy_stores (h : s.stores.Bounded) : Stores.Kept (execShaftCopy s) := by
  rw [execShaftCopy, Stores.kept_next]
  split
  · exact h
  · next c rest _ =>
    have taken : (State.takeShaft c { s with inSu := rest }).stores.Bounded := h.of_eq (State.takeShaft_stores c _)
    split
    · exact taken
    · exact h

theorem execSpeedCopy_stores (h : s.stores.Bounded) : Stores.Kept (execSpeedCopy s) := by
  rw [execSpeedCopy, Stores.kept_next]
  split
  · exact h
  · next c rest _ =>
    have taken : (State.takeSpeed c { s with inSu := rest }).stores.Bounded := h.of_eq (State.takeSpeed_stores c _)
    split
    · exact taken
    · exact h

theorem execTripCopy_stores (h : s.stores.Bounded) : Stores.Kept (execTripCopy s) := by
  rw [execTripCopy, Stores.kept_next]
  split
  · exact h
  · next c rest _ => exact h.of_eq (State.takeTrip_stores c { s with inTu := rest })

theorem execCorrectionCopy_stores (h : s.stores.Bounded) : Stores.Kept (execCorrectionCopy s) := by
  rw [execCorrectionCopy, Stores.kept_next]
  split
  · exact h
  · next c rest _ =>
    dsimp only
    split
    · exact h.of_eq (State.takeCorrection_stores _ _ { s with inAu := rest })
    · exact h

/-- A copy of the Screen Unit's inbox taken by operations that keep the bounds. -/
theorem Stores.Bounded.takeScreen {f : Copy → Option (State → State)} (h : s.stores.Bounded)
    (hf : ∀ c g s, f c = some g → s.stores.Bounded → (g s).stores.Bounded) : (s.takeScreen f).stores.Bounded := by
  unfold State.takeScreen
  split
  · exact h
  · split
    · next g hg => exact hf _ _ _ hg h
    · exact h

/-- A Tile invalidate copy frees fill slots at most (R170). -/
theorem execTileInvalidate_stores (h : s.stores.Bounded) : Stores.Kept (execTileInvalidate s) := by
  refine (Stores.kept_next _).mpr (h.takeScreen fun c g s hg h => ?_)
  split at hg
  · cases hg
    exact h.onScu (Scu.invalidate_frees ..).bounded
  · cases hg

/-- The other steps that take a Tile control copy. -/
theorem tileControlCopies_stores (h : s.stores.Bounded) :
    Stores.Kept (execTileRequestCopy s) ∧ Stores.Kept (execTouchCopy s) ∧ Stores.Kept (execViewRequest s) ∧
      Stores.Kept (execViewStop s) ∧ Stores.Kept (execViewRefusal s) := by
  refine ⟨?_, ?_, ?_, ?_, ?_⟩
  all_goals
    refine (Stores.kept_next _).mpr (h.takeScreen fun c g s hg h => ?_)
    split at hg
    · cases hg
      simp [h]
    · cases hg

theorem execTileDataFragment_stores (h : s.stores.Bounded) : Stores.Kept (execTileDataFragment s) := by
  refine (Stores.kept_next _).mpr (h.takeScreen fun c g s hg h => ?_)
  dsimp only at hg
  split at hg
  · cases hg
    dsimp only
    split
    · exact h.onScu fun k => Scu.takeFragment_bounded k _ _
    · exact h
  · cases hg

theorem execViewLine_stores (h : s.stores.Bounded) : Stores.Kept (execViewLine s) := by
  refine (Stores.kept_next _).mpr (h.takeScreen fun c g s hg h => ?_)
  dsimp only at hg
  split at hg
  · cases hg
    dsimp only
    split
    · exact h.of_eq (State.onScu_stores (Scu.takeViewLine_stock ..))
    · exact h
  · cases hg

/-! ## Cameras, screens and membership -/

/-- A line taken feeds the strip filler at most (R103). -/
theorem execCameraLine_stores (h : s.stores.Bounded) (t : Nat) (i : Fin 4) (n : Nat) (p : List Byte) :
    Stores.Kept (execCameraLine t i n p s) := by
  have entry (u : State) : (u.takeEntry i n).stores = u.stores :=
    (State.reportFalse_stores 18 i.val _).trans (State.onCam_stores (by rfl))
  simp only [execCameraLine, Stores.kept_next]
  split
  · refine Stores.Bounded.fillStrip ?_ i _ _ _
    rw [State.judgeWeb_stores, State.viewersTake_stores, State.markLine_stores, entry, State.atTime_stores]
    exact h
  · exact h

theorem execGiveStripBuffer_stores (h : s.stores.Bounded) : Stores.Kept (execGiveStripBuffer s) := by
  have given (i : Fin 4) (x : Half) (b : StripBuf) : (s.onCam i fun c => c.onBuf x fun _ => b).stores = s.stores :=
    State.onCam_stores (by rw [Cam.onBuf_queue])
  rw [execGiveStripBuffer, Stores.kept_next]
  repeat' split
  all_goals simp [given, h]

theorem execInvalidateMapCache_stores (h : s.stores.Bounded) : Stores.Kept (execInvalidateMapCache s) := by
  have pending : (s.onCu fun u => { u with invalidate := true }).stores = s.stores := rfl
  rw [execInvalidateMapCache, Stores.kept_next]
  split <;> simp [pending, h]

/-- A group's deadline commits tiles, which frees fill slots at most (R173). -/
theorem execGroupDeadline_stores (h : s.stores.Bounded) (t p g : Nat) : Stores.Kept (execGroupDeadline t p g s) := by
  simp only [execGroupDeadline, Stores.kept_next]
  split
  · exact Stores.Bounded.onScu (s := s.atTime t) h (Scu.endGroup_frees ..).bounded
  · exact h

theorem execRosterBeatStart_stores (h : s.stores.Bounded) : Stores.Kept (execRosterBeatStart s) := by
  rw [execRosterBeatStart, Stores.kept_next]
  dsimp only
  split <;> simp [h]

theorem execEnterMember_stores (h : s.stores.Bounded) : Stores.Kept (execEnterMember s) := by
  simp only [execEnterMember, Stores.kept_next]
  split
  · rw [State.offerHello_stores, State.foldl_stores fun s n => State.reportTrue_stores 8 n s]
    exact h.changeLink .member .none 0 0
  · exact h

/-! ## Commands and the transfers that come back -/

/-- The axis commands but DECOUPLE AXIS. -/
theorem axisCommands_stores (h : s.stores.Bounded) :
    Stores.Kept (execEnableAxis s) ∧ Stores.Kept (execDisableAxis s) ∧ Stores.Kept (execCoupleAxis s) ∧
      Stores.Kept (execJogAxis s) ∧ Stores.Kept (execTrimAxis s) := by
  refine ⟨?_, ?_, ?_, ?_, ?_⟩
  all_goals
    refine (Stores.kept_next _).mpr ?_
    split
    · refine h.axisCommand (fun i c => ?_) _
      repeat' split
      all_goals simp [h]
    · exact h

theorem execDecoupleAxis_stores (h : s.stores.Bounded) : Stores.Kept (execDecoupleAxis s) := by
  rw [execDecoupleAxis, Stores.kept_next]
  split
  · split
    · simpa using h
    · refine h.axisCommand (fun i c => ?_) _
      repeat' split
      all_goals simp [h]
  · exact h

/-- The register commands. -/
theorem registerCommands_stores (h : s.stores.Bounded) :
    Stores.Kept (execLoadMarkTable s) ∧ Stores.Kept (execStartRegister s) ∧ Stores.Kept (execStopRegister s) ∧
      Stores.Kept (execRearmRegister s) := by
  refine ⟨?_, ?_, ?_, ?_⟩
  all_goals
    refine (Stores.kept_next _).mpr ?_
    split
    · refine h.cameraCommand (fun i => ?_) _
      repeat' split
      all_goals simp [h]
    · exact h

theorem execMarkTableReadComplete_stores (h : s.stores.Bounded) (t : Nat) (r : DmaReply) :
    Stores.Kept (execMarkTableReadComplete t r s) := by
  refine (Stores.kept_next _).mpr (Stores.Bounded.withReply (by simpa using h) (fun _ b s h => ?_) _ _ r)
  split
  · exact h.cameraCommand (fun i => by simpa using h) _
  · exact h

theorem execPageMapReadComplete_stores (h : s.stores.Bounded) (t : Nat) (r : DmaReply) :
    Stores.Kept (execPageMapReadComplete t r s) := by
  refine (Stores.kept_next _).mpr (Stores.Bounded.withReply (by simpa using h) (fun _ b s h => ?_) _ _ r)
  split <;> simp [h]

theorem execPublishListReadComplete_stores (h : s.stores.Bounded) (t : Nat) (r : DmaReply) :
    Stores.Kept (execPublishListReadComplete t r s) := by
  refine (Stores.kept_next _).mpr (Stores.Bounded.withReply (by simpa using h) (fun _ b s h => ?_) _ _ r)
  split <;> simp [h]

/-! ## Every step -/

/-- Every step keeps the stores within their bounds. -/
theorem exec_stores (h : s.stores.Bounded) (i : Instr) : Stores.Kept (exec i s) := by
  obtain ⟨request, touch, viewReq, viewStop, refusal⟩ := tileControlCopies_stores h
  obtain ⟨enable, disable, couple, jog, trim⟩ := axisCommands_stores h
  obtain ⟨load, start, stop, rearm⟩ := registerCommands_stores h
  have now (t : Nat) : (s.atTime t).stores.Bounded := h
  cases i
  case helloCopy => exact execHelloCopy_stores h
  case shaftCopy => exact execShaftCopy_stores h
  case speedCopy => exact execSpeedCopy_stores h
  case tripCopy => exact execTripCopy_stores h
  case correctionCopy => exact execCorrectionCopy_stores h
  case tileInvalidate => exact execTileInvalidate_stores h
  case tileDataFragment => exact execTileDataFragment_stores h
  case tileRequestCopy => exact request
  case touchCopy => exact touch
  case viewRequest => exact viewReq
  case viewStop => exact viewStop
  case viewRefusal => exact refusal
  case viewLine => exact execViewLine_stores h
  case cameraLine t i n p => exact execCameraLine_stores h t i n p
  case giveStripBuffer => exact execGiveStripBuffer_stores h
  case invalidateMapCache => exact execInvalidateMapCache_stores h
  case groupDeadline t p g => exact execGroupDeadline_stores h t p g
  case rosterBeatStart => exact execRosterBeatStart_stores h
  case enterMember => exact execEnterMember_stores h
  case enableAxis => exact enable
  case disableAxis => exact disable
  case coupleAxis => exact couple
  case decoupleAxis => exact execDecoupleAxis_stores h
  case jogAxis => exact jog
  case trimAxis => exact trim
  case loadMarkTable => exact load
  case startRegister => exact start
  case stopRegister => exact stop
  case rearmRegister => exact rearm
  case markTableReadComplete t r => exact execMarkTableReadComplete_stores h t r
  case pageMapReadComplete t r => exact execPageMapReadComplete_stores h t r
  case publishListReadComplete t r => exact execPublishListReadComplete_stores h t r
  case mapEntryReadComplete t c r =>
    exact (Stores.kept_next _).mpr ((now t).withReply (fun x b s h => h.mapEntryRead c x b) _ _ r)
  case descriptorReadComplete t q r =>
    exact (Stores.kept_next _).mpr ((now t).withReply (fun x b s h => by simpa using h) _ _ r)
  case configReadComplete t r =>
    exact (Stores.kept_next _).mpr ((now t).withReply (fun x b s h => h.takeConfig b) _ _ r)
  case tileReadComplete t r =>
    exact (Stores.kept_next _).mpr ((now t).withReply (fun x b s h => h.takeTile b) _ _ r)
  case stripWriteComplete t c ok =>
    exact (Stores.kept_next _).mpr ((now t).withWrite (fun x s h => (h.stripWritten c x).finishConfigure) _ _ ok)
  case writebackComplete t q ok =>
    exact (Stores.kept_next _).mpr ((now t).withWrite (fun x s h => h.endCommand q) _ _ ok)
  case imageWriteComplete t ok =>
    exact (Stores.kept_next _).mpr ((now t).withWrite (fun x s h => by simpa using h) _ _ ok)
  case eventWriteComplete t ok =>
    exact (Stores.kept_next _).mpr ((now t).withWrite (fun x s h => by simpa using h) _ _ ok)
  case coldReset | warmInput | hostLinkLoss =>
    simp only [exec, execColdReset, execWarmInput, execHostLinkLoss, Stores.kept_next]
    simp [h]
  case eStopAsserted | eStopReleased | tripInputChange | panelStopKey =>
    simp only [exec, execEStopAsserted, execEStopReleased, execTripInputChange, execPanelStopKey, Stores.kept_next]
    repeat' split
    all_goals simp [h]
  case lightLost | symbolLockLost | symbolLockGained | frameHeaderArrival | frameEndArrival | transmitBoundary |
      bulkWaitAdmit | returnWatchExpiry =>
    simp only [exec, execLightLost, execSymbolLockLost, execSymbolLockGained, execFrameHeaderArrival,
      execFrameEndArrival, execTransmitBoundary, execBulkWaitAdmit, execReturnWatchExpiry, Stores.kept_next]
    repeat' split
    all_goals simp [h]
  case testBlockReturn | lightCheckLockTimeout | lightCheckAttemptEnd | insertionTimeout | leaveTimeout |
      drainComplete | silenceRemoval | duplicateQuiet | join | leave =>
    simp only [exec, execTestBlockReturn, State.takeBlock, execLightCheckLockTimeout, execLightCheckAttemptEnd,
      execInsertionTimeout, execLeaveTimeout, execDrainComplete, execSilenceRemoval, execDuplicateQuiet, execJoin,
      execLeave, Stores.kept_next]
    repeat' split
    all_goals simp [h]
  case tickStart | beatStart | enterInStep | shaftLostStep | enterAlone | latenessClear | foundHistory | setSpeed |
      releaseStop =>
    simp only [exec, execTickStart, execBeatStart, execEnterInStep, execShaftLostStep, execEnterAlone,
      execLatenessClear, execFoundHistory, execSetSpeed, execReleaseStop, Stores.kept_next]
    repeat' split
    all_goals simp [h]
  case driveAnswer | answerWindowClose | triggerDue | triggerTimeout =>
    simp only [exec, execDriveAnswer, execAnswerWindowClose, execTriggerDue, execTriggerTimeout, Stores.kept_next]
    repeat' split
    all_goals simp [h]
  case tripLapse | raiseHostTrip | clearHostTrip | acknowledgeTrips =>
    simp only [exec, execTripLapse, execRaiseHostTrip, execClearHostTrip, execAcknowledgeTrips, Stores.kept_next]
    repeat' split
    all_goals simp [h]
  case displayFrameStart t =>
    exact (Stores.kept_next _).mpr ((now t).of_eq (State.onScu_stores (by rfl)))
  case touch | tileProgressTimeout | setPageMap | publishTiles | openView | closeView =>
    have touched (b : Bool) (x : State) : (x.onScu fun c => { c with touchInCourse := b }).stores = x.stores := rfl
    simp only [exec, execTouch, execTileProgressTimeout, execSetPageMap, execPublishTiles, execOpenView, execCloseView,
      Stores.kept_next]
    repeat' split
    all_goals simp [touched, h]
  case queueBaseWrite | queueSizeWrite | queueRunSet | queueRunClear | commandTailWrite | eventHeadWrite |
      windowWriteIgnored | descriptorFetch | configure | warmReset | readRoster | readTripTable | readLineState |
      readCounters | dmaTimeout =>
    simp only [exec, execQueueBaseWrite, execQueueSizeWrite, execQueueRunSet, execQueueRunClear, execCommandTailWrite,
      execEventHeadWrite, execWindowWriteIgnored, execDescriptorFetch, execConfigure, execWarmReset, execReadRoster,
      execReadTripTable, execReadLineState, execReadCounters, execDmaTimeout, Stores.kept_next]
    repeat' split
    all_goals simp [h]

/-- Settles O58: what the stores hold is bounded as a whole, and each operation of the units that own them keeps the bounds. -/
theorem storesStayBounded : Obligations.StoresStayBounded := by
  intro s u bounded e
  have stores : s.stores.Bounded := State.storesBounded_iff.mp bounded
  refine State.storesBounded_iff.mpr ?_
  unfold step at e
  split at e
  · cases e
    exact stores
  · next i rest _ => exact exec_stores (s := { s with pending := rest }) stores i u e

end Sys2Proof.Machine
end

/-! What the operations of a camera and of its strip buffers read back and leave (R108 to R111), and the two strip commands
(R108, R113). -/

section
namespace Sys2Proof.Machine

variable {s t : State} {i j : Fin 4} {h : Half}

/-! ## Cameras and their strip buffers -/

@[simp] theorem State.onCam_cam (i : Fin 4) (f : Cam → Cam) (s : State) : (s.onCam i f).cam i = f (s.cam i) :=
  Quad.get_modify_self _ i f

theorem State.onCam_cam_ne (different : j ≠ i) (f : Cam → Cam) (s : State) : (s.onCam i f).cam j = s.cam j :=
  Quad.get_modify_ne _ different f

@[simp] theorem Cam.buf_onBuf (h : Half) (f : StripBuf → StripBuf) (c : Cam) : (c.onBuf h f).buf h = f (c.buf h) := by
  cases h <;> rfl

@[simp] theorem Cam.buf_other_onBuf (h : Half) (f : StripBuf → StripBuf) (c : Cam) :
    (c.onBuf h f).buf h.other = c.buf h.other := by
  cases h <;> rfl

/-- A change of a strip buffer leaves the rest of its camera. -/
theorem Cam.onBuf_eq (h : Half) (f : StripBuf → StripBuf) (c : Cam) :
    c.onBuf h f = { c with even := (c.onBuf h f).even, odd := (c.onBuf h f).odd } := by
  cases h <;> rfl

@[simp] theorem Cam.onBuf_trigs (h : Half) (f : StripBuf → StripBuf) (c : Cam) : (c.onBuf h f).trigs = c.trigs := by
  rw [Cam.onBuf_eq]

@[simp] theorem Cam.onBuf_inProgress (h : Half) (f : StripBuf → StripBuf) (c : Cam) :
    (c.onBuf h f).inProgress = c.inProgress := by
  rw [Cam.onBuf_eq]

/-! ## GIVE STRIP BUFFER and INVALIDATE MAP CACHE (R108, R113) -/

theorem halfOfCode_code (h : Half) : halfOfCode h.code = some h := by cases h <;> rfl

theorem halfOfCode_beyond {b : Nat} (beyond : 2 ≤ b) : halfOfCode b = none := by
  match b with
  | b + 2 => rfl

/-- A buffer fits a strip when all three checks pass (R108). -/
theorem stripFits_iff {c : CamCfg} {addr size : Nat} : stripFits c addr size = true ↔
    addr % 8192 = 0 ∧ c.height * (8 + (c.x1 - c.x0 + 1)) ≤ size ∧ addr + size ≤ 33554432 := by
  simp only [stripFits, Bool.and_eq_true, beq_iff_eq, decide_eq_true_eq, and_assoc]
  rfl

theorem exec_invalidateMapCache (taken : s.taken .normal = some .invalidateMapCache) :
    exec .invalidateMapCache s = .next
      { s with cu := { s.cu with invalidate := true }, cmp := s.cmp.answered .normal .done 0 s.now } := by
  have run : exec .invalidateMapCache s = execInvalidateMapCache s := rfl
  rw [run, execInvalidateMapCache, taken]
  dsimp only
  rw [State.result_eq]
  rfl

/-- A camera above 3 or a buffer above 1 is refused (R108, R203). -/
theorem exec_giveStripBuffer_beyond {n b addr size : Nat} (taken : s.taken .normal = some (.giveStripBuffer n b addr size))
    (beyond : 4 ≤ n ∨ 2 ≤ b) : exec .giveStripBuffer s = .next (s.result .normal .refusedValue) := by
  have run : exec .giveStripBuffer s = execGiveStripBuffer s := rfl
  rw [run, execGiveStripBuffer, taken]
  dsimp only
  split
  · next camera buffer =>
    rcases beyond with many | many
    · rw [fin4?_beyond many] at camera
      cases camera
    · rw [halfOfCode_beyond many] at buffer
      cases buffer
  · rfl

section
variable {addr size : Nat} (taken : s.taken .normal = some (.giveStripBuffer i.val h.code addr size))
include taken

/-- The command for a camera that is absent. -/
theorem exec_giveStripBuffer_absent (absent : s.camCfg i = none) :
    exec .giveStripBuffer s = .next (s.result .normal .refusedState) := by
  simp only [exec, execGiveStripBuffer, taken, fin4?_val, halfOfCode_code, absent]

/-- The checks of the command for a camera that is present. -/
theorem exec_giveStripBuffer_present {c : CamCfg} (present : s.camCfg i = some c) :
    exec .giveStripBuffer s = .next
      (if ((s.cam i).buf h).partOwned then s.result .normal .refusedState
      else if !stripFits c addr size then s.result .normal .refusedValue
      else (s.onCam i fun x => x.onBuf h fun _ => StripBuf.given addr size).result .normal .done) := by
  simp only [exec, execGiveStripBuffer, taken, fin4?_val, halfOfCode_code, present]

theorem exec_giveStripBuffer_refusedState (unfit : s.camCfg i = none ∨ ((s.cam i).buf h).partOwned = true) :
    exec .giveStripBuffer s = .next (s.result .normal .refusedState) := by
  cases config : s.camCfg i with
  | none => exact exec_giveStripBuffer_absent taken config
  | some c =>
    have owned : ((s.cam i).buf h).partOwned = true := unfit.resolve_left (by rw [config]; exact Option.some_ne_none c)
    rw [exec_giveStripBuffer_present taken config, if_pos owned]
end

section
variable {c : CamCfg} {addr size : Nat} (taken : s.taken .normal = some (.giveStripBuffer i.val h.code addr size))
  (present : s.camCfg i = some c) (hostOwned : ((s.cam i).buf h).partOwned = false)
include taken present hostOwned

theorem exec_giveStripBuffer_refusedValue
    (unfit : addr % 8192 ≠ 0 ∨ size < c.height * (8 + (c.x1 - c.x0 + 1)) ∨ 33554432 < addr + size) :
    exec .giveStripBuffer s = .next (s.result .normal .refusedValue) := by
  have fails : stripFits c addr size = false := by
    rw [Bool.eq_false_iff, ne_eq, stripFits_iff]
    omega
  rw [exec_giveStripBuffer_present taken present]
  simp [hostOwned, fails]

theorem exec_giveStripBuffer_done (aligned : addr % 8192 = 0) (room : c.height * (8 + (c.x1 - c.x0 + 1)) ≤ size)
    (inside : addr + size ≤ 33554432) : exec .giveStripBuffer s =
      .next ((s.onCam i fun x => x.onBuf h fun _ => StripBuf.given addr size).result .normal .done) := by
  rw [exec_giveStripBuffer_present taken present]
  simp [hostOwned, stripFits_iff.mpr ⟨aligned, room, inside⟩]
end

/-- Settles O33: the command's checks in their order, and the one buffer it changes. -/
theorem stripCommands : Obligations.StripCommands := by
  refine ⟨fun s taken => exec_invalidateMapCache taken, fun s n b addr size taken beyond => ?_,
    fun s i h addr size taken => ⟨fun unfit => ?_, fun c present hostOwned unfit => ?_,
      fun c present hostOwned aligned room inside => ?_⟩⟩
  · rw [exec_giveStripBuffer_beyond taken beyond, State.result_eq]
  · rw [exec_giveStripBuffer_refusedState taken unfit, State.result_eq]
  · rw [exec_giveStripBuffer_refusedValue taken present hostOwned unfit, State.result_eq]
  · refine ⟨_, exec_giveStripBuffer_done taken present hostOwned aligned room inside, ?_⟩
    rw [State.result_eq]
    refine ⟨rfl, ?_⟩
    have given : State.cam (s.onCam i fun x => x.onBuf h fun _ => StripBuf.given addr size) i =
        (s.cam i).onBuf h fun _ => StripBuf.given addr size := State.onCam_cam ..
    refine ⟨?_, ?_, ?_, ?_, ?_, fun j different => State.onCam_cam_ne different _ s⟩
    · exact (congrArg (Cam.buf h) given).trans (Cam.buf_onBuf ..)
    · exact (congrArg (Cam.buf h.other) given).trans (Cam.buf_other_onBuf ..)
    · exact (congrArg Cam.queue given).trans (Cam.onBuf_queue ..)
    · exact (congrArg Cam.trigs given).trans (Cam.onBuf_trigs ..)
    · exact (congrArg Cam.inProgress given).trans (Cam.onBuf_inProgress ..)

end Sys2Proof.Machine
end

/-! The loss of the host link (R115, R159, R185, R199). -/

section
namespace Sys2Proof.Machine

variable {s t : State}

/-- What the loss of the host link does once cause 21 is reported. -/
def State.linkCut (s : State) : State :=
  let s := (s.onCmp fun c => { c with urgent := .reset, normal := .reset, dma := [] }).discardEvents
  let s := s.onCu fun u => { u with cams := u.cams.map Cam.linkLost, draining := none }
  let s := (s.onScu fun c => { c with pub := none }).onRp Rp.dropFragments
  s.onTu fun u => { u with noticeOut := false, changesPending := true, noticeHeld := true }

theorem exec_hostLinkLoss (t : Nat) (s : State) :
    exec (.hostLinkLoss t) s = .next (((s.atTime t).reportTrue 21 0).linkCut) := rfl

theorem State.linkCut_eq (s : State) : s.linkCut = { s with
    cmp := s.linkCut.cmp, rp := s.rp.dropFragments, scu := { s.scu with pub := none }
    cu := { s.cu with cams := s.cu.cams.map Cam.linkLost, draining := none }
    tu := { s.tu with noticeOut := false, changesPending := true, noticeHeld := true } } := by
  unfold State.linkCut State.discardEvents
  dsimp only [State.onCmp, State.onCu, State.onScu, State.onRp, State.onTu]

/-- The queues are not set up, and nothing is in flight (R199). -/
theorem State.linkCut_port (s : State) :
    (s.linkCut.cmp.urgent = CmdQ.reset ∧ s.linkCut.cmp.normal = CmdQ.reset ∧ s.linkCut.cmp.event = EvQ.reset) ∧
      s.linkCut.cmp.dma = [] ∧ s.linkCut.cmp.dmaErr = s.cmp.dmaErr ∧ s.linkCut.cmp.warmCount = s.cmp.warmCount := by
  unfold State.linkCut State.discardEvents
  exact ⟨⟨rfl, rfl, rfl⟩, rfl, rfl, rfl⟩

theorem State.linkCut_cam (i : Fin 4) (s : State) : s.linkCut.cam i = (s.cam i).linkLost := Quad.get_map ..

/-- A report leaves the DMA error record and the count of warm resets. -/
theorem State.Reported.record_eq (h : s.Reported t) :
    t.cmp.dmaErr = s.cmp.dmaErr ∧ t.cmp.warmCount = s.cmp.warmCount := by rw [h.port.fields]; exact ⟨rfl, rfl⟩

/-- Settles O5: what the report of cause 21 can change, and then the blocks one by one. -/
theorem hostLinkLoss : Obligations.HostLinkLoss := by
  intro t s
  have told : (s.atTime t).Reported ((s.atTime t).reportTrue 21 0) := State.reportTrue_reported 21 0 _
  have cause : ((s.atTime t).reportTrue 21 0).causeTrue 21 0 = true := State.reportTrue_true 21 0 _
  have run := exec_hostLinkLoss t s
  generalize (s.atTime t).reportTrue 21 0 = v at told cause run
  obtain ⟨dmaErr, warmCount⟩ := told.record_eq
  refine ⟨v.linkCut, run, ?_⟩
  obtain ⟨⟨urgent, normal, event⟩, dma, error, count⟩ := v.linkCut_port
  have cameras (i : Fin 4) : v.linkCut.cam i = (s.cam i).linkLost := by
    rw [State.linkCut_cam, State.cam, told.cu_eq]; rfl
  rw [State.linkCut_eq] at cameras ⊢
  exact ⟨told.now_eq, told.pending_eq, told.pins_eq, told.cfg_eq, told.mc_eq, told.mu_eq, cause, told.shaft, urgent, normal,
    event, dma, error.trans dmaErr, count.trans warmCount, congrArg (fun c : Scu => { c with pub := none }) told.scu_eq,
    rfl, rfl, rfl, told.first,
    congrArg (fun u : Cu => { u with cams := v.cu.cams.map Cam.linkLost, draining := none }) told.cu_eq, cameras⟩

end Sys2Proof.Machine
end

/-! The moment of a trigger whose position lies before its sweep: the cursor of a camera and the angle of the tick need not go
together in a state (R100). -/

section
namespace Sys2Proof.Machine

/-- A camera with a due position every 1,000 units, the first at angle 0. -/
def sparseCam : CamCfg :=
  { width := 64, pitch := 1000, phase := 0, x0 := 0, x1 := 63, decimation := 1, height := 16, w0 := 0, w1 := 9
    webThreshold := 10, breakLength := 0, mapBase := 0, m0 := 0, m1 := 15, markThreshold := 35, minWeight := 50
    missingLimit := 3, toleranceCount := 3, minSpeed := 0 }

/-- The sweep of a tick that starts at 200 ns, at angle 100. -/
def lateSweep : Sweep := { start := 200, length := 1, angle := 100, speed := 1, rev := 0 }

/-- The cursor of camera 0 stands at angle 0, 100 units before the tick in progress. -/
def cursorBehind : State :=
  { State.reset with
    cfg := some { unevenCfg with cams := ⟨some sparseCam, none, none, none⟩ }
    cu := { Cu.reset with sweep := some lateSweep } }

theorem cursorBehind_due : (0, 0) = nextDue sparseCam 0 := by decide

/-- The delay of a position before the sweep's angle is 0, so the trigger is sent at the tick start. -/
theorem cursorBehind_now : (cursorBehind.triggerDue 0).now = 200 := by decide

/-- The moment as the statement has it, in integers: 100 ns before the tick start. -/
theorem cursorBehind_stated : 100 = max cursorBehind.now
    (lateSweep.start + (((0 : Nat) - lateSweep.angle) * lateSweep.length + lateSweep.speed - 1 : Int) /
      lateSweep.speed).toNat := by decide

/-- Refutes O30: the statement takes the position's share of the tick in integers, where it is negative for a position before
the sweep's angle, and premises nothing of the cursor that would exclude one; the model's share is then 0. -/
theorem not_triggers : ¬ Obligations.Triggers := by
  rintro ⟨-, offered, -⟩
  obtain ⟨-, -, sent⟩ := offered 0 cursorBehind sparseCam lateSweep 0 0 100 0 false
    { cursorBehind.cam 0 with cursor := 0 + 1 } rfl (fun left => absurd left Bool.false_ne_true)
    (fun _ => ⟨fun _ gone => absurd gone (Option.some_ne_none _).symm, rfl, rfl, rfl⟩) cursorBehind_due (by decide)
    cursorBehind_stated
  have run : exec (.triggerDue 0) cursorBehind = .next (cursorBehind.triggerDue 0) := rfl
  have same := Host.Outcome.next.inj (run.symm.trans (sent (.inl rfl)))
  have early : (200 : Nat) = 100 := cursorBehind_now.symm.trans (congrArg State.now same)
  exact absurd early (by decide)

end Sys2Proof.Machine
end

/-! What the head of a write queue going on can do, and what an aborted strip leaves (R110, R112, R114). -/

section
namespace Sys2Proof.Machine

variable {s t u : State} {i j : Fin 4} {h k : Half}

/-! ## The head of a write queue goes on (R110, R112) -/

/-- Of each record in a write queue, the half its strip is in. -/
def Cam.halves (c : Cam) : List Half := c.queue.map (·.half)

/-- From `s` to `t` records of a camera's write queue went on, and transfers were issued for them alone. -/
structure State.Pumps (i : Fin 4) (s t : State) : Prop where
  fields : t = { s with cu := { s.cu with cams := t.cu.cams }, cmp := { s.cmp with dma := t.cmp.dma } }
  camera : t.cam i = { s.cam i with queue := (t.cam i).queue }
  others : ∀ j, j ≠ i → t.cam j = s.cam j
  halves : (t.cam i).halves = (s.cam i).halves
  issued : ∃ l, t.cmp.dma = s.cmp.dma ++ l ∧ ∀ y ∈ l, ∀ j h, y.servesStrip j h = true → h ∈ (s.cam i).halves

theorem State.Pumps.refl (i : Fin 4) (s : State) : s.Pumps i s :=
  ⟨rfl, rfl, fun _ _ => rfl, rfl, [], (List.append_nil _).symm, fun _ y => absurd y List.not_mem_nil⟩

theorem State.Pumps.trans (p : s.Pumps i t) (q : t.Pumps i u) : s.Pumps i u where
  fields := by rw [q.fields, p.fields]
  camera := by rw [q.camera, p.camera]
  others j different := (q.others j different).trans (p.others j different)
  halves := q.halves.trans p.halves
  issued := by
    obtain ⟨l, before, own⟩ := p.issued
    obtain ⟨m, after, ours⟩ := q.issued
    refine ⟨l ++ m, by rw [after, before, List.append_assoc], fun y mem j h serves => ?_⟩
    rcases List.mem_append.mp mem with first | second
    · exact own y first j h serves
    · exact p.halves ▸ ours y second j h serves

/-- The record at the head goes on with a transfer of its strip. -/
theorem State.Pumps.issue {r x : StripRec} {rest : List StripRec} {y : Transfer} {a : Nat}
    (queue : (s.cam i).queue = r :: rest) (half : x.half = r.half) (strip : y.strip = some ⟨r.half, a, true⟩) :
    s.Pumps i ((s.onCam i fun c => { c with queue := x :: rest }).issue y) where
  fields := rfl
  camera := by
    have moved := State.onCam_cam i (fun c => { c with queue := x :: rest }) s
    exact moved.trans (congrArg (fun q => { s.cam i with queue := q }) (congrArg Cam.queue moved).symm)
  others j different := State.onCam_cam_ne different _ s
  halves := by
    refine (congrArg Cam.halves (State.onCam_cam i _ s)).trans ?_
    simp [Cam.halves, queue, half]
  issued := by
    refine ⟨[y], rfl, fun z mem j h serves => ?_⟩
    rw [List.mem_singleton.mp mem] at serves
    simp only [Transfer.servesStrip, strip, Option.any_some, Bool.and_eq_true, beq_iff_eq] at serves
    simp [Cam.halves, queue, ← serves.2.1]

theorem State.pumpStripN_pumps (i : Fin 4) (base n : Nat) (s : State) : s.Pumps i (s.pumpStripN i base n) := by
  induction n generalizing s with
  | zero => exact .refl i s
  | succ n ih =>
    unfold State.pumpStripN
    split
    · exact .refl i s
    · next r rest queue =>
      split
      · exact .refl i s
      · split
        · exact .refl i s
        · dsimp only
          split
          · refine State.Pumps.trans ?_ (ih _)
            exact State.Pumps.issue queue rfl rfl
          · exact State.Pumps.issue queue rfl rfl

theorem State.pumpStrip_pumps (i : Fin 4) (s : State) : s.Pumps i (s.pumpStrip i) := by
  unfold State.pumpStrip
  split
  · exact s.pumpStripN_pumps i _ 3
  · exact .refl i s

theorem State.Pumps.length (p : s.Pumps i t) : (t.cam i).queue.length = (s.cam i).queue.length := by
  have same := congrArg List.length p.halves
  simpa [Cam.halves] using same

theorem State.Pumps.buf (p : s.Pumps i t) (h : Half) : (t.cam i).buf h = (s.cam i).buf h := by
  rw [p.camera]
  cases h <;> rfl

/-- Of the Camera Unit the cameras alone change, of the Command Port the transfers in flight. -/
theorem State.Pumps.cu_eq (p : s.Pumps i t) : t.cu = { s.cu with cams := t.cu.cams } := by rw [p.fields]

theorem State.Pumps.cmp_eq (p : s.Pumps i t) : t.cmp = { s.cmp with dma := t.cmp.dma } := by rw [p.fields]

/-- Writes of a strip without a record in the queue are in flight as before. -/
theorem State.Pumps.writesInFlight (p : s.Pumps i t) (gone : h ∉ (s.cam i).halves) (j : Fin 4) :
    t.writesInFlight j h = s.writesInFlight j h := by
  obtain ⟨l, dma, own⟩ := p.issued
  have none : l.any (fun y => y.purpose == .stripWrite && y.servesStrip j h) = false := by
    rw [List.any_eq_false]
    intro y mem both
    exact gone (own y mem j h (Bool.and_eq_true_iff.mp both).2)
  rw [State.writesInFlight, dma, List.any_append, none, Bool.or_false, State.writesInFlight]

/-! ## Events and failures leave the strip writes in flight -/

theorem State.pumpEvents_writesInFlight (i : Fin 4) (h : Half) (s : State) :
    s.pumpEvents.writesInFlight i h = s.writesInFlight i h := by
  unfold State.pumpEvents
  split
  · rfl
  · split
    · rfl
    · exact (List.any_append ..).trans (Bool.or_false _)

theorem State.post_writesInFlight (e : Event) (i : Fin 4) (h : Half) (s : State) :
    (s.post e).writesInFlight i h = s.writesInFlight i h := by
  unfold State.post
  dsimp only
  split
  · exact State.pumpEvents_writesInFlight i h _
  · rfl

theorem State.enterDmaError_writesInFlight (x : Transfer) (d : DmaKind) (i : Fin 4) (h : Half) (s : State) :
    (s.enterDmaError x d).writesInFlight i h = s.writesInFlight i h := by
  unfold State.enterDmaError
  split
  · rfl
  · exact State.post_writesInFlight _ i h _

/-! ## A strip aborted (R114) -/

/-- What the end of an aborted strip can do: its buffer goes back to the host, with an event, or stays. -/
structure State.Finishes (i : Fin 4) (h : Half) (s t : State) : Prop where
  fields : t = { s with cu := { s.cu with cams := t.cu.cams }, cmp := t.cmp }
  others : ∀ j, j ≠ i → t.cam j = s.cam j
  queue : (t.cam i).queue = (s.cam i).queue
  dmaErr : t.cmp.dmaErr = s.cmp.dmaErr
  writes : t.writesInFlight i h = s.writesInFlight i h
  waits : s.writesInFlight i h = true → (t.cam i).buf h = (s.cam i).buf h
  ends : s.writesInFlight i h = false → ((s.cam i).buf h).partOwned = true → ((s.cam i).buf h).aborted = true →
    (t.cam i).buf h = .hostOwned

theorem State.stripDone_eq (i : Fin 4) (h : Half) (n : Nat) (s : State) :
    s.stripDone i h n = { s.onCam i (fun c => c.onBuf h fun _ => .hostOwned) with cmp := (s.stripDone i h n).cmp } := by
  rw [State.stripDone, State.post_eq]

theorem State.stripDone_cam (i : Fin 4) (h : Half) (n : Nat) (s : State) :
    (s.stripDone i h n).cam i = (s.cam i).onBuf h fun _ => .hostOwned := by
  rw [State.stripDone, State.cam, State.post_cu]
  exact State.onCam_cam i _ s

theorem State.finishAborted_finishes (i : Fin 4) (h : Half) (s : State) : s.Finishes i h (s.finishAborted i h) := by
  unfold State.finishAborted
  dsimp only
  split
  · next all =>
    simp only [Bool.and_eq_true, Bool.not_eq_true'] at all
    obtain ⟨-, quiet⟩ := all
    have camera := s.stripDone_cam i h ((s.cam i).buf h).written
    exact
      { fields := by rw [State.stripDone_eq]; rfl
        others := fun j different => by
          rw [State.stripDone, State.cam, State.post_cu]
          exact State.onCam_cam_ne different _ s
        queue := by rw [camera, Cam.onBuf_queue]
        dmaErr := State.post_dmaErr _ _
        writes := State.post_writesInFlight _ i h _
        waits := fun busy => absurd (quiet.symm.trans busy) Bool.false_ne_true
        ends := fun _ _ _ => by rw [camera, Cam.buf_onBuf] }
  · next stays =>
    refine ⟨rfl, fun _ _ => rfl, rfl, rfl, rfl, fun _ => rfl, fun quiet owned aborted => ?_⟩
    simp [quiet, owned, aborted] at stays

/-- The camera when its strip in a half is aborted (R114 steps 1 and 2). -/
def Cam.abort (h : Half) (mapError : Bool) (c : Cam) : Cam :=
  { c.onBuf h (fun b => { b with aborted := true, mapErr := b.mapErr || mapError, dmaErr := b.dmaErr || !mapError }) with
    queue := c.queue.filter fun r => r.half != h
    inProgress := c.inProgress && c.selector != h
    selector := if c.inProgress && c.selector == h then h.other else c.selector }

/-- A strip meets a delivery error: its record leaves, and its entry reads serve it no more. -/
def State.dropStrip (i : Fin 4) (h : Half) (mapError : Bool) (s : State) : State :=
  (s.onCmp fun c => { c with dma := c.dma.map (Transfer.unread i h) }).onCam i (Cam.abort h mapError)

theorem State.abortStrip_of_fresh {m : Bool} (fresh : ((s.cam i).buf h).aborted = false) :
    s.abortStrip i h m = ((s.dropStrip i h m).finishAborted i h).pumpStrip i := by
  unfold State.abortStrip
  dsimp only
  rw [if_neg (by rw [fresh]; exact Bool.false_ne_true)]
  rfl

theorem Cam.abort_buf (h : Half) (m : Bool) (c : Cam) : (c.abort h m).buf h = { c.buf h with
    aborted := true, mapErr := (c.buf h).mapErr || m, dmaErr := (c.buf h).dmaErr || !m } := by
  cases h <;> rfl

/-- What a strip aborted by its delivery error leaves: none of its records, and its buffer aborted while writes of it are in
flight, else handed back. -/
structure State.Aborted (i : Fin 4) (h : Half) (s t : State) : Prop where
  fields : t = { s with cu := { s.cu with cams := t.cu.cams }, cmp := t.cmp }
  records : ∀ r ∈ (t.cam i).queue, r.half ≠ h
  waits : t.writesInFlight i h = true → ((t.cam i).buf h).aborted = true ∧
    ((t.cam i).buf h).partOwned = ((s.cam i).buf h).partOwned
  ends : t.writesInFlight i h = false → ((s.cam i).buf h).partOwned = true → (t.cam i).buf h = .hostOwned

theorem State.abortStrip_aborted {m : Bool} (fresh : ((s.cam i).buf h).aborted = false) :
    s.Aborted i h (s.abortStrip i h m) ∧ (s.abortStrip i h m).cmp.dmaErr = s.cmp.dmaErr := by
  rw [State.abortStrip_of_fresh fresh]
  have camera : (s.dropStrip i h m).cam i = (s.cam i).abort h m := State.onCam_cam ..
  have finished := (s.dropStrip i h m).finishAborted_finishes i h
  generalize (s.dropStrip i h m).finishAborted i h = v at finished
  have pumped := v.pumpStrip_pumps i
  generalize v.pumpStrip i = u at pumped
  have gone : h ∉ (v.cam i).halves := by
    rw [Cam.halves, finished.queue, camera]
    intro mem
    obtain ⟨r, hr, half⟩ := List.mem_map.mp mem
    have other := (List.mem_filter.mp hr).2
    simp [half] at other
  have writes : u.writesInFlight i h = (s.dropStrip i h m).writesInFlight i h :=
    (pumped.writesInFlight gone i).trans finished.writes
  have dmaErr : u.cmp.dmaErr = s.cmp.dmaErr := by
    rw [pumped.cmp_eq]
    exact finished.dmaErr
  refine ⟨⟨?_, fun r mem half => ?_, fun busy => ?_, fun quiet owned => ?_⟩, dmaErr⟩
  · rw [pumped.fields, finished.fields]
    rfl
  · exact gone (pumped.halves ▸ List.mem_map.mpr ⟨r, mem, half⟩)
  · rw [pumped.buf, finished.waits (writes ▸ busy), camera, Cam.abort_buf]
    exact ⟨rfl, rfl⟩
  · rw [pumped.buf]
    refine finished.ends (writes ▸ quiet) ?_ ?_
    · rw [camera, Cam.abort_buf]
      exact owned
    · rw [camera, Cam.abort_buf]

end Sys2Proof.Machine
end

/-! What comes back of a strip's map entry reads and writes (R110 to R115, R198). -/

section
namespace Sys2Proof.Machine

variable {s t u : State} {i : Fin 4} {h : Half} {x : Transfer} {a : Nat} {v : Bool} {c : CamCfg} {bytes : List Byte}

/-! ## The transfers that come back (R197) -/

/-- The state in which a transfer of a camera that has come back is handed on. -/
def State.cameraBack (p : Purpose) (i : Fin 4) (t : Nat) (s : State) : State :=
  { s.atTime t with cmp := s.cmp.without p (.camera i) }

theorem exec_mapEntryRead_none (idle : s.cmp.ready .mapEntryRead (.camera i) = none) (t : Nat) (reply : DmaReply) :
    exec (.mapEntryReadComplete t i reply) s = .next (s.atTime t) :=
  congrArg Host.Outcome.next (State.withTransfer_of_none (s := s.atTime t) _ idle)

theorem exec_stripWrite_none (idle : s.cmp.ready .stripWrite (.camera i) = none) (t : Nat) (ok : Bool) :
    exec (.stripWriteComplete t i ok) s = .next (s.atTime t) :=
  congrArg Host.Outcome.next (State.withTransfer_of_none (s := s.atTime t) _ idle)

theorem exec_mapEntryRead_data (ready : s.cmp.ready .mapEntryRead (.camera i) = some x) (t : Nat) (bytes : List Byte) :
    exec (.mapEntryReadComplete t i (.data bytes)) s = .next ((s.cameraBack .mapEntryRead i t).mapEntryRead i x bytes) :=
  congrArg Host.Outcome.next (State.withTransfer_of_ready (s := s.atTime t) _ ready)

/-- The error completion of an entry read fails the read. -/
theorem exec_mapEntryRead_error (ready : s.cmp.ready .mapEntryRead (.camera i) = some x) (t : Nat) :
    exec (.mapEntryReadComplete t i .error) s =
      .next ((s.cameraBack .mapEntryRead i t).stripTransferFailed i x .errorCompletion) := by
  obtain ⟨-, read, camera⟩ := Cmp.ready_some ready
  refine congrArg Host.Outcome.next ((State.withTransfer_of_ready (s := s.atTime t) _ ready).trans ?_)
  simp only [State.failTransfer, read, camera]
  rfl

theorem exec_stripWrite_data (ready : s.cmp.ready .stripWrite (.camera i) = some x) (t : Nat) :
    exec (.stripWriteComplete t i true) s =
      .next (((s.cameraBack .stripWrite i t).stripWritten i x).finishConfigure) :=
  congrArg Host.Outcome.next (State.withTransfer_of_ready (s := s.atTime t) _ ready)

/-- The error completion of a strip write fails the write. -/
theorem exec_stripWrite_error (ready : s.cmp.ready .stripWrite (.camera i) = some x) (t : Nat) :
    exec (.stripWriteComplete t i false) s =
      .next (((s.cameraBack .stripWrite i t).stripTransferFailed i x .errorCompletion).finishConfigure) := by
  obtain ⟨-, write, camera⟩ := Cmp.ready_some ready
  refine congrArg Host.Outcome.next ((State.withTransfer_of_ready (s := s.atTime t) _ ready).trans ?_)
  simp only [State.failTransfer, write, camera]
  rfl

/-! ## The map cache (R113) -/

/-- The first place that gives something gives it also once what it holds is replaced. -/
theorem findSome?_set {α β : Type} {f : α → Option β} {l : List α} {n : Nat} {b : α} {y : β} (inside : n < l.length)
    (gives : f b = some y) (before : ∀ m (hm : m < n), f (l[m]'(hm.trans inside)) = none) :
    (l.set n b).findSome? f = some y := by
  induction l generalizing n with
  | nil => exact absurd inside (Nat.not_lt_zero n)
  | cons z l ih =>
    cases n with
    | zero => simp [gives]
    | succ n =>
      have head : f z = none := before 0 (Nat.zero_lt_succ n)
      rw [List.set_cons_succ, List.findSome?_cons_of_isNone (by rw [head]; rfl)]
      exact ih (Nat.lt_of_succ_lt_succ inside) fun m hm => before (m + 1) (Nat.succ_lt_succ hm)

/-- A translation put in is the one found. -/
theorem Cu.lookup_insertTranslation {x : Translation} {u : Cu} (room : u.pointer < u.cache.length) :
    (u.insertTranslation x).lookup x.cam x.page = some x.host := by
  have gives : ((some x : Option Translation).bind fun t =>
      if t.cam == x.cam && t.page == x.page then some t.host else none) = some x.host := by simp
  have missing (y : Option Translation) (other : ¬ (y.any fun t => t.cam == x.cam && t.page == x.page) = true) :
      (y.bind fun t => if t.cam == x.cam && t.page == x.page then some t.host else none) = none := by
    cases y with
    | none => rfl
    | some t => exact if_neg other
  unfold Cu.insertTranslation
  split
  · next n found =>
    obtain ⟨inside, -, first⟩ := List.findIdx?_eq_some_iff_getElem.mp found
    exact findSome?_set inside gives fun m hm => missing _ (first m hm)
  · next absent =>
    refine findSome?_set room gives fun m hm => missing _ ?_
    exact Bool.eq_false_iff.mp (List.findIdx?_eq_none_iff.mp absent _ (List.getElem_mem _))

/-- Of the Camera Unit a translation put in changes the cache alone. -/
theorem Cu.insertTranslation_eq (x : Translation) (u : Cu) : u.insertTranslation x =
    { u with cache := (u.insertTranslation x).cache, pointer := (u.insertTranslation x).pointer } := by
  unfold Cu.insertTranslation
  split <;> rfl

/-! ## A map entry read (R112 to R114) -/

theorem State.mapEntryRead_valid {host : Nat} (strip : x.strip = some ⟨h, a, v⟩) (present : s.camCfg i = some c)
    (valid : mapEntryPage bytes = some host) : s.mapEntryRead i x bytes =
      if v then ((s.cacheTranslation i a host).onCam i (Cam.entryCame c.mapBase x.addr)).pumpStrip i
      else s.cacheTranslation i a host := by
  simp only [State.mapEntryRead, strip, present, valid]

theorem State.mapEntryRead_invalid (strip : x.strip = some ⟨h, a, v⟩) (present : s.camCfg i = some c)
    (invalid : mapEntryPage bytes = none) : s.mapEntryRead i x bytes =
      (if v then s.countMapError.abortStrip i h true else s.countMapError).enterDmaError x .invalidMapEntry := by
  simp only [State.mapEntryRead, strip, present, invalid]

theorem State.mapEntryRead_none (strip : x.strip = none) (bytes : List Byte) (s : State) :
    s.mapEntryRead i x bytes = s := by
  simp only [State.mapEntryRead, strip]

/-- The record that has its entry stays in its place. -/
theorem Cam.entryCame_eq (base addr : Nat) (y : Cam) :
    y.entryCame base addr = { y with queue := (y.entryCame base addr).queue } ∧
      (y.entryCame base addr).queue.length = y.queue.length := by
  refine ⟨rfl, ?_⟩
  unfold Cam.entryCame
  dsimp only
  split
  · next empty => rw [empty]
  · next queue => rw [queue]; rfl

end Sys2Proof.Machine
end

/-! The steps that take what comes back of a strip, and their failures (R110 to R115, R198). -/

section
namespace Sys2Proof.Machine

variable {s t u : State} {i : Fin 4} {h : Half} {x : Transfer} {a : Nat} {v : Bool} {c : CamCfg} {bytes : List Byte}

/-- From `s` to `u` a valid map entry of the page of `a` came for camera `i`: the cache holds it, and the strips stay. -/
structure State.Cached (i : Fin 4) (a host : Nat) (s u : State) : Prop where
  fields : u = { s with cu := u.cu, cmp := { s.cmp with dma := u.cmp.dma } }
  held : u.cu.lookup i (a / 8192) = some host
  mapErrors : u.cu.mapErrors = s.cu.mapErrors
  even : (u.cam i).even = (s.cam i).even
  odd : (u.cam i).odd = (s.cam i).odd
  length : (u.cam i).queue.length = (s.cam i).queue.length

theorem State.cacheTranslation_cached {host : Nat} (room : s.cu.pointer < s.cu.cache.length) (i : Fin 4) (a : Nat) :
    s.Cached i a host (s.cacheTranslation i a host) := by
  have changed : (s.cacheTranslation i a host).cu = { s.cu with
      cache := (s.cacheTranslation i a host).cu.cache, pointer := (s.cacheTranslation i a host).cu.pointer } :=
    Cu.insertTranslation_eq { cam := i, page := a / 8192, host := host } s.cu
  have cams : (s.cacheTranslation i a host).cam i = s.cam i := by rw [State.cam, changed]; rfl
  exact
    { fields := rfl
      held := Cu.lookup_insertTranslation (x := { cam := i, page := a / 8192, host := host }) room
      mapErrors := by rw [changed]
      even := congrArg Cam.even cams
      odd := congrArg Cam.odd cams
      length := congrArg (fun c => c.queue.length) cams }

/-- The cache is not touched when the head of the queue takes its entry and goes on. -/
theorem State.Cached.goesOn {host : Nat} (cached : s.Cached i a host u) (base addr : Nat) :
    s.Cached i a host ((u.onCam i (Cam.entryCame base addr)).pumpStrip i) := by
  have pumped := (u.onCam i (Cam.entryCame base addr)).pumpStrip_pumps i
  have came : (u.onCam i (Cam.entryCame base addr)).cam i = (u.cam i).entryCame base addr := State.onCam_cam ..
  generalize (u.onCam i (Cam.entryCame base addr)).pumpStrip i = w at pumped
  exact
    { fields := by rw [pumped.fields, cached.fields]; rfl
      held := by rw [pumped.cu_eq]; exact cached.held
      mapErrors := by rw [pumped.cu_eq]; exact cached.mapErrors
      even := by rw [pumped.camera, came]; exact cached.even
      odd := by rw [pumped.camera, came]; exact cached.odd
      length := by rw [pumped.length, came, (Cam.entryCame_eq ..).2]; exact cached.length }

theorem State.mapEntryRead_cached {host : Nat} (strip : x.strip = some ⟨h, a, v⟩) (present : s.camCfg i = some c)
    (valid : mapEntryPage bytes = some host) (room : s.cu.pointer < s.cu.cache.length) :
    s.Cached i a host (s.mapEntryRead i x bytes) := by
  have cached := State.cacheTranslation_cached (host := host) room i a
  rw [State.mapEntryRead_valid strip present valid]
  split
  · exact cached.goesOn c.mapBase x.addr
  · exact cached

/-! ## Failures (R114, R198) -/

theorem State.stripTransferFailed_serving {k : DmaKind} (strip : x.strip = some ⟨h, a, true⟩) :
    s.stripTransferFailed i x k = (s.abortStrip i h false).enterDmaError x k := by
  simp only [State.stripTransferFailed, strip, if_true]

theorem State.stripTransferFailed_loose {k : DmaKind} (strip : x.strip = some ⟨h, a, false⟩) :
    s.stripTransferFailed i x k = s.enterDmaError x k := by
  simp only [State.stripTransferFailed, strip, Bool.false_eq_true, if_false]

theorem State.Aborted.entered (aborted : s.Aborted i h t) (x : Transfer) (kind : DmaKind) :
    s.Aborted i h (t.enterDmaError x kind) := by
  have writes := t.enterDmaError_writesInFlight x kind i h
  have entered := t.enterDmaError_eq x kind
  generalize t.enterDmaError x kind = u at writes entered
  have camera : u.cam i = t.cam i := by rw [entered]; rfl
  refine ⟨?_, ?_, ?_, ?_⟩
  · rw [entered, aborted.fields]
  · rw [camera]
    exact aborted.records
  · rw [camera, writes]
    exact aborted.waits
  · rw [camera, writes]
    exact aborted.ends

/-- The strip of a transfer that meets a delivery error is aborted, and the failure entered. -/
theorem State.abortStrip_enters {m : Bool} {kind : DmaKind} (fresh : ((s.cam i).buf h).aborted = false) :
    s.Aborted i h ((s.abortStrip i h m).enterDmaError x kind) ∧
      EntersDmaError x kind s ((s.abortStrip i h m).enterDmaError x kind) := by
  obtain ⟨aborted, dmaErr⟩ := State.abortStrip_aborted (m := m) fresh
  have beat : (s.abortStrip i h m).su.beat = s.su.beat := by rw [aborted.fields]
  exact ⟨aborted.entered x kind, (State.enterDmaError_enters x kind _).congr beat dmaErr rfl rfl⟩

/-- What a delivery error of a strip's transfer does, by the kind that is entered: the conclusion that the statement draws. -/
theorem State.Aborted.delivered {n : Nat} {p : Purpose} {w u : State} {kind : DmaKind}
    (aborted : w.Aborted i h u) (enters : EntersDmaError x kind w u)
    (start : w = { s.cameraBack p i n with cu := { s.cu with mapErrors := w.cu.mapErrors } }) :
    EntersDmaError x kind s u ∧ (∀ r ∈ (u.cam i).queue, r.half ≠ h) ∧ u.cu.mapErrors = w.cu.mapErrors ∧
      (u.writesInFlight i h = true → ((u.cam i).buf h).aborted = true ∧
        ((u.cam i).buf h).partOwned = ((s.cam i).buf h).partOwned) ∧
      (u.writesInFlight i h = false → ((s.cam i).buf h).partOwned = true → (u.cam i).buf h = .hostOwned) ∧
      u = { s.atTime n with cu := u.cu, cmp := u.cmp } := by
  obtain ⟨fields, records, waits, ends⟩ := aborted
  have camera : w.cam i = s.cam i := by rw [start]; rfl
  rw [camera] at waits ends
  refine ⟨enters.congr (by rw [start]; rfl) (by rw [start]; rfl) rfl rfl, records, by rw [fields], waits, ends, ?_⟩
  rw [fields, start]
  rfl

/-! ## A strip write that completes (R110) -/

theorem State.stripWritten_loose (strip : x.strip = some ⟨h, a, false⟩) : s.stripWritten i x = s := by
  simp [State.stripWritten, strip]

theorem State.stripWritten_none (strip : x.strip = none) : s.stripWritten i x = s := by
  simp [State.stripWritten, strip]

/-- The record at the head of the queue leaves it, and its buffer counts it. -/
def State.takeRecord (i : Fin 4) (r : StripRec) (rest : List StripRec) (s : State) : State :=
  s.onCam i fun c => { c.onBuf r.half (fun b => { b with written := b.written + 1 }) with queue := rest }

theorem State.takeRecord_cam {r : StripRec} {rest : List StripRec} : (s.takeRecord i r rest).cam i =
    { (s.cam i).onBuf r.half (fun b => { b with written := b.written + 1 }) with queue := rest } := State.onCam_cam ..

theorem State.takeRecord_buf {r : StripRec} {rest : List StripRec} : ((s.takeRecord i r rest).cam i).buf r.half =
    { (s.cam i).buf r.half with written := ((s.cam i).buf r.half).written + 1 } := by
  rw [State.takeRecord_cam]
  cases r.half <;> rfl

section
variable {r : StripRec} {rest : List StripRec} (strip : x.strip = some ⟨h, a, true⟩)
  (fresh : ((s.cam i).buf h).aborted = false) (queue : (s.cam i).queue = r :: rest) (last : r.todo = [])
  (quiet : s.writesInFlight i r.half = false)
include strip fresh queue last quiet

/-- With the last write of a record it leaves the queue; with the last record of a complete strip the buffer goes back. -/
theorem State.stripWritten_last : s.stripWritten i x =
    (if ((s.cam i).buf r.half).complete && !rest.any (fun q => q.half == r.half) then
      (s.takeRecord i r rest).stripDone i r.half ((s.cam i).buf r.half).lines
    else s.takeRecord i r rest).pumpStrip i := by
  have buffer := State.takeRecord_buf (s := s) (i := i) (r := r) (rest := rest)
  simp only [State.stripWritten, strip, fresh, queue, last, quiet, List.isEmpty_nil, Bool.not_true, Bool.or_false,
    Bool.false_eq_true, if_false]
  have complete := congrArg StripBuf.complete buffer
  have lines := congrArg StripBuf.lines buffer
  dsimp only at complete lines
  rw [← complete, ← lines]
  rfl

theorem State.stripWritten_goesOn
    (goesOn : ((s.cam i).buf r.half).complete = false ∨ rest.any (fun q => q.half == r.half) = true) :
    s.stripWritten i x = (s.takeRecord i r rest).pumpStrip i := by
  rw [State.stripWritten_last strip fresh queue last quiet, if_neg]
  rcases goesOn with e | e <;> simp [e]

theorem State.stripWritten_done (complete : ((s.cam i).buf r.half).complete = true)
    (none : rest.any (fun q => q.half == r.half) = false) :
    s.stripWritten i x = ((s.takeRecord i r rest).stripDone i r.half ((s.cam i).buf r.half).lines).pumpStrip i := by
  rw [State.stripWritten_last strip fresh queue last quiet, if_pos]
  rw [complete, none]
  rfl
end

end Sys2Proof.Machine
end

/-! The obligation about what comes back of a strip's transfers (R110 to R115, R198). -/

section
namespace Sys2Proof.Machine

variable {s t u : State} {i : Fin 4} {h : Half} {x : Transfer} {a : Nat} {v : Bool} {c : CamCfg} {bytes : List Byte}

theorem State.Aborted.draining (aborted : s.Aborted i h t) : t.cu.draining = s.cu.draining := by rw [aborted.fields]

/-- What a valid map entry does (R112, R113). -/
theorem mapEntry_valid {t : Nat} {host : Nat} (ready : s.cmp.ready .mapEntryRead (.camera i) = some x)
    (strip : x.strip = some ⟨h, a, v⟩) (present : s.camCfg i = some c) (valid : mapEntryPage bytes = some host)
    (room : s.cu.pointer < s.cu.cache.length) :
    ∃ u, exec (.mapEntryReadComplete t i (.data bytes)) s = .next u ∧ u.cu.lookup i (a / 8192) = some host ∧
      u.cu.mapErrors = s.cu.mapErrors ∧ (u.cam i).even = (s.cam i).even ∧ (u.cam i).odd = (s.cam i).odd ∧
      (u.cam i).queue.length = (s.cam i).queue.length ∧ PostsNothing s u ∧
      (v = false → u.cu.cams = s.cu.cams ∧ u.cmp = s.cmp.without .mapEntryRead (.camera i)) ∧
      u = { s.atTime t with cu := u.cu, cmp := u.cmp } := by
  have cached : (s.cameraBack .mapEntryRead i t).Cached i a host _ :=
    State.mapEntryRead_cached (bytes := bytes) strip present valid room
  refine ⟨_, exec_mapEntryRead_data ready t bytes, ?_⟩
  have loose : v = false → (s.cameraBack .mapEntryRead i t).mapEntryRead i x bytes =
      (s.cameraBack .mapEntryRead i t).cacheTranslation i a host := fun e => by
    rw [State.mapEntryRead_valid (s := s.cameraBack .mapEntryRead i t) strip present valid, e]
    rfl
  generalize (s.cameraBack .mapEntryRead i t).mapEntryRead i x bytes = u at cached loose
  obtain ⟨fields, held, mapErrors, even, odd, length⟩ := cached
  refine ⟨held, mapErrors, even, odd, length, ?_, fun e => ?_, ?_⟩
  · rw [fields]
    exact ⟨rfl, rfl⟩
  · have cams := congrArg Cu.cams (Cu.insertTranslation_eq { cam := i, page := a / 8192, host := host } s.cu)
    rw [loose e]
    exact ⟨cams, rfl⟩
  · rw [fields]
    rfl

/-- What a delivery error of a strip's transfer does (R114, R198). -/
theorem strip_deliveryError {t : Nat} {j : Instr} {kind : DmaKind} (idle : s.cu.draining = none)
    (strip : x.strip = some ⟨h, a, true⟩) (present : s.camCfg i = some c) (fresh : ((s.cam i).buf h).aborted = false)
    (fails : (∃ bytes, j = .mapEntryReadComplete t i (.data bytes) ∧ mapEntryPage bytes = none ∧ kind = .invalidMapEntry ∧
        s.cmp.ready .mapEntryRead (.camera i) = some x) ∨
      (j = .mapEntryReadComplete t i .error ∧ kind = .errorCompletion ∧
        s.cmp.ready .mapEntryRead (.camera i) = some x) ∨
      (j = .stripWriteComplete t i false ∧ kind = .errorCompletion ∧
        s.cmp.ready .stripWrite (.camera i) = some x)) :
    ∃ u, exec j s = .next u ∧ EntersDmaError x kind s u ∧ (∀ r ∈ (u.cam i).queue, r.half ≠ h) ∧
      u.cu.mapErrors = (if kind = .invalidMapEntry then bump s.cu.mapErrors else s.cu.mapErrors) ∧
      (u.writesInFlight i h = true → ((u.cam i).buf h).aborted = true ∧
        ((u.cam i).buf h).partOwned = ((s.cam i).buf h).partOwned) ∧
      (u.writesInFlight i h = false → ((s.cam i).buf h).partOwned = true → (u.cam i).buf h = .hostOwned) ∧
      u = { s.atTime t with cu := u.cu, cmp := u.cmp } := by
  rcases fails with ⟨bytes, rfl, invalid, rfl, ready⟩ | ⟨rfl, rfl, ready⟩ | ⟨rfl, rfl, ready⟩
  · obtain ⟨aborted, enters⟩ := State.abortStrip_enters (s := (s.cameraBack .mapEntryRead i t).countMapError) (x := x)
      (m := true) (kind := .invalidMapEntry) fresh
    refine ⟨_, exec_mapEntryRead_data ready t bytes, ?_⟩
    rw [State.mapEntryRead_invalid (s := s.cameraBack .mapEntryRead i t) strip present invalid]
    exact aborted.delivered (p := .mapEntryRead) (n := t) enters rfl
  · obtain ⟨aborted, enters⟩ := State.abortStrip_enters (s := s.cameraBack .mapEntryRead i t) (x := x) (m := false)
      (kind := .errorCompletion) fresh
    refine ⟨_, exec_mapEntryRead_error ready t, ?_⟩
    rw [State.stripTransferFailed_serving strip]
    exact aborted.delivered (p := .mapEntryRead) (n := t) enters rfl
  · obtain ⟨aborted, enters⟩ := State.abortStrip_enters (s := s.cameraBack .stripWrite i t) (x := x) (m := false)
      (kind := .errorCompletion) fresh
    refine ⟨_, exec_stripWrite_error ready t, ?_⟩
    rw [State.stripTransferFailed_serving strip, State.finishConfigure_of_none (aborted.draining.trans idle)]
    exact aborted.delivered (p := .stripWrite) (n := t) enters rfl

/-- A buffer handed back posts its counts and flags (R110). -/
theorem State.stripDone_posts (i : Fin 4) (h : Half) (n : Nat) (s : State) :
    Posts (.stripDone i h n ((s.cam i).buf h).overrun ((s.cam i).buf h).mapErr ((s.cam i).buf h).dmaErr
      ((s.cam i).buf h).firstTag ((s.cam i).buf h).gap) s (s.stripDone i h n) := by
  have posted := State.post_posts (.stripDone i h n ((s.cam i).buf h).overrun ((s.cam i).buf h).mapErr
    ((s.cam i).buf h).dmaErr ((s.cam i).buf h).firstTag ((s.cam i).buf h).gap)
    (s.onCam i fun c => c.onBuf h fun _ => .hostOwned)
  exact posted.congr_event rfl rfl rfl

/-- From `s` to `u` the record `r` left the head of a queue, with `rest` behind it: its buffer counts it, or is handed back
with the last record of a complete strip (R110). -/
structure State.RecordEnds (i : Fin 4) (r : StripRec) (rest : List StripRec) (s u : State) : Prop where
  fields : u = { s with cu := { s.cu with cams := u.cu.cams }, cmp := u.cmp }
  length : (u.cam i).queue.length = rest.length
  counts : ((s.cam i).buf r.half).complete = false ∨ rest.any (fun q => q.half == r.half) = true →
    (u.cam i).buf r.half = { (s.cam i).buf r.half with written := ((s.cam i).buf r.half).written + 1 } ∧ PostsNothing s u
  done : ((s.cam i).buf r.half).complete = true → rest.any (fun q => q.half == r.half) = false →
    (u.cam i).buf r.half = .hostOwned ∧
    Posts (.stripDone i r.half ((s.cam i).buf r.half).lines ((s.cam i).buf r.half).overrun ((s.cam i).buf r.half).mapErr
      ((s.cam i).buf r.half).dmaErr ((s.cam i).buf r.half).firstTag ((s.cam i).buf r.half).gap) s u

section
variable {r : StripRec} {rest : List StripRec}

theorem State.takeRecord_ends
    (more : ((s.cam i).buf r.half).complete = false ∨ rest.any (fun q => q.half == r.half) = true) :
    s.RecordEnds i r rest ((s.takeRecord i r rest).pumpStrip i) := by
  have camera := State.takeRecord_cam (s := s) (i := i) (r := r) (rest := rest)
  have counted := State.takeRecord_buf (s := s) (i := i) (r := r) (rest := rest)
  have pumped := (s.takeRecord i r rest).pumpStrip_pumps i
  generalize (s.takeRecord i r rest).pumpStrip i = u at pumped
  refine ⟨?_, ?_, fun _ => ⟨?_, ?_⟩, fun complete none => ?_⟩
  · rw [pumped.fields]; rfl
  · rw [pumped.length, camera]
  · rw [pumped.buf, counted]
  · rw [pumped.fields]; exact ⟨rfl, rfl⟩
  · rw [complete, none] at more
    simp at more

theorem State.stripDone_ends (complete : ((s.cam i).buf r.half).complete = true)
    (none : rest.any (fun q => q.half == r.half) = false) : s.RecordEnds i r rest
      (((s.takeRecord i r rest).stripDone i r.half ((s.cam i).buf r.half).lines).pumpStrip i) := by
  have camera := State.takeRecord_cam (s := s) (i := i) (r := r) (rest := rest)
  have counted := State.takeRecord_buf (s := s) (i := i) (r := r) (rest := rest)
  have done := State.stripDone_eq i r.half ((s.cam i).buf r.half).lines (s.takeRecord i r rest)
  have emptied := State.stripDone_cam i r.half ((s.cam i).buf r.half).lines (s.takeRecord i r rest)
  have posts := State.stripDone_posts i r.half ((s.cam i).buf r.half).lines (s.takeRecord i r rest)
  rw [counted] at posts
  generalize (s.takeRecord i r rest).stripDone i r.half ((s.cam i).buf r.half).lines = w at done emptied posts
  have pumped := w.pumpStrip_pumps i
  generalize w.pumpStrip i = u at pumped
  refine ⟨?_, ?_, fun more => ?_, fun _ _ => ⟨?_, (posts.congr_event (s' := s) rfl rfl rfl).of_event rfl ?_ ?_⟩⟩
  · rw [pumped.fields, done]; rfl
  · rw [pumped.length, emptied, Cam.onBuf_queue, camera]
  · rw [complete, none] at more
    simp at more
  · rw [pumped.buf, emptied, Cam.buf_onBuf]
  · rw [pumped.cmp_eq]
  · rw [pumped.cmp_eq]

theorem State.stripWritten_ends (strip : x.strip = some ⟨h, a, true⟩) (fresh : ((s.cam i).buf h).aborted = false)
    (queue : (s.cam i).queue = r :: rest) (last : r.todo = []) (quiet : s.writesInFlight i r.half = false) :
    s.RecordEnds i r rest (s.stripWritten i x) := by
  by_cases ends : ((s.cam i).buf r.half).complete = true ∧ rest.any (fun q => q.half == r.half) = false
  · obtain ⟨complete, none⟩ := ends
    rw [State.stripWritten_done strip fresh queue last quiet complete none]
    exact State.stripDone_ends complete none
  · have more : ((s.cam i).buf r.half).complete = false ∨ rest.any (fun q => q.half == r.half) = true := by
      simpa [or_iff_not_imp_left] using ends
    rw [State.stripWritten_goesOn strip fresh queue last quiet more]
    exact State.takeRecord_ends more

/-- What the completion that ends the record at the head of the queue does (R110). -/
theorem strip_recordEnds {t : Nat} {b : StripBuf} (idle : s.cu.draining = none)
    (ready : s.cmp.ready .stripWrite (.camera i) = some x) (strip : x.strip = some ⟨h, a, true⟩)
    (fresh : ((s.cam i).buf h).aborted = false) (queue : (s.cam i).queue = r :: rest) (last : r.todo = [])
    (quiet : (s.cameraBack .stripWrite i t).writesInFlight i r.half = false) (buffer : b = (s.cam i).buf r.half) :
    ∃ u, exec (.stripWriteComplete t i true) s = .next u ∧ u = { s.atTime t with cu := u.cu, cmp := u.cmp } ∧
      (u.cam i).queue.length = rest.length ∧
      (b.complete = false ∨ rest.any (fun q => q.half == r.half) = true →
        (u.cam i).buf r.half = { b with written := b.written + 1 } ∧ PostsNothing s u) ∧
      (b.complete = true → rest.any (fun q => q.half == r.half) = false →
        (u.cam i).buf r.half = .hostOwned ∧
        Posts (.stripDone i r.half b.lines b.overrun b.mapErr b.dmaErr b.firstTag b.gap) s u) := by
  subst buffer
  have ends : (s.cameraBack .stripWrite i t).RecordEnds i r rest _ :=
    State.stripWritten_ends (s := s.cameraBack .stripWrite i t) strip fresh queue last quiet
  have run := exec_stripWrite_data ready t
  generalize (s.cameraBack .stripWrite i t).stripWritten i x = u at ends run
  obtain ⟨fields, length, counts, done⟩ := ends
  rw [State.finishConfigure_of_none (s := u) (by rw [fields]; exact idle)] at run
  refine ⟨u, run, by rw [fields]; rfl, length, counts, fun complete none => ?_⟩
  obtain ⟨owned, posts⟩ := done complete none
  exact ⟨owned, posts.congr_event rfl rfl rfl⟩
end

/-- Settles O32: an entry that is valid goes into the cache, a delivery error aborts its strip, and the last write of a record
takes it out of the queue. -/
theorem stripTransfers : Obligations.StripTransfers := by
  refine ⟨fun t i reply s idle => exec_mapEntryRead_none idle t reply, fun t i ok s idle => exec_stripWrite_none idle t ok,
    fun t i bytes s x h a host v c ready strip present valid room => mapEntry_valid ready strip present valid room,
    fun t i s x h a c j kind idle strip present fresh fails => strip_deliveryError idle strip present fresh fails,
    fun t i s x h a r rest b idle ready strip fresh queue last quiet buffer =>
      strip_recordEnds idle ready strip fresh queue last quiet buffer,
    fun t i s x h a c bytes strip present invalid ready => ?_, fun t i s x h a j ok p strip ready back => ?_,
    fun t i s x idle strip => ⟨fun bytes ready => ?_, fun ready => ?_⟩⟩
  · refine ⟨_, exec_mapEntryRead_data ready t bytes, ?_⟩
    rw [State.mapEntryRead_invalid (s := s.cameraBack .mapEntryRead i t) strip present invalid]
    have enters := State.enterDmaError_enters x .invalidMapEntry (s.cameraBack .mapEntryRead i t).countMapError
    refine ⟨enters.congr rfl rfl rfl rfl, ?_⟩
    exact State.enterDmaError_eq x .invalidMapEntry (s.cameraBack .mapEntryRead i t).countMapError
  · have enters := State.enterDmaError_enters x .errorCompletion (s.cameraBack p i t)
    have entered := State.enterDmaError_eq x .errorCompletion (s.cameraBack p i t)
    obtain ⟨-, -, strips⟩ := State.enterDmaError_keeps x .errorCompletion (s.cameraBack p i t)
    rcases back with ⟨rfl, rfl, rfl⟩ | ⟨rfl, rfl, waits⟩
    · refine ⟨_, exec_mapEntryRead_error ready t, ?_⟩
      rw [State.stripTransferFailed_loose strip]
      exact ⟨fun _ => enters.congr rfl rfl rfl rfl, entered, fun e => absurd e Bool.false_ne_true⟩
    · have resumes (w : State) (cu : w.cu = s.cu) (strips : w.cmp.writesStrips =
          (s.cmp.without .stripWrite (.camera i)).writesStrips) : w.finishConfigure = w := by
        rcases waits with idle | busy
        · exact State.finishConfigure_of_none (by rw [cu, idle])
        · exact State.finishConfigure_of_writes (strips.trans busy)
      cases ok with
      | true =>
        refine ⟨_, exec_stripWrite_data ready t, ?_⟩
        rw [State.stripWritten_loose strip, resumes (s.cameraBack .stripWrite i t) rfl rfl]
        exact ⟨fun e => absurd e.symm Bool.false_ne_true, rfl, fun _ => rfl⟩
      | false =>
        refine ⟨_, exec_stripWrite_error ready t, ?_⟩
        rw [State.stripTransferFailed_loose strip, resumes _ (by rw [entered]; rfl) strips]
        exact ⟨fun _ => enters.congr rfl rfl rfl rfl, entered, fun e => absurd e Bool.false_ne_true⟩
  · rw [exec_mapEntryRead_data ready, State.mapEntryRead_none strip]
    rfl
  · rw [exec_stripWrite_data ready, State.stripWritten_none strip, State.finishConfigure_of_none (by exact idle)]
    rfl

end Sys2Proof.Machine
end

/-! What the strip filler does with a line (R109 to R111). -/

section
namespace Sys2Proof.Machine

variable {s t u : State} {i : Fin 4} {h : Half} {c : CamCfg} {g : LineTag} {p : List Byte}

/-! ## What it leaves -/

/-- From `s` to `t` the strip filler acted for a camera: of that camera its triggers and its missing count stay, and no other
changes. -/
structure State.Fills (i : Fin 4) (s t : State) : Prop where
  fields : t = { s with cu := t.cu, cmp := t.cmp }
  trigs : (t.cam i).trigs = (s.cam i).trigs
  missing : (t.cam i).missing = (s.cam i).missing
  others : ∀ j, j ≠ i → t.cam j = s.cam j

theorem State.Fills.refl (i : Fin 4) (s : State) : s.Fills i s := ⟨rfl, rfl, rfl, fun _ _ => rfl⟩

theorem State.Fills.trans (f : s.Fills i t) (k : t.Fills i u) : s.Fills i u where
  fields := by rw [k.fields, f.fields]
  trigs := k.trigs.trans f.trigs
  missing := k.missing.trans f.missing
  others j different := (k.others j different).trans (f.others j different)

theorem State.Pumps.fills (k : s.Pumps i t) : s.Fills i t where
  fields := by rw [k.fields]
  trigs := by rw [k.camera]
  missing := by rw [k.camera]
  others := k.others

theorem State.Fills.onCu (f : Cu → Cu) (same : (f s.cu).cams = s.cu.cams) : s.Fills i (s.onCu f) := by
  have cam (j : Fin 4) : (s.onCu f).cam j = s.cam j := congrArg (Quad.get · j) same
  exact ⟨rfl, by rw [cam], by rw [cam], fun j _ => cam j⟩

theorem State.Fills.onCam (f : Cam → Cam) (trigs : (f (s.cam i)).trigs = (s.cam i).trigs)
    (missing : (f (s.cam i)).missing = (s.cam i).missing) : s.Fills i (s.onCam i f) :=
  ⟨rfl, by rw [State.onCam_cam, trigs], by rw [State.onCam_cam, missing], fun _ different =>
    State.onCam_cam_ne different f s⟩

theorem State.Fills.post (e : Event) (s : State) : s.Fills i (s.post e) := by
  have cam (j : Fin 4) : (s.post e).cam j = s.cam j := by rw [State.cam, State.post_cu]; rfl
  exact ⟨by rw [State.post_eq], by rw [cam], by rw [cam], fun j _ => cam j⟩

theorem Cam.onBuf_missing (h : Half) (f : StripBuf → StripBuf) (c : Cam) : (c.onBuf h f).missing = c.missing := by
  rw [Cam.onBuf_eq]

/-! ## A line accepted, a strip started, a line dropped -/

/-- The record of a line that joins the queue (R109). -/
def Cam.recordOf (c : CamCfg) (g : LineTag) (p : List Byte) (x : Cam) : StripRec :=
  let addr := (x.buf x.selector).addr + (x.buf x.selector).lines * (8 + stripWidth c)
  { half := x.selector, addr := addr, todo := cutPages addr (lineRecord c g p), reading := false }

/-- The camera that has accepted a line for the strip in progress (R109, R110). -/
def Cam.acceptLine (c : CamCfg) (g : LineTag) (p : List Byte) (x : Cam) : Cam :=
  let full := decide (c.height ≤ (x.buf x.selector).lines + 1)
  { x.onBuf x.selector (fun b => { b with lines := b.lines + 1, complete := full }) with
    queue := x.queue ++ [x.recordOf c g p]
    inProgress := !full, selector := if full then x.selector.other else x.selector }

theorem State.acceptLine_full (full : 16 ≤ (s.cam i).queue.length) : s.acceptLine i c g p =
    (s.onCu fun u => { u with droppedLines := bump u.droppedLines }).onCam i fun y =>
      y.onBuf (s.cam i).selector fun b => { b with overrun := true } := by
  unfold State.acceptLine
  exact if_pos full

theorem State.acceptLine_room (room : (s.cam i).queue.length < 16) : s.acceptLine i c g p =
    if (s.cam i).queue.isEmpty then (s.onCam i fun _ => (s.cam i).acceptLine c g p).pumpStrip i
    else s.onCam i fun _ => (s.cam i).acceptLine c g p := by
  have same (f : Cam → Cam) : s.onCam i f = s.onCam i fun _ => f (s.cam i) := rfl
  unfold State.acceptLine
  dsimp only
  rw [if_neg (Nat.not_le.mpr room), same]
  rfl

/-- The pixels and the tag of a line are all in the parts of its record. -/
theorem cutPages_bytes (addr : Nat) (bytes : List Byte) : (cutPages addr bytes).flatMap (·.bytes) = bytes := by
  unfold cutPages
  dsimp only
  split
  · next short => simp [List.take_of_length_le short]
  · simp

/-- From `s` to `u` a line joined the write queue of camera `i`, with room there (R109, R110). -/
structure State.Accepts (i : Fin 4) (c : CamCfg) (g : LineTag) (p : List Byte) (s u : State) : Prop where
  fills : s.Fills i u
  buf : (u.cam i).buf (s.cam i).selector =
    { (s.cam i).buf (s.cam i).selector with
      lines := ((s.cam i).buf (s.cam i).selector).lines + 1
      complete := decide (c.height ≤ ((s.cam i).buf (s.cam i).selector).lines + 1) }
  length : (u.cam i).queue.length = (s.cam i).queue.length + 1
  inProgress : (u.cam i).inProgress = decide (((s.cam i).buf (s.cam i).selector).lines + 1 < c.height)
  gap : (u.cam i).gap = (s.cam i).gap
  record : (s.cam i).queue ≠ [] → (u.cam i).queue = (s.cam i).queue ++ [(s.cam i).recordOf c g p]

theorem Cam.acceptLine_eq (c : CamCfg) (g : LineTag) (p : List Byte) (x : Cam) :
    (x.acceptLine c g p).buf x.selector = { x.buf x.selector with
      lines := (x.buf x.selector).lines + 1, complete := decide (c.height ≤ (x.buf x.selector).lines + 1) } ∧
    (x.acceptLine c g p).trigs = x.trigs ∧ (x.acceptLine c g p).missing = x.missing ∧
    (x.acceptLine c g p).gap = x.gap := by
  unfold Cam.acceptLine
  cases x.selector <;> exact ⟨rfl, rfl, rfl, rfl⟩

theorem State.onCam_accepts (c : CamCfg) (g : LineTag) (p : List Byte) (s : State) :
    s.Accepts i c g p (s.onCam i fun _ => (s.cam i).acceptLine c g p) := by
  obtain ⟨buf, trigs, missing, gap⟩ := (s.cam i).acceptLine_eq c g p
  refine ⟨.onCam _ trigs missing, ?_, ?_, ?_, ?_, fun _ => ?_⟩
  all_goals rw [State.onCam_cam]
  · exact buf
  · exact List.length_append
  · exact decide_not.symm.trans (decide_eq_decide.mpr Nat.not_le)
  · exact gap
  · rfl

theorem State.acceptLine_accepts (room : (s.cam i).queue.length < 16) (c : CamCfg) (g : LineTag) (p : List Byte) :
    s.Accepts i c g p (s.acceptLine i c g p) := by
  obtain ⟨fills, buf, length, inProgress, gap, record⟩ := State.onCam_accepts (i := i) c g p s
  rw [State.acceptLine_room room]
  split
  · next empty =>
    have pumped := (s.onCam i fun _ => (s.cam i).acceptLine c g p).pumpStrip_pumps i
    generalize (s.onCam i fun _ => (s.cam i).acceptLine c g p).pumpStrip i = u at pumped
    refine ⟨fills.trans pumped.fills, ?_, ?_, ?_, ?_, fun some => absurd (List.isEmpty_iff.mp empty) some⟩
    · rw [pumped.buf, buf]
    · rw [pumped.length, length]
    · rw [pumped.camera]
      exact inProgress
    · rw [pumped.camera]
      exact gap
  · exact ⟨fills, buf, length, inProgress, gap, record⟩

theorem State.acceptLine_fills (i : Fin 4) (c : CamCfg) (g : LineTag) (p : List Byte) (s : State) :
    s.Fills i (s.acceptLine i c g p) := by
  by_cases full : 16 ≤ (s.cam i).queue.length
  · rw [State.acceptLine_full full]
    refine State.Fills.trans (.onCu _ rfl) (.onCam _ ?_ ?_)
    · exact Cam.onBuf_trigs ..
    · exact Cam.onBuf_missing ..
  · exact (State.acceptLine_accepts (Nat.lt_of_not_le full) c g p).fills

/-- The camera in which a strip has started (R109, R111). -/
def Cam.startStrip (h : Half) (g : LineTag) (x : Cam) : Cam :=
  { x.onBuf h (fun b => { b with begun := true, firstTag := some g, gap := x.gap }) with
    selector := h, inProgress := true, gap := none }

theorem State.startStrip_cam (i : Fin 4) (h : Half) (g : LineTag) (s : State) :
    (s.startStrip i h g).cam i = (s.cam i).startStrip h g := by
  have cam : State.cam (s.onCu fun u => if u.invalidate then u.emptyCache else u) i = s.cam i := by
    unfold State.cam State.onCu
    dsimp only
    split <;> rfl
  unfold State.startStrip
  exact (State.onCam_cam ..).trans (congrArg (Cam.startStrip h g) cam)

theorem State.startStrip_fills (i : Fin 4) (h : Half) (g : LineTag) (s : State) : s.Fills i (s.startStrip i h g) := by
  unfold State.startStrip
  refine State.Fills.trans (.onCu _ ?_) (.onCam _ ?_ ?_)
  · split <;> rfl
  · exact Cam.onBuf_trigs ..
  · exact Cam.onBuf_missing ..

theorem State.dropLine_fills (i : Fin 4) (g : LineTag) (s : State) : s.Fills i (s.dropLine i g) := by
  have dropped (n : Nat) : s.Fills i ((s.onCu fun u => { u with droppedLines := bump u.droppedLines }).onCam i
      fun y => { y with gap := some n }) := State.Fills.trans (.onCu _ rfl) (.onCam _ rfl rfl)
  unfold State.dropLine
  dsimp only
  split
  · exact (dropped _).trans (.post _ _)
  · exact dropped _

/-- A line dropped for want of a buffer steps the gap and the count, and leaves the write queue (R111). -/
theorem State.dropLine_drops (i : Fin 4) (g : LineTag) (s : State) :
    ((s.dropLine i g).cam i).gap = some ((s.cam i).gap.getD 0 + 1) ∧
      (s.dropLine i g).cu.droppedLines = bump s.cu.droppedLines ∧ ((s.dropLine i g).cam i).queue = (s.cam i).queue := by
  have cu : (s.dropLine i g).cu = { s.cu with
      droppedLines := bump s.cu.droppedLines
      cams := s.cu.cams.modify i fun y => { y with gap := some ((s.cam i).gap.getD 0 + 1) } } := by
    unfold State.dropLine
    dsimp only
    split
    · rw [State.post_cu]; rfl
    · rfl
  rw [State.cam, cu]
  refine ⟨?_, rfl, ?_⟩
  all_goals rw [Quad.get_modify_self]
  rfl

/-! ## The filler's choice (R109 to R111) -/

theorem State.fillStrip_unchosen (other : g.index % c.decimation ≠ 0) : s.fillStrip i c g p = s := if_pos other

section
variable (chosen : g.index % c.decimation = 0)
include chosen

theorem State.fillStrip_inProgress (busy : (s.cam i).inProgress = true) :
    s.fillStrip i c g p = s.acceptLine i c g p := by
  rw [State.fillStrip, if_neg (not_not.mpr chosen), if_pos busy]

theorem State.fillStrip_start (idle : (s.cam i).inProgress = false) (start : (s.cam i).startHalf = some h) :
    s.fillStrip i c g p = (s.startStrip i h g).acceptLine i c g p := by
  simp only [State.fillStrip, not_not.mpr chosen, if_false, idle, Bool.false_eq_true, start]

theorem State.fillStrip_drop (idle : (s.cam i).inProgress = false) (start : (s.cam i).startHalf = none) :
    s.fillStrip i c g p = s.dropLine i g := by
  simp only [State.fillStrip, not_not.mpr chosen, if_false, idle, Bool.false_eq_true, start]
end

theorem State.fillStrip_fills (i : Fin 4) (c : CamCfg) (g : LineTag) (p : List Byte) (s : State) :
    s.Fills i (s.fillStrip i c g p) := by
  unfold State.fillStrip
  split
  · exact .refl i s
  · split
    · exact s.acceptLine_fills i c g p
    · split
      · exact (s.startStrip_fills i _ g).trans (State.acceptLine_fills ..)
      · exact s.dropLine_fills i g

end Sys2Proof.Machine
end

/-! The trigger of a line, the Mark Unit and the web-break watch (R103, R106, R120). -/

section
namespace Sys2Proof.Machine

variable {s t u : State} {i : Fin 4} {c : CamCfg} {g : LineTag} {p : List Byte}

/-! ## The entry of a line (R103) -/

theorem State.reportFalse_of_false {k d : Nat} (false : s.causeTrue k d = false) : s.reportFalse k d = s :=
  if_neg (by rw [false]; exact Bool.false_ne_true)

/-- The camera whose trigger of number `n` is taken. -/
def Cam.takeEntry (n : Nat) (x : Cam) : Cam := { x with trigs := x.trigs.eraseP fun e => e.number == n, missing := 0 }

theorem State.takeEntry_reported (i : Fin 4) (n : Nat) (s : State) :
    (s.onCam i (Cam.takeEntry n)).Reported (s.takeEntry i n) := State.reportFalse_reported 18 i.val _

/-- Cause 18 of the camera is false, and no other cause changes. -/
theorem State.takeEntry_causeTrue (i : Fin 4) (n k d : Nat) (s : State) :
    (s.takeEntry i n).causeTrue k d = (s.causeTrue k d && !(k == 18 && d == i.val)) :=
  State.reportFalse_causeTrue 18 i.val k d (s.onCam i (Cam.takeEntry n))

/-- With cause 18 false the entry is all that goes. -/
theorem State.takeEntry_of_false {n : Nat} (seen : s.causeTrue 18 i.val = false) :
    s.takeEntry i n = s.onCam i (Cam.takeEntry n) :=
  State.reportFalse_of_false (s := s.onCam i (Cam.takeEntry n)) seen

/-! ## The Mark Unit (R120) -/

theorem State.markLine_eq (i : Fin 4) (c : CamCfg) (g : LineTag) (p : List Byte) (s : State) :
    s.markLine i c g p = { s with mu := (s.markLine i c g p).mu } := by
  unfold State.markLine
  split <;> rfl

theorem State.markLine_partial (part : g.isPartial = true) : s.markLine i c g p = s := if_pos part

theorem State.markLine_whole (whole : g.isPartial = false) : s.markLine i c g p =
    s.onLoop i fun l => l.onEntries (MarkEntry.takeLine c g (darkness c p)) :=
  if_neg (by rw [whole]; exact Bool.false_ne_true)

/-! ## The web-break watch (R106) -/

theorem Quad.set_get {α : Type} (q : Quad α) (i : Fin 4) : q.set i (q.get i) = q := by
  match i with
  | 0 | 1 | 2 | 3 => rfl

/-- The watch flips cause 16 with this line. -/
def State.webFlips (i : Fin 4) (c : CamCfg) (p : List Byte) (s : State) : Prop :=
  c.breakLength ≠ 0 ∧ webPresent c p = s.causeTrue 16 i.val ∧ c.breakLength ≤ (s.cam i).webCount + 1

/-- From `s` to `u` the web-break watch judged a line: it set its count, and reported cause 16 where `flips`. -/
structure State.Judges (i : Fin 4) (flips : Prop) (s u : State) : Prop where
  reported : ∃ n, (s.onCam i fun x => { x with webCount := n }).Reported u
  flipped : flips → u.causeTrue 16 i.val = !s.causeTrue 16 i.val
  stays : ¬ flips → u.causeTrue 16 i.val = s.causeTrue 16 i.val
  others : ∀ k d, k ≠ 16 → k ≠ 12 → u.causeTrue k d = s.causeTrue k d
  ring : u.causeTrue 16 i.val = s.causeTrue 16 i.val → u.rp = s.rp

theorem State.Judges.counted {flips : Prop} (n : Nat) (stays : ¬ flips) (s : State) :
    s.Judges i flips (s.onCam i fun x => { x with webCount := n }) :=
  ⟨⟨n, .refl _⟩, fun k => absurd k stays, fun _ => rfl, fun _ _ _ _ => rfl, fun _ => rfl⟩

theorem State.report_other {k d : Nat} (c x : Nat) (b : Bool) (other : k ≠ c) (late : k ≠ 12) (s : State) :
    (s.report c x b).causeTrue k d = s.causeTrue k d := by
  have apart : (k == c) = false := beq_eq_false_iff_ne.mpr other
  cases b with
  | true =>
    exact State.reportTrue_other c x k d s (fun e => other (Prod.mk.inj e).1) (fun e => late (Prod.mk.inj e).1)
  | false => exact (State.reportFalse_causeTrue c x k d s).trans (by simp [apart])

theorem State.judgeWeb_judges (i : Fin 4) (c : CamCfg) (p : List Byte) (s : State) :
    s.Judges i (s.webFlips i c p) (s.judgeWeb i c p) := by
  unfold State.judgeWeb
  dsimp only
  split
  · next off =>
    have same : s.onCam i (fun x => { x with webCount := (s.cam i).webCount }) = s :=
      congrArg (fun q => { s with cu := { s.cu with cams := q } }) (Quad.set_get s.cu.cams i)
    have counted := State.Judges.counted (i := i) (flips := s.webFlips i c p) (s.cam i).webCount (fun k => k.1 off) s
    rwa [same] at counted
  · next on =>
    generalize count : (if webPresent c p == s.causeTrue 16 i.val then (s.cam i).webCount + 1 else 0) = n
    split
    · next short =>
      refine .counted n (fun ⟨_, contrary, reached⟩ => ?_) s
      rw [if_pos (beq_iff_eq.mpr contrary)] at count
      omega
    · next reached =>
      have contrary : webPresent c p = s.causeTrue 16 i.val := by
        by_contra other
        rw [if_neg (by simpa using other)] at count
        omega
      rw [if_pos (beq_iff_eq.mpr contrary)] at count
      have flips : s.webFlips i c p := ⟨on, contrary, by omega⟩
      have told := State.report_true 16 i.val (!s.causeTrue 16 i.val) (s.onCam i fun x => { x with webCount := 0 })
      exact
        { reported := ⟨0, State.report_reported ..⟩
          flipped := fun _ => told
          stays := fun k => absurd flips k
          others := fun k d other late => State.report_other 16 i.val _ other late _
          ring := fun same => by rw [told] at same; simp at same }

end Sys2Proof.Machine
end

/-! The view lines that a line makes (R181). -/

section
namespace Sys2Proof.Machine

variable {s t u : State} {i : Fin 4} {g : LineTag} {p : List Byte} {v : Viewer} {l vs : List Viewer}

/-! ## Frames offered by the Screen Unit -/

theorem State.offerAll_rp (fs : List LaneFrame) (s : State) : (s.offerAll fs).rp = (s.offers fs).rp := by
  induction fs generalizing s with
  | nil => rfl
  | cons f fs ih =>
    have ports := State.PortsOnly.offerScreen f s
    rw [State.offers_cons]
    refine (ih (s.offerScreen f)).trans (State.offers_rp_congr ?_ ?_ ?_ fs)
    · exact State.offerScreen_rp f s
    · rw [ports, State.offer_eq]
    · rw [ports, State.offer_eq]

/-! ## One entry of the viewer set -/

/-- The entry of a viewer's key has had a view line at `now`. -/
def Viewer.served (now : Nat) (v x : Viewer) : Viewer :=
  if x.hasKey v.station v.slot then { x with last := some now } else x

/-- The viewer set of camera `i` once the entry of a viewer has had a view line. -/
def Scu.serve (i : Fin 4) (now : Nat) (c : Scu) (v : Viewer) : Scu :=
  { c with viewers := c.viewers.modify i fun vs => vs.map (Viewer.served now v) }

/-- The View line frames that a line makes for an entry. -/
def Viewer.frames (i : Fin 4) (g : LineTag) (p : List Byte) (v : Viewer) : List LaneFrame :=
  viewLineFrames v.station v.slot i.val g.forView (viewPixels v.decimation v.width p)

/-- The view line handed to the own slot. -/
def Viewer.ownLine (i : Fin 4) (g : LineTag) (p : List Byte) (v : Viewer) : ViewLineMsg :=
  { station := v.station, slot := v.slot, cam := i.val, tag := g.forView, column := 0
    pixels := viewPixels v.decimation v.width p }

theorem State.viewLineFor_idle (idle : v.due s.now = false ∨ s.waits 7 = true) : s.viewLineFor i g p v = s := by
  refine if_neg ?_
  rcases idle with e | e <;> simp [e]

theorem State.viewLineFor_own (due : v.due s.now = true) (free : s.waits 7 = false) (own : v.station = s.ownStation) :
    s.viewLineFor i g p v = s.onScu fun c => (c.serve i s.now v).takeViewLine (v.ownLine i g p) :=
  (if_pos (by rw [due, free]; rfl)).trans (if_pos own)

theorem State.viewLineFor_elsewhere (due : v.due s.now = true) (free : s.waits 7 = false)
    (other : v.station ≠ s.ownStation) :
    s.viewLineFor i g p v = (s.onScu fun c => c.serve i s.now v).offerAll (v.frames i g p) :=
  (if_pos (by rw [due, free]; rfl)).trans (if_neg other)

/-- A view line changes the Screen Unit, and offers frames or nothing. -/
theorem State.viewLineFor_eq (i : Fin 4) (g : LineTag) (p : List Byte) (v : Viewer) (s : State) :
    s.viewLineFor i g p v =
      { s with scu := (s.viewLineFor i g p v).scu, rp := (s.viewLineFor i g p v).rp, cmp := (s.viewLineFor i g p v).cmp } := by
  by_cases idle : v.due s.now = false ∨ s.waits 7 = true
  · rw [State.viewLineFor_idle idle]
  · simp only [not_or, Bool.not_eq_false, Bool.not_eq_true] at idle
    obtain ⟨due, free⟩ := idle
    by_cases own : v.station = s.ownStation
    · rw [State.viewLineFor_own due free own]
      rfl
    · rw [State.viewLineFor_elsewhere due free own]
      have ports := State.PortsOnly.offerAll (v.frames i g p) (s.onScu fun c => c.serve i s.now v)
      generalize (s.onScu fun c => c.serve i s.now v).offerAll (v.frames i g p) = w at ports
      rw [ports]
      rfl

end Sys2Proof.Machine
end

/-! The viewer set as a whole (R181). -/

section
namespace Sys2Proof.Machine

variable {s t u : State} {i : Fin 4} {g : LineTag} {p : List Byte} {v : Viewer} {l vs : List Viewer}

/-! ## The entries in turn -/

/-- Entries of a viewer set offered a line in turn. -/
def State.viewLines (i : Fin 4) (g : LineTag) (p : List Byte) (l : List Viewer) (s : State) : State :=
  l.foldl (State.viewLineFor i g p) s

theorem State.viewLines_cons (v : Viewer) (l : List Viewer) (s : State) :
    s.viewLines i g p (v :: l) = (s.viewLineFor i g p v).viewLines i g p l := rfl

theorem State.viewersTake_eq (i : Fin 4) (g : LineTag) (p : List Byte) (s : State) :
    s.viewersTake i g p = s.viewLines i g p (s.scu.viewers.get i) := rfl

theorem State.viewLines_eq (i : Fin 4) (g : LineTag) (p : List Byte) (l : List Viewer) (s : State) :
    s.viewLines i g p l =
      { s with scu := (s.viewLines i g p l).scu, rp := (s.viewLines i g p l).rp, cmp := (s.viewLines i g p l).cmp } := by
  induction l generalizing s with
  | nil => rfl
  | cons v l ih => rw [State.viewLines_cons, ih, State.viewLineFor_eq]

/-- Only the entries that are due make a view line. -/
theorem State.viewLines_due (l : List Viewer) (s : State) :
    s.viewLines i g p l = s.viewLines i g p (l.filter (Viewer.due s.now)) := by
  induction l generalizing s with
  | nil => rfl
  | cons v l ih =>
    by_cases due : v.due s.now = true
    · have now : (s.viewLineFor i g p v).now = s.now := by rw [State.viewLineFor_eq]
      rw [List.filter_cons_of_pos due, State.viewLines_cons, State.viewLines_cons, ih, now]
    · rw [List.filter_cons_of_neg due, State.viewLines_cons,
        State.viewLineFor_idle (.inl (Bool.eq_false_iff.mpr due)), ih]

/-- None makes one while a View line frame waits. -/
theorem State.viewLines_waiting (waits : s.waits 7 = true) (l : List Viewer) : s.viewLines i g p l = s := by
  induction l with
  | nil => rfl
  | cons v l ih => rw [State.viewLines_cons, State.viewLineFor_idle (.inr waits), ih]

/-- Entries of other stations, all due, where no View line frame waits in the end: each makes its view line. -/
theorem State.viewLines_elsewhere (due : ∀ v ∈ l, v.due s.now = true) (others : ∀ v ∈ l, v.station ≠ s.ownStation)
    (free : (s.viewLines i g p l).waits 7 = false) :
    (s.viewLines i g p l).scu = l.foldl (Scu.serve i s.now) s.scu ∧
      (s.viewLines i g p l).rp = (s.offers (l.flatMap (Viewer.frames i g p))).rp := by
  induction l generalizing s with
  | nil => exact ⟨rfl, rfl⟩
  | cons v l ih =>
    have idle : s.waits 7 = false := by
      by_contra waits
      rw [State.viewLines_waiting (Bool.not_eq_false _ ▸ waits)] at free
      exact waits free
    obtain ⟨dueFirst, dueRest⟩ := List.forall_mem_cons.mp due
    obtain ⟨otherFirst, otherRest⟩ := List.forall_mem_cons.mp others
    have first := State.viewLineFor_elsewhere (i := i) (g := g) (p := p) dueFirst idle otherFirst
    have ports := State.PortsOnly.offerAll (v.frames i g p) (s.onScu fun c => c.serve i s.now v)
    have ring := State.offerAll_rp (v.frames i g p) (s.onScu fun c => c.serve i s.now v)
    rw [State.viewLines_cons, first] at free ⊢
    generalize (s.onScu fun c => c.serve i s.now v).offerAll (v.frames i g p) = w at ports ring free
    have now : w.now = s.now := by rw [ports]; rfl
    have station : w.ownStation = s.ownStation := by rw [ports]; rfl
    have rp : w.rp = (s.offers (v.frames i g p)).rp :=
      ring.trans (State.offers_rp_congr (s := s) (t := s.onScu fun c => c.serve i s.now v) rfl rfl rfl _)
    obtain ⟨scu, rest⟩ := ih (s := w) (by rw [now]; exact dueRest) (by rw [station]; exact otherRest) free
    rw [now] at scu
    refine ⟨scu.trans ?_, rest.trans (State.offers_offers_rp rp (by rw [ports]; rfl) (by rw [ports]; rfl) _)⟩
    rw [ports]
    rfl

/-! ## The entries served -/

theorem Quad.modify_modify {α : Type} (f f' : α → α) (q : Quad α) (i : Fin 4) :
    (q.modify i f).modify i f' = q.modify i fun x => f' (f x) := by
  match i with
  | 0 | 1 | 2 | 3 => rfl

theorem Viewer.served_key (now : Nat) (v x : Viewer) :
    (v.served now x).station = x.station ∧ (v.served now x).slot = x.slot := by
  unfold Viewer.served
  split <;> exact ⟨rfl, rfl⟩

/-- Entries served one by one are the entries with one of their keys. -/
theorem Scu.serve_all (i : Fin 4) (now : Nat) (l : List Viewer) (c : Scu) : l.foldl (Scu.serve i now) c =
    { c with viewers := c.viewers.modify i fun vs => vs.map fun x =>
        if l.any fun v => x.hasKey v.station v.slot then { x with last := some now } else x } := by
  induction l generalizing c with
  | nil =>
    have same : (c.viewers.modify i fun vs => vs.map fun x => x) = c.viewers := by
      simpa [Quad.modify] using Quad.set_get c.viewers i
    exact congrArg (fun q => { c with viewers := q }) same.symm
  | cons v l ih =>
    have both (x : Viewer) : (if l.any fun w => (v.served now x).hasKey w.station w.slot then
        { v.served now x with last := some now } else v.served now x) =
        if (v :: l).any fun w => x.hasKey w.station w.slot then { x with last := some now } else x := by
      obtain ⟨station, slot⟩ := Viewer.served_key now v x
      simp only [Viewer.hasKey, station, slot, List.any_cons]
      unfold Viewer.served Viewer.hasKey
      by_cases own : (x.station == v.station && x.slot == v.slot) = true
      · simp [own]
      · simp [Bool.eq_false_iff.mpr own]
    rw [List.foldl_cons, ih]
    unfold Scu.serve
    simp only [Quad.modify_modify, List.map_map, Function.comp_def, both]

/-- With the keys of a set distinct, the entry of a key is the one entry that has it. -/
theorem Viewer.any_hasKey {x : Viewer} (distinct : (vs.map fun v => (v.station, v.slot)).Nodup) (sub : l ⊆ vs)
    (mem : x ∈ vs) : (l.any fun v => x.hasKey v.station v.slot) = true ↔ x ∈ l := by
  rw [List.any_eq_true]
  constructor
  · rintro ⟨v, hv, key⟩
    simp only [Viewer.hasKey, Bool.and_eq_true, beq_iff_eq] at key
    obtain ⟨station, slot⟩ := key
    have same : x = v := List.inj_on_of_nodup_map distinct mem (sub hv) (by rw [station, slot])
    exact same ▸ hv
  · intro hx
    exact ⟨x, hx, by simp [Viewer.hasKey]⟩

/-- The viewer set of camera `i` once the entries of `l` have had a view line. -/
def Scu.served (i : Fin 4) (now : Nat) (l : List Viewer) (c : Scu) : Scu :=
  { c with viewers := c.viewers.set i ((c.viewers.get i).map fun v =>
      if v ∈ l then { v with last := some now } else v) }

theorem Scu.serve_served {c : Scu} (now : Nat) (distinct : ((c.viewers.get i).map fun v => (v.station, v.slot)).Nodup)
    (sub : l ⊆ c.viewers.get i) : l.foldl (Scu.serve i now) c = c.served i now l := by
  rw [Scu.serve_all]
  refine congrArg (fun x => { c with viewers := c.viewers.set i x }) (List.map_congr_left fun x mem => ?_)
  simp only [Viewer.any_hasKey distinct sub mem]

end Sys2Proof.Machine
end

/-! A camera line taken: its trigger and its four users (R103, R105, R106, R109 to R111, R120, R181). -/

section
namespace Sys2Proof.Machine

variable {s t u w : State} {i : Fin 4} {c : CamCfg} {e : Trigger} {g : LineTag} {p px : List Byte} {n : Nat}

/-! ## The pixels of a line (R105) -/

theorem padTo_length (n : Nat) (l : List Byte) : (padTo n l).length = n := by
  simp only [padTo, fill, List.length_append, List.length_take, List.length_replicate]
  omega

theorem padTo_whole {l : List Byte} (whole : l.length = n) : padTo n l = l := by
  simp [padTo, fill, ← whole]

/-! ## The step (R103) -/

theorem exec_cameraLine_untaken
    (untaken : s.camCfg i = none ∨ (s.cam i).trigs.find? (fun e => e.number == n) = none) (t : Nat) (px : List Byte) :
    exec (.cameraLine t i n px) s = .next (s.atTime t) := by
  have run : exec (.cameraLine t i n px) s = execCameraLine t i n px s := rfl
  rw [run, execCameraLine]
  split
  · next c e present found =>
    rcases untaken with absent | gone
    · exact absurd (absent.symm.trans present) (Option.some_ne_none c).symm
    · exact absurd (gone.symm.trans found) (Option.some_ne_none e).symm
  · rfl

/-- The trigger of the line has left its list. -/
def State.lineTaken (t : Nat) (i : Fin 4) (n : Nat) (s : State) : State := (s.atTime t).takeEntry i n

theorem exec_cameraLine_taken (present : s.camCfg i = some c)
    (found : (s.cam i).trigs.find? (fun e => e.number == n) = some e) (t : Nat) (px : List Byte) :
    exec (.cameraLine t i n px) s =
      .next ((s.lineTaken t i n).goodLine i c (e.tag.arrived c px) (padTo c.width px)) := by
  have config : (s.atTime t).camCfg i = some c := present
  have entry : ((s.atTime t).cam i).trigs.find? (fun e => e.number == n) = some e := found
  simp only [exec, execCameraLine, config, entry]
  rfl

/-- The state with the trigger of the line taken, but for what the report of cause 18 changes. -/
theorem State.lineTaken_reported (t : Nat) (i : Fin 4) (n : Nat) (s : State) :
    ((s.atTime t).onCam i (Cam.takeEntry n)).Reported (s.lineTaken t i n) := State.takeEntry_reported i n _

theorem State.lineTaken_cam (t : Nat) (i : Fin 4) (n : Nat) (s : State) :
    (s.lineTaken t i n).cam i = (s.cam i).takeEntry n := by
  rw [State.cam, (s.lineTaken_reported t i n).cu_eq]
  exact State.onCam_cam i _ (s.atTime t)

theorem State.lineTaken_cam_ne {j : Fin 4} (different : j ≠ i) (t : Nat) (n : Nat) (s : State) :
    (s.lineTaken t i n).cam j = s.cam j := by
  rw [State.cam, (s.lineTaken_reported t i n).cu_eq]
  exact State.onCam_cam_ne different _ (s.atTime t)

/-! ## The four users of a line (R103) -/

/-- The Mark Unit and the viewer set have taken the line. -/
def State.lineSeen (i : Fin 4) (c : CamCfg) (g : LineTag) (p : List Byte) (s : State) : State :=
  (s.markLine i c g p).viewersTake i g p

theorem State.lineSeen_eq (i : Fin 4) (c : CamCfg) (g : LineTag) (p : List Byte) (s : State) :
    s.lineSeen i c g p = { s with
      mu := (s.markLine i c g p).mu, scu := (s.lineSeen i c g p).scu, rp := (s.lineSeen i c g p).rp
      cmp := (s.lineSeen i c g p).cmp } := by
  rw [State.lineSeen, State.viewersTake_eq, State.viewLines_eq, State.markLine_eq]

/-- From `s`, whose trigger of the line is taken, to `u` the four users of a line acted: `w` is the state in which the strip
filler takes it. -/
structure State.LineActs (i : Fin 4) (c : CamCfg) (g : LineTag) (p : List Byte) (s w u : State) : Prop where
  kept : u.now = s.now ∧ u.su.line = s.su.line ∧ u.mc = s.mc
  marks : u.mu = (s.markLine i c g p).mu
  screen : u.scu = (s.lineSeen i c g p).scu
  flipped : s.webFlips i c p → u.causeTrue 16 i.val = !s.causeTrue 16 i.val
  stays : ¬ s.webFlips i c p → u.causeTrue 16 i.val = s.causeTrue 16 i.val
  missing : u.causeTrue 18 i.val = s.causeTrue 18 i.val
  ring : u.causeTrue 16 i.val = s.causeTrue 16 i.val → u.rp = (s.lineSeen i c g p).rp
  filled : u = w.fillStrip i c g p
  camera : ∃ m, w.cam i = { s.cam i with webCount := m }
  others : ∀ j, j ≠ i → w.cam j = s.cam j
  counts : w.cu.droppedLines = s.cu.droppedLines

theorem State.goodLine_acts (i : Fin 4) (c : CamCfg) (g : LineTag) (p : List Byte) (s : State) :
    ∃ w, s.LineActs i c g p w (s.goodLine i c g p) := by
  have seen := s.lineSeen_eq i c g p
  have run : s.goodLine i c g p = ((s.lineSeen i c g p).judgeWeb i c p).fillStrip i c g p := rfl
  rw [run]
  have judged := (s.lineSeen i c g p).judgeWeb_judges i c p
  generalize (s.lineSeen i c g p).judgeWeb i c p = w at judged
  obtain ⟨⟨m, reported⟩, flipped, stays, others, ring⟩ := judged
  have filled := w.fillStrip_fills i c g p
  refine ⟨w, ?_⟩
  generalize fills : w.fillStrip i c g p = u at filled
  have cause (k d : Nat) : u.causeTrue k d = w.causeTrue k d := by rw [filled.fields]; rfl
  have before (k d : Nat) : (s.lineSeen i c g p).causeTrue k d = s.causeTrue k d := by rw [seen]; rfl
  have cam (j : Fin 4) : (s.lineSeen i c g p).cam j = s.cam j := by rw [seen]; rfl
  have flips : (s.lineSeen i c g p).webFlips i c p ↔ s.webFlips i c p := by
    unfold State.webFlips
    rw [before, cam]
  have judgedCam (j : Fin 4) : w.cam j = ((s.lineSeen i c g p).onCam i fun x => { x with webCount := m }).cam j := by
    rw [State.cam, reported.cu_eq]; rfl
  rw [flips] at flipped stays
  rw [before] at flipped stays ring
  exact
    { kept := by
        rw [filled.fields]
        refine ⟨reported.now_eq.trans ?_, ?_, reported.mc_eq.trans ?_⟩
        · rw [seen]; rfl
        · dsimp only
          rw [reported.shaft, seen]
          rfl
        · rw [seen]; rfl
      marks := by
        rw [filled.fields]
        refine reported.mu_eq.trans ?_
        rw [seen]; rfl
      screen := by
        rw [filled.fields]
        exact reported.scu_eq
      flipped := fun k => (cause 16 i.val).trans (flipped k)
      stays := fun k => (cause 16 i.val).trans (stays k)
      missing := (cause 18 i.val).trans ((others 18 i.val (by decide) (by decide)).trans (before 18 i.val))
      ring := fun same => by
        rw [cause] at same
        rw [filled.fields]
        exact ring same
      filled := fills.symm
      camera := ⟨m, by rw [judgedCam, State.onCam_cam, cam]⟩
      others := fun j different => by rw [judgedCam, State.onCam_cam_ne different, cam]
      counts := by
        rw [reported.cu_eq, seen]
        rfl }

end Sys2Proof.Machine
end

/-! The obligation about a camera line: its view lines (R181). -/

section
namespace Sys2Proof.Machine

variable {s t u w : State} {i : Fin 4} {c : CamCfg} {e : Trigger} {g : LineTag} {p px : List Byte} {n : Nat} {v : Viewer}

/-! ## The view lines (R181) -/

/-- The entries of a camera's viewer set that are due. -/
def State.viewersDue (i : Fin 4) (s : State) : List Viewer := (s.scu.viewers.get i).filter (Viewer.due s.now)

theorem State.viewersTake_due (i : Fin 4) (g : LineTag) (p : List Byte) (s : State) :
    s.viewersTake i g p = s.viewLines i g p (s.viewersDue i) := State.viewLines_due _ s

theorem State.viewersDue_due (s : State) : ∀ v ∈ s.viewersDue i, v.due s.now = true := fun _ mem => (List.mem_filter.mp mem).2

theorem State.viewersTake_idle (idle : s.waits 7 = true ∨ s.viewersDue i = []) : s.viewersTake i g p = s := by
  rw [State.viewersTake_due]
  rcases idle with waits | none
  · exact State.viewLines_waiting waits _
  · rw [none]
    rfl

section
variable (distinct : ((s.scu.viewers.get i).map fun v => (v.station, v.slot)).Nodup) (free : s.waits 7 = false)
include distinct free

theorem State.viewersTake_elsewhere (others : ∀ v ∈ s.viewersDue i, v.station ≠ s.ownStation)
    (room : (s.viewersTake i g p).waits 7 = false ∨ (s.viewersDue i).length = 1) :
    (s.viewersTake i g p).scu = s.scu.served i s.now (s.viewersDue i) ∧
      (s.viewersTake i g p).rp = (s.offers ((s.viewersDue i).flatMap (Viewer.frames i g p))).rp := by
  have due := s.viewersDue_due (i := i)
  have served := Scu.serve_served (c := s.scu) (i := i) s.now distinct (l := s.viewersDue i) (List.filter_subset_self _)
  rw [State.viewersTake_due] at room ⊢
  rw [← served]
  rcases room with room | one
  · exact State.viewLines_elsewhere due others room
  · obtain ⟨v, single⟩ := List.length_eq_one_iff.mp one
    rw [single] at due others ⊢
    have line := State.viewLineFor_elsewhere (i := i) (g := g) (p := p) (due v (List.mem_singleton_self v)) free
      (others v (List.mem_singleton_self v))
    have ports := State.PortsOnly.offerAll (v.frames i g p) (s.onScu fun c => c.serve i s.now v)
    have ring := State.offerAll_rp (v.frames i g p) (s.onScu fun c => c.serve i s.now v)
    rw [State.viewLines_cons, line]
    refine ⟨by rw [ports]; rfl, ?_⟩
    rw [List.flatMap_singleton]
    exact ring.trans (State.offers_rp_congr (s := s) (t := s.onScu fun c => c.serve i s.now v) rfl rfl rfl _)

theorem State.viewersTake_own (single : s.viewersDue i = [v]) (own : v.station = s.ownStation) :
    s.viewersTake i g p = s.onScu fun c => (c.served i s.now [v]).takeViewLine (v.ownLine i g p) := by
  have due : v.due s.now = true := s.viewersDue_due v (single ▸ List.mem_singleton_self v)
  have served := Scu.serve_served (c := s.scu) (i := i) s.now distinct (l := s.viewersDue i) (List.filter_subset_self _)
  rw [single] at served
  rw [State.viewersTake_due, single, State.viewLines_cons, State.viewLineFor_own due free own]
  exact congrArg (fun x => { s with scu := x.takeViewLine (v.ownLine i g p) }) served
end

/-- The state in which the viewer set of the camera takes the line. -/
def State.lineMarked (t : Nat) (i : Fin 4) (n : Nat) (c : CamCfg) (g : LineTag) (p : List Byte) (s : State) : State :=
  (s.lineTaken t i n).markLine i c g p

/-- With cause 18 false the Screen Unit and the Ring Port are as they were. -/
theorem State.lineMarked_of_false (seen : s.causeTrue 18 i.val = false) (t n : Nat) (c : CamCfg) (g : LineTag)
    (p : List Byte) : s.lineMarked t i n c g p =
      { s.atTime t with cu := (s.lineMarked t i n c g p).cu, mu := (s.lineMarked t i n c g p).mu } := by
  have taken : s.lineTaken t i n = (s.atTime t).onCam i (Cam.takeEntry n) := State.takeEntry_of_false seen
  rw [State.lineMarked, State.markLine_eq, taken]
  rfl

/-- The view lines that a line makes, with no cause 18 to withdraw (R181). -/
theorem cameraLine_views {t : Nat} {vs due : List Viewer} {line : Viewer → List Byte} {tag : LineTag} {marked : Scu}
    (present : s.camCfg i = some c) (found : (s.cam i).trigs.find? (fun e => e.number == n) = some e)
    (seen : s.causeTrue 18 i.val = false) (set : vs = s.scu.viewers.get i)
    (distinct : (vs.map fun v => (v.station, v.slot)).Nodup) (dues : due = vs.filter (Viewer.due (max s.now t)))
    (lines : line = fun v => viewPixels v.decimation v.width (padTo c.width px))
    (tags : tag = (e.tag.arrived c px).forView) (marks : marked = s.scu.served i (max s.now t) due) :
    ∃ u, exec (.cameraLine t i n px) s = .next u ∧
      (s.waits 7 = true ∨ due = [] → u.scu = s.scu ∧ (u.causeTrue 16 i.val = s.causeTrue 16 i.val → u.rp = s.rp)) ∧
      (s.waits 7 = false → (∀ v ∈ due, v.station ≠ s.ownStation) → u.causeTrue 16 i.val = s.causeTrue 16 i.val →
        u.waits 7 = false ∨ due.length = 1 → u.scu = marked ∧
        u.rp = ((due.flatMap fun v => viewLineFrames v.station v.slot i.val tag (line v)).foldl (fun y f => y.offer f) s).rp) ∧
      ∀ v, s.waits 7 = false → due = [v] → v.station = s.ownStation →
        u.scu = marked.takeViewLine
          { station := v.station, slot := v.slot, cam := i.val, tag := tag, column := 0, pixels := line v } ∧
        (u.causeTrue 16 i.val = s.causeTrue 16 i.val → u.rp = s.rp) := by
  subst set lines tags marks
  refine ⟨_, exec_cameraLine_taken present found t px, ?_⟩
  obtain ⟨w, acts⟩ := (s.lineTaken t i n).goodLine_acts i c (e.tag.arrived c px) (padTo c.width px)
  have screen := acts.screen
  have ring := acts.ring
  have cause : (s.lineTaken t i n).causeTrue 16 i.val = s.causeTrue 16 i.val :=
    (State.takeEntry_causeTrue i n 16 i.val (s.atTime t)).trans (Bool.and_true _)
  rw [cause] at ring
  generalize (s.lineTaken t i n).goodLine i c (e.tag.arrived c px) (padTo c.width px) = u at screen ring
  have start := State.lineMarked_of_false seen t n c (e.tag.arrived c px) (padTo c.width px)
  have run : (s.lineTaken t i n).lineSeen i c (e.tag.arrived c px) (padTo c.width px) =
    (s.lineMarked t i n c (e.tag.arrived c px) (padTo c.width px)).viewersTake i (e.tag.arrived c px) (padTo c.width px) := rfl
  rw [run] at screen ring
  generalize s.lineMarked t i n c (e.tag.arrived c px) (padTo c.width px) = m at start screen ring
  have viewers : m.viewersDue i = due := by rw [dues, start]; rfl
  have waits : m.waits 7 = s.waits 7 := by rw [start]; rfl
  have scu : m.scu = s.scu := by rw [start]; rfl
  have now : m.now = max s.now t := by rw [start]; rfl
  have rp : m.rp = s.rp := by rw [start]; rfl
  have station : m.ownStation = s.ownStation := by rw [start]; rfl
  have mset : ((m.scu.viewers.get i).map fun v => (v.station, v.slot)).Nodup := by rw [scu]; exact distinct
  refine ⟨fun idle => ?_, fun free others same room => ?_, fun v free single own => ?_⟩
  · rw [State.viewersTake_idle (by rw [waits, viewers]; exact idle)] at screen ring
    exact ⟨screen.trans scu, fun same => (ring same).trans rp⟩
  · have after : (m.viewersTake i (e.tag.arrived c px) (padTo c.width px)).waits 7 = u.waits 7 := by
      rw [State.waits, State.waits, ring same]
    obtain ⟨shown, offered⟩ := State.viewersTake_elsewhere (i := i) (g := e.tag.arrived c px) (p := padTo c.width px) mset
      (waits.trans free) (by rw [viewers, station]; exact others) (by rw [viewers, after]; exact room)
    rw [viewers] at shown offered
    refine ⟨screen.trans (shown.trans (by rw [scu, now])), ((ring same).trans offered).trans ?_⟩
    exact State.offers_rp_congr rp (by rw [start]; rfl) (by rw [start]; rfl) _
  · have taken := State.viewersTake_own (i := i) (g := e.tag.arrived c px) (p := padTo c.width px) mset (waits.trans free)
      (viewers.trans single) (own.trans station.symm)
    rw [taken] at screen ring
    refine ⟨screen.trans ?_, fun same => (ring same).trans rp⟩
    subst single
    rw [← now, ← scu]
    rfl

end Sys2Proof.Machine
end

/-! The obligation about a camera line: what it leaves in its camera (R103, R106, R109 to R111, R120). -/

section
namespace Sys2Proof.Machine

variable {s t u w : State} {i : Fin 4} {c : CamCfg} {e : Trigger} {g : LineTag} {p px : List Byte} {n : Nat}

/-! ## The Mark Unit (R120) -/

/-- The loops once a whole line has been offered to the open accumulators of camera `i`. -/
theorem State.markLine_whole_mu (whole : g.isPartial = false) : (s.markLine i c g p).mu =
    { s.mu with loops := s.mu.loops.set i { s.loop i with
      entries := (s.loop i).entries.map (MarkEntry.takeLine c g (darkness c p)) } } := by
  rw [State.markLine_whole whole]
  rfl

/-! ## The strip filler (R109 to R111) -/

/-- What the strip filler does with a line of index `g.index`, in the terms of the camera that takes it. -/
structure State.Filled (i : Fin 4) (c : CamCfg) (g : LineTag) (p : List Byte) (x : Cam) (dropped : Nat) (u : State) :
    Prop where
  unchosen : g.index % c.decimation ≠ 0 →
    (u.cam i).even = x.even ∧ (u.cam i).odd = x.odd ∧ (u.cam i).queue = x.queue ∧ (u.cam i).gap = x.gap ∧
      u.cu.droppedLines = dropped
  full : g.index % c.decimation = 0 → x.inProgress = true → 16 ≤ x.queue.length →
    (u.cam i).buf x.selector = { x.buf x.selector with overrun := true } ∧ (u.cam i).queue = x.queue ∧
      u.cu.droppedLines = bump dropped
  room : g.index % c.decimation = 0 → x.inProgress = true → x.queue.length < 16 →
    (u.cam i).buf x.selector =
      { x.buf x.selector with
        lines := (x.buf x.selector).lines + 1, complete := decide (c.height ≤ (x.buf x.selector).lines + 1) } ∧
    (u.cam i).queue.length = x.queue.length + 1 ∧
    ((u.cam i).inProgress = decide ((x.buf x.selector).lines + 1 < c.height)) ∧
    (x.queue ≠ [] → (u.cam i).queue = x.queue ++ [x.recordOf c g p])
  drop : g.index % c.decimation = 0 → x.inProgress = false → x.startHalf = none →
    (u.cam i).gap = some (x.gap.getD 0 + 1) ∧ u.cu.droppedLines = bump dropped ∧ (u.cam i).queue = x.queue
  start : ∀ k, g.index % c.decimation = 0 → x.inProgress = false → x.startHalf = some k → x.queue.length < 16 →
    (u.cam i).buf k =
      { x.buf k with
        begun := true, firstTag := some g, gap := x.gap
        lines := (x.buf k).lines + 1, complete := decide (c.height ≤ (x.buf k).lines + 1) } ∧
    (u.cam i).gap = none ∧ (u.cam i).queue.length = x.queue.length + 1

theorem Cam.startStrip_eq (h : Half) (g : LineTag) (x : Cam) :
    (x.startStrip h g).buf h = { x.buf h with begun := true, firstTag := some g, gap := x.gap } ∧
      (x.startStrip h g).selector = h ∧ (x.startStrip h g).queue = x.queue ∧ (x.startStrip h g).gap = none := by
  unfold Cam.startStrip
  cases h <;> exact ⟨rfl, rfl, rfl, rfl⟩

theorem State.fillStrip_filled (i : Fin 4) (c : CamCfg) (g : LineTag) (p : List Byte) (s : State) :
    State.Filled i c g p (s.cam i) s.cu.droppedLines (s.fillStrip i c g p) := by
  refine ⟨fun other => ?_, fun chosen busy full => ?_, fun chosen busy room => ?_, fun chosen idle none => ?_,
    fun k chosen idle half room => ?_⟩
  · rw [State.fillStrip_unchosen other]
    exact ⟨rfl, rfl, rfl, rfl, rfl⟩
  · rw [State.fillStrip_inProgress chosen busy, State.acceptLine_full full, State.onCam_cam, Cam.buf_onBuf, Cam.onBuf_queue]
    exact ⟨rfl, rfl, rfl⟩
  · rw [State.fillStrip_inProgress chosen busy]
    obtain ⟨-, buf, length, inProgress, -, record⟩ := State.acceptLine_accepts room c g p
    exact ⟨buf, length, inProgress, record⟩
  · rw [State.fillStrip_drop chosen idle none]
    exact s.dropLine_drops i g
  · rw [State.fillStrip_start chosen idle half]
    have started := s.startStrip_cam i k g
    obtain ⟨buffer, selector, queue, noGap⟩ := (s.cam i).startStrip_eq k g
    obtain ⟨-, buf, length, -, gap, -⟩ :=
      State.acceptLine_accepts (s := s.startStrip i k g) (i := i) (by rw [started, queue]; exact room) c g p
    rw [started] at buf length gap
    rw [selector, buffer] at buf
    exact ⟨buf, gap.trans noGap, length.trans (by rw [queue])⟩

/-- A camera whose triggers and counts differ takes a line in the same way. -/
theorem State.Filled.of_eq {x y : Cam} {d m : Nat} (f : State.Filled i c g p y d u)
    (same : y = { x.takeEntry n with webCount := m }) : State.Filled i c g p x d u := by
  subst same
  obtain ⟨unchosen, full, room, drop, start⟩ := f
  exact ⟨unchosen, full, room, drop, start⟩

/-! ## The step -/

/-- What a line taken leaves in its station and its camera. -/
theorem cameraLine_taken {t : Nat} (present : s.camCfg i = some c)
    (found : (s.cam i).trigs.find? (fun e => e.number == n) = some e) :
    ∃ u, exec (.cameraLine t i n px) s = .next u ∧ u.now = max s.now t ∧ u.su.line = s.su.line ∧ u.mc = s.mc ∧
      (u.cam i).trigs = ((s.cam i).trigs.eraseP fun e => e.number == n) ∧ (u.cam i).missing = 0 ∧
      u.causeTrue 18 i.val = false ∧
      (u.causeTrue 16 i.val = if c.breakLength ≠ 0 ∧ webPresent c (padTo c.width px) = s.causeTrue 16 i.val ∧
        c.breakLength ≤ (s.cam i).webCount + 1 then !s.causeTrue 16 i.val else s.causeTrue 16 i.val) ∧
      (∀ j, j ≠ i → u.cam j = s.cam j) ∧
      ((e.tag.arrived c px).isPartial = true → u.mu = s.mu) ∧
      ((e.tag.arrived c px).isPartial = false → u.mu = { s.mu with loops := s.mu.loops.set i { s.loop i with
        entries := (s.loop i).entries.map
          (MarkEntry.takeLine c (e.tag.arrived c px) (darkness c (padTo c.width px))) } }) ∧
      State.Filled i c (e.tag.arrived c px) (padTo c.width px) (s.cam i) s.cu.droppedLines u := by
  refine ⟨_, exec_cameraLine_taken present found t px, ?_⟩
  have taken := s.lineTaken_reported t i n
  have camera := s.lineTaken_cam t i n
  have others (j : Fin 4) (different : j ≠ i) := s.lineTaken_cam_ne different t n
  have cause (k : Nat) : (s.lineTaken t i n).causeTrue k i.val = (s.causeTrue k i.val && !(k == 18 && i.val == i.val)) :=
    State.takeEntry_causeTrue i n k i.val (s.atTime t)
  obtain ⟨w, acts⟩ := (s.lineTaken t i n).goodLine_acts i c (e.tag.arrived c px) (padTo c.width px)
  generalize s.lineTaken t i n = v at taken camera others cause acts
  generalize v.goodLine i c (e.tag.arrived c px) (padTo c.width px) = u at acts
  obtain ⟨⟨now, line, mc⟩, marks, -, flipped, stays, missing, -, filled, ⟨m, judged⟩, apart, counts⟩ := acts
  have fills := w.fillStrip_fills i c (e.tag.arrived c px) (padTo c.width px)
  have fill := w.fillStrip_filled i c (e.tag.arrived c px) (padTo c.width px)
  rw [← filled] at fills fill
  rw [camera] at judged
  have mu : v.mu = s.mu := taken.mu_eq
  have dropped : v.cu.droppedLines = s.cu.droppedLines := by rw [taken.cu_eq]; rfl
  have cause16 : v.causeTrue 16 i.val = s.causeTrue 16 i.val := (cause 16).trans (Bool.and_true _)
  have flips : v.webFlips i c (padTo c.width px) ↔ c.breakLength ≠ 0 ∧
      webPresent c (padTo c.width px) = s.causeTrue 16 i.val ∧ c.breakLength ≤ (s.cam i).webCount + 1 := by
    rw [State.webFlips, cause16, camera]
    rfl
  rw [flips, cause16] at flipped stays
  refine ⟨now.trans taken.now_eq, line.trans (by rw [taken.shaft]; rfl), mc.trans taken.mc_eq, ?_, ?_, ?_, ?_,
    fun j different => ?_, fun part => ?_, fun whole => ?_, ?_⟩
  · rw [fills.trigs, judged]
    rfl
  · rw [fills.missing, judged]
    rfl
  · rw [missing, cause]
    simp
  · split
    · next k => exact flipped k
    · next k => exact stays k
  · rw [fills.others j different, apart j different, others j different]
  · rw [marks, State.markLine_partial part, mu]
  · have loop : v.loop i = s.loop i := congrArg (fun m : Mu => m.loops.get i) mu
    rw [marks, State.markLine_whole_mu whole, mu, loop]
  · rw [counts, dropped] at fill
    exact fill.of_eq judged

/-- Settles O31: the line's trigger goes, its four users act in turn, and each leaves what the others act on. -/
theorem cameraLines : Obligations.CameraLines := by
  refine ⟨fun t i n px s untaken => exec_cameraLine_untaken untaken t px,
    fun t i n px s c e vs due line tag marked present found seen set distinct dues lines tags marks => ?_,
    fun t i n px s c e x broken present own found was => ?_⟩
  · refine cameraLine_views present found seen set distinct (dues.trans ?_) (lines.trans ?_) tags (marks.trans ?_)
    · exact congrArg (vs.filter ·) (funext fun v => rfl)
    · funext v
      rw [viewPixels, padTo_length]
    · rw [set]
      rfl
  · subst own was
    obtain ⟨u, run, now, shaft, members, trigs, missing, seen, web, others, part, whole, filled⟩ :=
      cameraLine_taken (px := px) present found
    obtain ⟨unchosen, full, room, drop, start⟩ := filled
    refine ⟨u, run, now, shaft, members, trigs, missing, seen, web, others, fun short => part (bne_iff_ne.mpr short),
      fun d same dark => ?_, unchosen, full, fun chosen busy space => ?_, drop, start⟩
    · refine (whole (bne_eq_false_iff_eq.mpr same)).trans ?_
      rw [padTo_whole same]
      subst dark
      exact congrArg (fun f => { s.mu with loops := s.mu.loops.set i { s.loop i with entries := (s.loop i).entries.map f } })
        (funext fun m => rfl)
    · obtain ⟨buf, length, busyStill, record⟩ := room chosen busy space
      exact ⟨buf, length, busyStill, fun waiting => ⟨_, record waiting, rfl, rfl, rfl, cutPages_bytes _ _⟩⟩

end Sys2Proof.Machine
end
